-- ==== Sys2Proof/Word.lean ====
section
/-! DEFINITION. The word types of the Calzep 4816, the index types of its bays, channels, engines,
slots and journal sectors, and the plainest arithmetic over them. -/

namespace Sys2Proof

/-- One byte of a frame, a block or the flash. -/
abbrev Byte := BitVec 8

/-- One word of the 16-bit host bus. -/
abbrev Word := BitVec 16

/-- The 64-bit identity of a cartridge. -/
abbrev Serial := BitVec 64

/-- Sixteen bytes: a challenge or a response (R16). -/
abbrev Bytes16 := BitVec 128

/-- A bay, 0 to 23: bay `2c` is bay A of channel `c`, bay `2c+1` is bay B. -/
abbrev BayId := Fin 24

/-- A channel, 0 to 11. -/
abbrev ChanId := Fin 12

/-- A tag bus engine, 0 to 3; engine `e` serves bays `6e` to `6e+5`. -/
abbrev EngId := Fin 4

/-- A ticket slot, 0 to 31. -/
abbrev SlotId := Fin 32

/-- A journal sector; the value `i` names sector `i + 1` of the flash (sectors 1 to 8). -/
abbrev SecId := Fin 8

/-- Addition that stays at its largest value (a counter said to saturate). -/
def satAdd (top a b : Nat) : Nat := min top (a + b)

/-- The largest value of a 16-bit counter. -/
def top16 : Nat := 65535

/-- The largest value of a 64-bit volume figure (R70). -/
def top64 : Nat := 18446744073709551615

/-- The largest sequence number and use stamp, 32 bits (R42, R160). -/
def top32 : Nat := 4294967295

/-- One of `n` like things changed in place. -/
def updAt {α : Type} {n : Nat} (v : Vector α n) (i : Fin n) (f : α → α) : Vector α n :=
  v.set i.val (f v[i]) i.isLt

/-- Every one of `n` like things changed by the same rule. -/
def mapAll {α β : Type} {n : Nat} (v : Vector α n) (f : Fin n → α → β) : Vector β n :=
  Vector.ofFn fun i => f i v[i]

/-- A list laid into `n` places, cut or filled up with `d`. -/
def fitList {α : Type} (n : Nat) (d : α) (l : List α) : Vector α n :=
  Vector.ofFn fun i => l.getD i.val d

end Sys2Proof
end

