-- ==== Sys2Proof/Syntax.lean ====
section
/-! DEFINITION. The commands of the part: one constructor of `Instr` for each row of
spec/opcode_table.json, with the operands of its event. -/

namespace Sys2Proof

/-- One 32-byte block: a tag block with its CRC, or one slot of a flash sector. -/
abbrev Block := Vector Byte 32

/-- The 26-byte argument area of a ticket slot (section 12.3). -/
abbrev Args := Vector Byte 26

/-- The 15 bytes of a complete tally link frame (R212). -/
abbrev LinkFrame := Vector Byte 15

/-- The key a tag answers challenges with. -/
inductive TagKey where
  /-- A key the line derived for this serial and ink_type (section 1.6). -/
  | line (serial : Serial) (inkType : Nat)
  /-- Any other key, of a tag that is not the line's product. -/
  | other (id : Nat)
deriving DecidableEq, Repr

/-- What a seated cartridge brings: the four blocks of its tag and the tag's key (R1 to R4, R8). -/
structure Cartridge where
  block0 : Block
  block1 : Block
  block2 : Block
  block3 : Block
  key    : TagKey
deriving DecidableEq, Repr

/-- The cartridge a PRESENCE_ACTIVE seats. -/
inductive Seating where
  /-- A cartridge that was pulled out of a bay, as its removal left it: 0 the one pulled last. -/
  | pulled (i : Nat)
  /-- Any other cartridge, a changed one among them. -/
  | other (c : Cartridge)
deriving DecidableEq, Repr

/-- A complete answer frame on a tag line: answer code, payload and frame CRC. The length byte is the
payload's length (R212). -/
structure AnswerFrame where
  code    : Byte
  payload : List Byte
  crc     : Word
deriving DecidableEq, Repr

/-- What of a tag's answer reaches the engine. -/
inductive Reception where
  /-- The frame the seated tag sent, whole. -/
  | asSent
  /-- Another complete frame: one damaged on the line, or sent by a tag that does not answer as R7 to
  R12 say. -/
  | other (f : AnswerFrame)
deriving DecidableEq, Repr

/-- How a profile rewrite ends: with every step verified, or at the step that did not verify (0 the
erase, `k` the `k`-th record program) with what that step leaves, by offset in the sector or the slot. A step that
leaves what it was to leave has verified. -/
inductive RewriteEnd where
  | verified
  | failed (step : Nat) (left : List (Nat × Byte))
deriving DecidableEq, Repr

/-- The commands: events at the part's ports, at its timers and at its flash, and tickets the host
leaves in a slot. A ticket command is the host's writes of kind, target and argument area of the slot and
then its write of FILLED to the hand word. `time` is the instant of an event in microseconds. -/
inductive Instr where
  | powerOnReset
  | startupRebuildComplete
  | presenceActive (bay : BayId) (seating : Seating)
  | bayRemoval (bay : BayId)
  | settleTimerExpiry (bay : BayId)
  | tallyFrame (frame : LinkFrame)
  | tallyLinkPauseTimeout
  | tallyFrameBroken
  | pfwActive
  | pfwInactive
  | arrivalWhileStarting (slot : SlotId)
  | arrivalWhileResetPending (slot : SlotId)
  | withdrawal (slot : SlotId)
  | release (slot : SlotId)
  | ignoredHandWrite (slot : SlotId) (value : Word)
  | hostWrite (address : Nat) (value : Word)
  | tallyPost (slot : SlotId) (target : Word) (args : Args)
  | purgePost (slot : SlotId) (target : Word) (args : Args)
  | postedReject (slot : SlotId) (kind target : Word) (args : Args)
  | badKind (slot : SlotId) (kind target : Word) (args : Args)
  | setProfile (slot : SlotId) (target : Word) (args : Args)
  | checkStore (slot : SlotId) (target : Word) (args : Args)
  | readTagBlock (slot : SlotId) (target : Word) (args : Args)
  | historyQuery (slot : SlotId) (target : Word) (args : Args)
  | forgetSerial (slot : SlotId) (target : Word) (args : Args)
  | clearHeld (slot : SlotId) (target : Word) (args : Args)
  | switchFeed (slot : SlotId) (target : Word) (args : Args)
  | enforce (slot : SlotId) (target : Word) (args : Args)
  | clearCounts (slot : SlotId) (target : Word) (args : Args)
  | selfTestCode2 (slot : SlotId) (bay : Byte)
  | selfTestCode3 (slot : SlotId) (bay : Byte)
  | selfTestCode5 (slot : SlotId) (bay : Byte)
  | selfTestCode6 (slot : SlotId) (bay : Byte)
  | selfTestCode9 (slot : SlotId) (bay : Byte)
  | noticeClear (value : Word)
  | noticeEnable (value : Word)
  | noticeRoute (value : Word)
  | resetReq (value : Word)
  | softReset
  | tagAnswerFrame (engine : EngId) (frame : Reception) (time : Nat)
  | answerWindowTimeout (engine : EngId) (time : Nat)
  | retryGapExpiry (engine : EngId)
  | authComputationComplete
  | senseTimerExpiry (bay : BayId)
  | settleIntervalExpiry (channel : ChanId)
  | recordProgram (readBack : Option Block)
  | headerProgram (readBack : Option Block)
  | sectorErase (left : List (Nat × Byte))
  | profileRewrite (result : RewriteEnd)
  | checkStoreRead
  | profileSectorRead
  | selfTestBadCode (slot : SlotId) (code bay : Byte)
  | tagWorkComplete (bay : BayId)
deriving DecidableEq, Repr

end Sys2Proof
end

