-- ==== Sys2Proof/Decode.lean ====
section
/-! DEFINITION. The decoder over the rows of spec/opcode_table.json that give bits. No row gives any: the
part's commands are events and tickets, and none is spelled by a word. How a ticket's kind, target and
arguments are read from its slot stands in Machine/Operands.lean. -/

namespace Sys2Proof

/-- The command a word of `nbits` bits spells by the table: none, since no row of the table gives bits. -/
def decodeTableWord (_nbits _w : Nat) : Option Instr := none

end Sys2Proof
end

