-- ==== Sys2Proof/Config.lean ====
section
/-! DEFINITION. What one part fixes: the times and limits the manual states, and the free values, which
it leaves open. A free value is an opaque constant with no body: nothing can be proved of what it is. -/

namespace Sys2Proof.Config

/-- The presence settle time, 200 ms, in microseconds (R18). -/
def settleTime : Nat := 200000

/-- The retry gap, 1 ms, in microseconds (R137). -/
def retryGap : Nat := 1000

/-- The time after the first attempt from which a BUSY answer discards, 100 ms, in microseconds (R140). -/
def busyLimit : Nat := 100000

/-- Consecutive failures that discard a transaction (R139). -/
def failureLimit : Nat := 32

/-- Entries of one engine's queue (R144). -/
def queueSize : Nat := 6

/-- Grants of classes 1 and 2 after which the head of the queue goes first (R147). -/
def passLimit : Nat := 4

/-- Marks of one BURN at most (R84). -/
def burnMost : Nat := 16

/-- Places of the history table (R40). -/
def historyPlaces : Nat := 256

/-- Slots in a row on which one record may fail before the journal is degraded (R162). -/
def recordTries : Nat := 8

/-- Bytes of one flash sector (Table 9-1). -/
def sectorBytes : Nat := 4096

/-- PART_ID: part 0x481, revision 1 (section 12.1). -/
def partId : Word := 0x4811#16

/-- Sense period in seconds that `sense_period` 0 selects (R116). -/
def defaultSensePeriod : Nat := 30

/-- FREE VALUE, the part's random source: the challenge of each draw. Any value may occur (R16). -/
opaque challengeDraw : Nat → Bytes16

/-- FREE VALUE, the keyed function fixed in silicon over the fused line secret, the serial, the ink_type
and the challenge. Equal inputs give equal outputs; the manual does not give the function (R16). -/
opaque keyedResponse : Serial → Nat → Bytes16 → Bytes16

/-- FREE VALUE, the response of a tag that is not the line's product, by that tag and the challenge (R8). -/
opaque foreignResponse : Nat → Bytes16 → Bytes16

/-- FREE VALUE, the serial fused for self-test code 5 (R206). -/
opaque fusedSerial : Serial

/-- FREE VALUE, the ink_type fused for self-test code 5 (R206). -/
opaque fusedInk : Nat

/-- FREE VALUE, the challenge fused for self-test code 5 (R206). -/
opaque fusedChallenge : Bytes16

/-- FREE VALUE, the expected result fused for self-test code 5 (R206). -/
opaque fusedExpected : Bytes16

/-- FREE VALUE, whether the command frame of an attempt reaches the tag with a good frame CRC (R6). -/
opaque tagHears : Nat → Bool

/-- FREE VALUE, whether a ready tag finishes its work within the attempt or answers BUSY (R8 to R12). -/
opaque tagAtOnce : Nat → Bool

/-- FREE VALUE, the level reading of a measurement (R12). -/
opaque tagLevel : Nat → Byte

/-- FREE VALUE, the sensor_ok of a measurement (R12). -/
opaque tagSensorOk : Nat → Bool

/-- FREE VALUE, how many of its marks a BURN cut short by a loss of power has burned; no more than it was sent
count (R5). -/
opaque cutMarks : Nat → Nat

/-- FREE VALUE, whether a SET_FLAG cut short by a loss of power has set its flag (R5). -/
opaque cutFlag : Nat → Bool

/-- FREE VALUE, what block 1 holds where a loss of power tore its update; a CRC-good value stands for an update
that was not torn (R5). -/
opaque tornBlock : Nat → Vector Byte 32

/-- FREE VALUE, how far past the model's clock an event lies that brings no instant of its own (R136, R140). -/
opaque untimedLag : Nat → Nat

/-- FREE VALUE, whether the byte at an offset already had its new content when a power-on reset cut the
flash operation in flight (R156). -/
opaque cutReached : Nat → Nat → Bool

/-- FREE VALUE, how many whole steps of a profile rewrite were done when it was cut (R156). -/
opaque cutSteps : Nat → Nat

end Sys2Proof.Config
end

