-- ==== Sys2Proof/Machine/State.lean ====
section
/-! DEFINITION. The state of the part as plain data: every context, list, counter, record, register and pin
the manual names, the tags seated in the bays, the flash store, and the queue of waiting commands. A value
that another field already gives (an output pin, a published figure, a count of entries) is not held twice:
Machine/Flags.lean and Machine/Records.lean compute it. -/

namespace Sys2Proof.Machine

/-- Table 2-1, bay states. -/
inductive BayState where
  | empty | settling | identifying | challenging | reconciling | standby | feeding | barred | drained | fault
deriving DecidableEq, Repr

/-- The judgement of a seated cartridge (R29). -/
inductive Verdict where
  | none | genuine | foreign | refilled | unread
deriving DecidableEq, Repr

/-- Why the verdict is what it is (R29). -/
inductive VerdictReason where
  | none | tagMark | flagConflict | gaugeRise | history | refillSense | identityCrc | gaugeCrc | response
  | burnMismatch
deriving DecidableEq, Repr

/-- The first failed eligibility condition (Table 2-3). -/
inductive BarReason where
  | none | channelUnset | inkMismatch | noGauge | foreign | refilled | held
deriving DecidableEq, Repr

/-- The five held-flag kinds (Table 7-3). -/
inductive HeldKind where
  | gaugeRise | flagConflict | refillSense | leakSense | burnMismatch
deriving DecidableEq, Repr

/-- The class of a usable sample (R122). -/
inductive SampleClass where
  | none | pos | neg | neutral
deriving DecidableEq, Repr

/-- Why a sample was set aside (R120). -/
inductive SampleDiscard where
  | none | sensor | settling | uncalibrated
deriving DecidableEq, Repr

/-- The eight notice kinds (Table 10-5). -/
inductive Notice where
  | answer | bay | alert | level | channel | store | test | power
deriving DecidableEq, Repr

/-- The hand word of a slot (Table 12-1). -/
inductive Hand where
  | free | filled | taken | answered
deriving DecidableEq, Repr

/-- Answer statuses (Table 10-3). -/
inductive Status where
  | none | done | busy | badKind | badArgument | bayEmpty | bayEmptied | notFound | notEligible
  | channelOccupied | installed | enforced | tagNoResponse | storeFault | powerWarning
deriving DecidableEq, Repr

/-- STARTING until the start-up rebuild completes, READY afterwards (R196). -/
inductive PartState where
  | starting | ready
deriving DecidableEq, Repr

/-- The valve of a channel that is open (Table 6-1). -/
inductive FeedState where
  | closed | openA | openB
deriving DecidableEq, Repr

/-- Why a CLOSED channel is closed (Table 6-1). -/
inductive ClosedReason where
  | none | unset | empty | drained | barred | fault | removed
deriving DecidableEq, Repr

/-- Cause of the last change of feed_state (Table 6-1). -/
inductive FeedCause where
  | none | opened | threshold | drained | barred | fault | removed | ticket
deriving DecidableEq, Repr

/-- The one source of tally frames of a channel (Table 4-2). -/
inductive TallySource where
  | link | ticket
deriving DecidableEq, Repr

/-- The two one-way flags of a tag (R3). -/
inductive TagFlag where
  | depleted | refillMark
deriving DecidableEq, Repr

/-- What a transaction was granted for (Table 8-1). -/
inductive Origin where
  | insertion | burn | depletedWrite | refillMarkWrite | sense | ticket | selfTest
deriving DecidableEq, Repr

/-- The limit that discarded a transaction (Table 8-1). -/
inductive DiscardCause where
  | none | failures | busyLimit
deriving DecidableEq, Repr

/-- Table 9-3, journal sector states. -/
inductive SectorState where
  | erased | active | full | dirty | retired
deriving DecidableEq, Repr

/-- journal_mode (section 9.3). -/
inductive JournalMode where
  | normal | waiting | degraded
deriving DecidableEq, Repr

/-- profile_state (R170). -/
inductive ProfileState where
  | good | damaged
deriving DecidableEq, Repr

/-- Why the last self-test failed (Table 11-1). -/
inductive FailCause where
  | none | mismatch | discarded
deriving DecidableEq, Repr

/-- A set of held-flag kinds, as the manual numbers its bits (Table 12-1). -/
abbrev HeldSet := BitVec 5

/-- The seen_flags of a history entry, as the manual numbers its bits (Table 12-1). -/
abbrev SeenSet := BitVec 6

/-- The copy of a good block 0 (section 2.1). -/
structure Identity where
  serial        : Serial
  inkType       : Nat
  capacityMarks : Nat
  markVolume    : Nat
  lotCode       : BitVec 32
deriving DecidableEq, Repr

/-- A BURN transaction not yet ended: its n, and the tag_gauge at its issue (R84). -/
structure BurnInFlight where
  n    : Nat
  base : Nat
deriving DecidableEq, Repr

/-- The step an insertion step want names (R143). -/
inductive InsertionStep where
  | readIdentity | readGauge | challenge
deriving DecidableEq, Repr

/-- The wants of one bay at its engine (R143). -/
structure Wants where
  insertion  : Option InsertionStep
  burn       : Bool
  depleted   : Bool
  refillMark : Bool
  sense      : Bool
deriving DecidableEq, Repr

/-- Table 7-4, incident snapshot. -/
structure Snapshot where
  kind        : HeldKind
  book        : Nat
  tagGauge    : Nat
  pending     : Nat
  estimate    : Option Nat
  discrepancy : Option Int
deriving DecidableEq, Repr

/-- Table 7-1, bay sense context. `timer` is the expiry time of a running sense_timer. -/
structure Sense where
  timer           : Option Nat
  lastReading     : Option Byte
  lastEstimate    : Option Nat
  lastDiscrepancy : Option Int
  lastClass       : SampleClass
  lastDiscard     : SampleDiscard
  windowCount     : Nat
  posCount        : Nat
  negCount        : Nat
  liveRefill      : Bool
  liveLeak        : Bool
  held            : HeldSet
  snapshot        : Option Snapshot
deriving DecidableEq, Repr

/-- The bay context of section 2.1 with its settle timer (R18, the expiry time of a running one) and its
sense context. -/
structure Bay where
  state            : BayState
  verdict          : Verdict
  verdictReason    : VerdictReason
  barReason        : BarReason
  identity         : Option Identity
  gaugeKnown       : Bool
  tagGauge         : Nat
  pending          : Nat
  book             : Nat
  tagDepleted      : Bool
  tagRefillMark    : Bool
  authenticated    : Bool
  /-- Link to the history entry: its serial, the key of the table. -/
  entry            : Option Serial
  challenge        : Option Bytes16
  tagResponse      : Option Bytes16
  expectedResponse : Option Bytes16
  burnToken        : Byte
  burnInFlight     : Option BurnInFlight
  wants            : Wants
  settleTimer      : Option Nat
  sense            : Sense
deriving DecidableEq, Repr

/-- A request of the authentication engine; its origin is a bay, or the self-test unit where `none` (R24). -/
structure AuthRequest where
  origin    : Option BayId
  serial    : Serial
  inkType   : Nat
  challenge : Bytes16
deriving DecidableEq, Repr

/-- The authentication engine: request FIFO, oldest first, and the computation under way with whether its
request has been withdrawn (R24, R26). -/
structure AuthEngine where
  fifo    : List AuthRequest
  current : Option (AuthRequest × Bool)
deriving DecidableEq, Repr

/-- Table 9-5, the settings of one set channel. -/
structure Profile where
  inkType        : Nat
  tallySource    : TallySource
  vSmall         : Nat
  vMedium        : Nat
  vLarge         : Nat
  tempCoeff      : Int
  switchMarks    : Nat
  lowMarks       : Nat
  settleInterval : Nat
  sensePeriod    : Nat
  sEmpty         : Nat
  sFull          : Nat
  tolerance      : Nat
  window         : Nat
  alertSelect    : HeldSet
deriving DecidableEq, Repr

/-- One channel: the RAM profile (`none` is unset), the accounting context of Table 4-1, the feed context of
Table 6-1 and skipped_samples (section 7.1). The channel settles while `settleEnd` is present. -/
structure Channel where
  profile        : Option Profile
  residue        : Nat
  total          : Nat
  charged        : Nat
  unbooked       : Nat
  saturated      : Bool
  seqStarted     : Bool
  lastSeq        : Word
  gapCount       : Nat
  duplicateCount : Nat
  lastTemp       : Nat
  lastFactor     : Nat
  feedState      : FeedState
  closedReason   : ClosedReason
  feedCause      : FeedCause
  settleEnd      : Option Nat
  skippedSamples : Nat
deriving DecidableEq, Repr

/-- The two counters of the accounting unit as a whole (section 4.1). -/
structure TallyCounters where
  tallyCrcErrors : Nat
  strayTallies   : Nat
deriving DecidableEq, Repr

/-- The command of a transaction with its arguments, fixed at the grant (R6, R148). -/
inductive TagCommand where
  | readBlock (b : Fin 4)
  | challenge (c : Bytes16)
  | burn (n : Nat) (token : Byte)
  | setFlag (f : TagFlag)
  | readSense
deriving DecidableEq, Repr

/-- The transaction in flight of an engine (Table 8-1). -/
structure Transaction where
  bay          : BayId
  origin       : Origin
  command      : TagCommand
  attempts     : Nat
  failureRun   : Nat
  firstAttempt : Nat
deriving DecidableEq, Repr

/-- engine_state with what it carries: no transaction, an attempt on the line, or the gap before a retry
with the instant it ends (R136, R137). -/
inductive Activity where
  | idle
  | attempt (t : Transaction)
  | gap (t : Transaction) (ends : Nat)
deriving DecidableEq, Repr

/-- Table 8-2, queue entry. `selfTest` tells SELF_TEST from READ_TAG_BLOCK. -/
structure QueueEntry where
  slot      : SlotId
  selfTest  : Bool
  bay       : BayId
  block     : Fin 4
  firstCopy : Option Block
deriving DecidableEq, Repr

/-- Table 8-1, engine context. `pointer` is the place, 0 to 5, of the bay of the last grant among the
engine's six. -/
structure Engine where
  activity         : Activity
  retryTally       : Word
  rollover         : Bool
  discardCount     : Nat
  lastDiscardBay   : Option BayId
  lastDiscardCause : DiscardCause
  queue            : List QueueEntry
  headPasses       : Nat
  pointer          : Fin 6
deriving DecidableEq, Repr

/-- Position of a journal record: sector and slot. -/
structure JournalPlace where
  sector : SecId
  slot   : Nat
deriving DecidableEq, Repr

/-- Table 3-1, history entry. -/
structure Entry where
  serial          : Serial
  inkType         : Nat
  book            : Nat
  owed            : Nat
  verdict         : Verdict
  seen            : SeenSet
  installedBay    : Option BayId
  lastBay         : BayId
  useStamp        : Nat
  journalLocation : Option JournalPlace
  journalSeq      : Nat
  journalDue      : Bool
deriving DecidableEq, Repr

/-- An item of the journal-due FIFO: a serial with a kind, RECORD or TOMBSTONE (R49). -/
structure DueItem where
  serial    : Serial
  tombstone : Bool
deriving DecidableEq, Repr

/-- The history table: the places that hold a live entry, the serials of the places held for a tombstone
(every other of the 256 places is free), the use stamp counter, the journal-due FIFO and the two counts of
R58. `joining` holds the items that join at the event in progress, until R49 orders them. -/
structure History where
  live       : List Entry
  tombs      : List Serial
  useCounter : Nat
  fifo       : List DueItem
  joining    : List DueItem
  evictions  : Nat
  untracked  : Nat
deriving DecidableEq, Repr

/-- Table 9-2, journal sector context. referenced is counted from the live entries. -/
structure Sector where
  state    : SectorState
  seq      : Option Nat
  nextSlot : Nat
deriving DecidableEq, Repr

/-- Table 9-4, journal record; verdict `none` marks a tombstone. -/
structure JournalRecord where
  seq     : Nat
  serial  : Serial
  inkType : Nat
  book    : Nat
  owed    : Nat
  verdict : Verdict
  seen    : SeenSet
  lastBay : Nat
deriving DecidableEq, Repr

/-- A ticket of the store ticket list (R157). -/
inductive StoreTicket where
  | setProfile (slot : SlotId) (channel : ChanId) (profile : Profile)
  | checkStore (slot : SlotId) (first last : Nat)
  | selfTest (slot : SlotId)
deriving DecidableEq, Repr

/-- The flash operation in flight (R156). -/
inductive FlashOp where
  | append (sector : SecId) (slot : Nat) (record : JournalRecord)
  | header (sector : SecId) (seq : Nat)
  | erase (sector : SecId)
  | profileRewrite (slot : SlotId) (channel : ChanId) (profile : Profile)
  | checkRead (slot : SlotId) (first last : Nat)
  | profileRead (slot : SlotId)
deriving DecidableEq, Repr

/-- The store controller's RAM state (section 9.3, R157, R162, R171, R177). `retry` is the record whose last
program did not verify, with the slots in a row it has failed on. `changed` tells that the entry of the record
being written has changed since the writer took it (R49, R162). -/
structure Store where
  op              : Option FlashOp
  tickets         : List StoreTicket
  mode            : JournalMode
  sectors         : Vector Sector 8
  nextJournalSeq  : Nat
  nextSectorSeq   : Nat
  victim          : Option SecId
  retry           : Option (JournalRecord × Nat)
  changed         : Bool
  programFailures : Nat
  eraseFailures   : Nat
  rebuildRejects  : Nat
  profileState    : ProfileState
  powerWarning    : Bool
deriving DecidableEq, Repr

/-- Table 11-1, self-test record, with the slot of the running test's ticket. -/
structure SelfTest where
  running   : Bool
  code      : Nat
  bay       : Option BayId
  result    : Nat
  failCause : FailCause
  slot      : Option SlotId
deriving DecidableEq, Repr

/-- A result of an answered ticket: status, the high byte of the status word, and the answer area. -/
structure Answer where
  status : Status
  high   : Byte
  area   : Vector Byte 30
deriving DecidableEq, Repr

/-- The port's copy of a taken ticket (R182), the bay whose order list it stands in (R189), and its result
once ready. -/
structure Taken where
  kind   : Word
  target : Word
  args   : Args
  bay    : Option BayId
  result : Option Answer
deriving DecidableEq, Repr

/-- Table 10-2, one ticket slot, with the port's copy while the ticket is TAKEN. -/
structure Slot where
  hand   : Hand
  kind   : Word
  target : Word
  args   : Args
  status : Word
  answer : Vector Byte 30
  copy   : Option Taken
deriving DecidableEq, Repr

/-- The exchange port: part state, slots, lists, counters and the notice registers (sections 10.3 to 10.9).
In the three notice registers bit `i` stands for the kind of code `i` (Table 12-1). -/
structure Port where
  partState         : PartState
  resetPending      : Bool
  slots             : Vector Slot 32
  arrivals          : List SlotId
  bayOrder          : Vector (List SlotId) 24
  parked            : Vector (List QueueEntry) 4
  ignoredHandWrites : Nat
  postedRejects     : Nat
  notices           : Byte
  enables           : Byte
  routes            : Byte
deriving DecidableEq, Repr

/-- Generation words of the published records (R180). -/
structure Generations where
  header   : Word
  channels : Vector Word 12
  engines  : Vector Word 4
  bays     : Vector Word 24
deriving DecidableEq, Repr

/-- What a working tag works on (R5). -/
inductive TagWork where
  | burning (n : Nat) (token : Byte)
  | writing (f : TagFlag)
  | responding (c : Bytes16)
  | measuring
deriving DecidableEq, Repr

/-- A seated tag: its cartridge, its volatile memory (work, burn memory, stored challenge with response; R5),
and the frame it answered the last attempt with. -/
structure Tag where
  cartridge  : Cartridge
  work       : Option TagWork
  burnMemory : Option (Byte × Nat)
  stored     : Option (Bytes16 × Bytes16)
  reply      : Option AnswerFrame
deriving DecidableEq, Repr

/-- What stands outside the resets: the presence and power-fail inputs, the seated tags, the cartridges pulled
out of a bay and not seated since, the last one first, the clock in microseconds, and the counters that number
the draws of the free values. -/
structure Outside where
  presence       : Vector Bool 24
  pfw            : Bool
  tags           : Vector (Option Tag) 24
  pulled         : List Cartridge
  now            : Nat
  challengeDraws : Nat
  tagDraws       : Nat
  cutDraws       : Nat
deriving DecidableEq, Repr

/-- The flash: address (sector × 4096 + offset) and byte, addresses strictly rising, no byte 0xFF listed. -/
abbrev Memory := List Host.Cell

/-- The machine. -/
structure State where
  pending  : List Instr
  outside  : Outside
  flash    : Memory
  port     : Port
  bays     : Vector Bay 24
  auth     : AuthEngine
  latch    : Bool
  channels : Vector Channel 12
  tally    : TallyCounters
  engines  : Vector Engine 4
  history  : History
  store    : Store
  selfTest : SelfTest
  gens     : Generations
deriving DecidableEq, Repr

/-- No command of the manual stops the part: every event it names has an effect or is discarded, and an
address that is not used reads 0 (R178). So there is no fault to raise. -/
inductive Fault where
deriving DecidableEq, Repr

/-- Reasons a step has no meaning. -/
inductive Refusal where
  /-- Raised by an arm of `exec` for a command the model has not reached yet; none is left. Safe: a run
  stops where the hardware goes on. -/
  | notModelled (mnemonic : String)
deriving DecidableEq, Repr

/-- No wants. -/
def Wants.none : Wants := ⟨Option.none, false, false, false, false⟩

/-- The defaults of Table 7-1. -/
def Sense.default : Sense :=
  { timer := none, lastReading := none, lastEstimate := none, lastDiscrepancy := none, lastClass := .none
    lastDiscard := .none, windowCount := 0, posCount := 0, negCount := 0, liveRefill := false
    liveLeak := false, held := 0#5, snapshot := none }

/-- The defaults of section 2.1 and Table 7-1. -/
def Bay.default : Bay :=
  { state := .empty, verdict := .none, verdictReason := .none, barReason := .none, identity := none
    gaugeKnown := false, tagGauge := 0, pending := 0, book := 0, tagDepleted := false
    tagRefillMark := false, authenticated := false, entry := none, challenge := none
    tagResponse := none, expectedResponse := none, burnToken := 0#8, burnInFlight := none
    wants := Wants.none, settleTimer := none, sense := Sense.default }

/-- The defaults of Tables 4-1 and 6-1, profile unset (R59, R95, R115). -/
def Channel.default : Channel :=
  { profile := none, residue := 0, total := 0, charged := 0, unbooked := 0, saturated := false
    seqStarted := false, lastSeq := 0#16, gapCount := 0, duplicateCount := 0, lastTemp := 0
    lastFactor := 0, feedState := .closed, closedReason := .unset, feedCause := .none
    settleEnd := none, skippedSamples := 0 }

/-- The defaults of Table 8-1 (R153). -/
def Engine.default : Engine :=
  { activity := .idle, retryTally := 0#16, rollover := false, discardCount := 0, lastDiscardBay := none
    lastDiscardCause := .none, queue := [], headPasses := 0, pointer := 5 }

/-- An empty history table (R40, R58). -/
def History.default : History :=
  { live := [], tombs := [], useCounter := 0, fifo := [], joining := [], evictions := 0, untracked := 0 }

/-- A journal sector context before the rebuild sets it: all encodings zero. -/
def Sector.default : Sector := { state := .erased, seq := none, nextSlot := 0 }

/-- The store controller before the rebuild (R177). -/
def Store.default : Store :=
  { op := none, tickets := [], mode := .normal, sectors := Vector.replicate 8 Sector.default
    nextJournalSeq := 0, nextSectorSeq := 0, victim := none, retry := none, changed := false
    programFailures := 0, eraseFailures := 0, rebuildRejects := 0, profileState := .good, powerWarning := false }

/-- The defaults of Table 11-1 (R201). -/
def SelfTest.default : SelfTest :=
  { running := false, code := 0, bay := none, result := 0, failCause := .none, slot := none }

/-- A slot of the cleared exchange memory (R197). -/
def Slot.default : Slot :=
  { hand := .free, kind := 0#16, target := 0#16, args := Vector.replicate 26 0#8, status := 0#16
    answer := Vector.replicate 30 0#8, copy := none }

/-- The port after a reset (R194 to R197). -/
def Port.default : Port :=
  { partState := .starting, resetPending := false, slots := Vector.replicate 32 Slot.default
    arrivals := [], bayOrder := Vector.replicate 24 [], parked := Vector.replicate 4 []
    ignoredHandWrites := 0, postedRejects := 0, notices := 0#8, enables := 0#8, routes := 0#8 }

/-- Every generation word 0 (R181). -/
def Generations.default : Generations :=
  { header := 0#16, channels := Vector.replicate 12 0#16, engines := Vector.replicate 4 0#16
    bays := Vector.replicate 24 0#16 }

/-- Nothing seated, no warning, the clock at 0. -/
def Outside.default : Outside :=
  { presence := Vector.replicate 24 false, pfw := false, tags := Vector.replicate 24 none, pulled := []
    now := 0, challengeDraws := 0, tagDraws := 0, cutDraws := 0 }

/-- The machine right after a power-on reset: every block at its reset values (R17, R36, R40, R59, R95,
R115, R153, R197, R201), the part STARTING, the flash blank and nothing seated. -/
def State.reset : State :=
  { pending := [], outside := Outside.default, flash := [], port := Port.default
    bays := Vector.replicate 24 Bay.default, auth := { fifo := [], current := none }, latch := false
    channels := Vector.replicate 12 Channel.default
    tally := { tallyCrcErrors := 0, strayTallies := 0 }
    engines := Vector.replicate 4 Engine.default, history := History.default, store := Store.default
    selfTest := SelfTest.default, gens := Generations.default }

end Sys2Proof.Machine
end

