-- ==== Sys2Proof/Machine/Ops.lean ====
section
/-! DEFINITION. The named operations every block uses: reading and changing one bay, channel, engine or slot,
the numbering of bays, bytes and the CRC, the flash as memory, the clock and the notice set. -/

namespace Sys2Proof.Machine

/-! ### Numbering -/

/-- The channel of a bay. -/
def chanOf (b : BayId) : ChanId := ⟨b.val / 2, by omega⟩

/-- The other bay of the same channel. -/
def twinOf (b : BayId) : BayId := ⟨if b.val % 2 = 0 then b.val + 1 else b.val - 1, by split <;> omega⟩

/-- Bay A of a channel. -/
def bayA (c : ChanId) : BayId := ⟨2 * c.val, by omega⟩

/-- Bay B of a channel. -/
def bayB (c : ChanId) : BayId := ⟨2 * c.val + 1, by omega⟩

/-- The engine that serves a bay. -/
def engOf (b : BayId) : EngId := ⟨b.val / 6, by omega⟩

/-- The bay at a place, 0 to 5, of an engine. -/
def bayAt (e : EngId) (k : Fin 6) : BayId := ⟨6 * e.val + k.val, by omega⟩

/-- The place of a bay among its engine's six. -/
def placeOf (b : BayId) : Fin 6 := ⟨b.val % 6, by omega⟩

/-! ### One bay, channel, engine or slot -/

/-- The context of a bay. -/
def State.bay (s : State) (b : BayId) : Bay := s.bays[b]

/-- The context of a channel. -/
def State.chan (s : State) (c : ChanId) : Channel := s.channels[c]

/-- The context of an engine. -/
def State.eng (s : State) (e : EngId) : Engine := s.engines[e]

/-- A ticket slot. -/
def State.slot (s : State) (k : SlotId) : Slot := s.port.slots[k]

/-- A change of one bay context. -/
def State.updBay (s : State) (b : BayId) (f : Bay → Bay) : State := { s with bays := updAt s.bays b f }

/-- A change of one channel context. -/
def State.updChan (s : State) (c : ChanId) (f : Channel → Channel) : State :=
  { s with channels := updAt s.channels c f }

/-- A change of one engine context. -/
def State.updEng (s : State) (e : EngId) (f : Engine → Engine) : State :=
  { s with engines := updAt s.engines e f }

/-- A change of the exchange port. -/
def State.updPort (s : State) (f : Port → Port) : State := { s with port := f s.port }

/-- A change of one ticket slot. -/
def State.updSlot (s : State) (k : SlotId) (f : Slot → Slot) : State :=
  s.updPort fun p => { p with slots := updAt p.slots k f }

/-- A change of the history table. -/
def State.updHist (s : State) (f : History → History) : State := { s with history := f s.history }

/-- A change of the store controller. -/
def State.updStore (s : State) (f : Store → Store) : State := { s with store := f s.store }

/-- A change of what stands outside the resets. -/
def State.updOutside (s : State) (f : Outside → Outside) : State := { s with outside := f s.outside }

/-- A change of the tag seated in a bay, where one is. -/
def State.updTag (s : State) (b : BayId) (f : Tag → Tag) : State :=
  s.updOutside fun o => { o with tags := updAt o.tags b fun t => t.map f }

/-- The clock stands at `time`, or where it already was when that is later. -/
def State.atTime (s : State) (time : Nat) : State :=
  s.updOutside fun o => { o with now := max o.now time }

/-! ### Notices -/

/-- The bit of a notice kind in the four notice registers (Table 12-1). -/
def Notice.bit : Notice → Nat
  | .answer => 0 | .bay => 1 | .alert => 2 | .level => 3
  | .channel => 4 | .store => 5 | .test => 6 | .power => 7

/-- The mask of a notice kind. -/
def Notice.mask (k : Notice) : Byte := BitVec.ofNat 8 (2 ^ k.bit)

/-- A raise sets the kind's pending flag; a kind already pending stays pending (R194). -/
def State.raise (s : State) (k : Notice) : State :=
  s.updPort fun p => { p with notices := p.notices ||| k.mask }

/-! ### Bytes and the CRC -/

/-- The `n` bytes of a value, most significant first (R211). -/
def beBytes : Nat → Nat → List Byte
  | 0, _ => []
  | n + 1, v => BitVec.ofNat 8 (v / 256 ^ n) :: beBytes n v

/-- The value of a run of bytes, most significant first (R211). -/
def ofBytes (l : List Byte) : Nat := l.foldl (fun acc b => acc * 256 + b.toNat) 0

/-- Byte `k` of a run, 0 beyond its end. -/
def byteAt (l : List Byte) (k : Nat) : Byte := l.getD k 0#8

/-- The value of `n` bytes of a run from offset `k`. -/
def fieldAt (l : List Byte) (k n : Nat) : Nat := ofBytes ((l.drop k).take n)

/-- One data bit into the CRC register (R158). -/
def crcBit (r : Word) (d : Bool) : Word := if r.msb != d then (r <<< 1) ^^^ 0x1021#16 else r <<< 1

/-- One byte into the CRC register, most significant bit first (R158). -/
def crcByte (r : Word) (b : Byte) : Word :=
  [7, 6, 5, 4, 3, 2, 1, 0].foldl (fun r i => crcBit r (b.getLsbD i)) r

/-- The CRC-16 of the part (R158). -/
def crc16 (l : List Byte) : Word := l.foldl crcByte 0xFFFF#16

/-- A CRC-16 as it is stored: most significant byte first (R211). -/
def crcBytes (l : List Byte) : List Byte := beBytes 2 (crc16 l).toNat

/-- Content of 30 bytes followed by its CRC: a tag block, a journal record or a profile record. -/
def sealed (content : List Byte) : Block :=
  fitList 32 0#8 ((fitList 30 0#8 content).toList ++ crcBytes (fitList 30 0#8 content).toList)

/-- The 30 content bytes of a block. -/
def contentOf (b : Block) : List Byte := b.toList.take 30

/-- CRC-good: the CRC over the 30 content bytes equals the one the block carries (R1). -/
def crcGood (b : Block) : Bool := (crc16 (contentOf b)).toNat == fieldAt b.toList 30 2

/-! ### The flash -/

/-- What an erased byte reads (R156). -/
def blankByte : Byte := 0xFF#8

/-- The canonical form: addresses strictly rising above `lo`, and no byte listed that reads blank. -/
def Memory.wfFrom : Option Nat → Memory → Bool
  | _, [] => true
  | none, (a, v) :: m => v != blankByte && Memory.wfFrom (some a) m
  | some lo, (a, v) :: m => decide (lo < a) && v != blankByte && Memory.wfFrom (some a) m

/-- The canonical form of the flash. -/
def Memory.wf (m : Memory) : Bool := Memory.wfFrom none m

/-- One byte of the flash: an unlisted byte is erased and reads 0xFF. -/
def Memory.read : Memory → Nat → Byte
  | [], _ => blankByte
  | (k, v) :: m, a => if k = a then v else Memory.read m a

/-- One byte stored, keeping the canonical form. -/
def Memory.write : Memory → Nat → Byte → Memory
  | [], a, v => if v = blankByte then [] else [(a, v)]
  | (k, x) :: m, a, v =>
    if a < k then (if v = blankByte then (k, x) :: m else (a, v) :: (k, x) :: m)
    else if a = k then (if v = blankByte then m else (a, v) :: m)
    else (k, x) :: Memory.write m a v

/-- A run of bytes stored from an address upward. -/
def Memory.writeRun : Memory → Nat → List Byte → Memory
  | m, _, [] => m
  | m, a, v :: l => Memory.writeRun (m.write a v) (a + 1) l

/-- Bytes stored by offset from a base, those with an offset of `size` or more left out. -/
def Memory.scatter (m : Memory) (base size : Nat) (l : List (Nat × Byte)) : Memory :=
  l.foldl (fun m c => if c.1 < size then m.write (base + c.1) c.2 else m) m

/-- `size` bytes erased from an address. -/
def Memory.erase (m : Memory) (base size : Nat) : Memory :=
  m.filter fun c => decide (c.1 < base ∨ base + size ≤ c.1)

/-- A run of `n` bytes read from an address. -/
def Memory.readRun (m : Memory) (base : Nat) : Nat → List Byte
  | 0 => []
  | n + 1 => m.read base :: Memory.readRun m (base + 1) n

/-- Every byte of a run reads 0xFF. -/
def Memory.blank (m : Memory) (base size : Nat) : Bool :=
  m.all fun c => decide (c.1 < base ∨ base + size ≤ c.1) || m.read c.1 == blankByte

/-- The first address of a flash sector, 0 to 8 (Table 9-1). -/
def sectorBase (sector : Nat) : Nat := sector * Config.sectorBytes

/-- The number, 1 to 8, of a journal sector. -/
def secNumber (j : SecId) : Nat := j.val + 1

/-- The first address of a slot of a journal sector (R213). -/
def slotBase (j : SecId) (slot : Nat) : Nat := sectorBase (secNumber j) + 32 * slot

/-- A slot of the flash as the 32 bytes it reads. -/
def Memory.slot (m : Memory) (base : Nat) : Block := fitList 32 blankByte (m.readRun base 32)

/-! ### Lists -/

/-- Insertion into a list kept in rising order of a key, behind equal keys. -/
def insertBy {α : Type} (key : α → Nat × Nat) (x : α) : List α → List α
  | [] => [x]
  | y :: l =>
    if (key x).1 < (key y).1 ∨ ((key x).1 = (key y).1 ∧ (key x).2 < (key y).2) then x :: y :: l
    else y :: insertBy key x l

/-- A list in rising order of a key, equal keys in their order. -/
def sortBy {α : Type} (key : α → Nat × Nat) (l : List α) : List α :=
  l.foldl (fun acc x => insertBy key x acc) []

end Sys2Proof.Machine
end

