-- ==== Sys2Proof/WellFormed.lean ====
section
/-! DEFINITION. Which terms of `Instr` spell a command of the table at all. The meanings are total: a term
that is not well formed is carried out as the part would take it, but names no event of its row. -/

namespace Sys2Proof

/-- A word address of the host bus: A1 to A13 (Table 10-1). -/
def busAddressOk (a : Nat) : Bool := a % 2 == 0 && decide (a < 0x4000)

/-- The length byte of an answer frame counts its payload (R212). -/
def AnswerFrame.fits (f : AnswerFrame) : Bool := decide (f.payload.length ≤ 255)

/-- Offsets and bytes a failed erase or program leaves: inside the sector, strictly rising, none blank. -/
def leftOk (bound : Nat) : List (Nat × Byte) → Bool
  | [] => true
  | [(o, v)] => decide (o < bound) && decide (v ≠ 0xFF#8)
  | (o, v) :: (o', v') :: rest => decide (o < o') && decide (v ≠ 0xFF#8) && leftOk bound ((o', v') :: rest)

/-- A kind of the posted range 0x01 to 0x0F (R186, Table 12-1). -/
def inPostedRange (k : Word) : Bool := decide (1 ≤ k.toNat ∧ k.toNat ≤ 0x0F)

/-- A kind of the answered range 0x10 to 0x19 (R186, Table 12-1). -/
def inAnsweredRange (k : Word) : Bool := decide (0x10 ≤ k.toNat ∧ k.toNat ≤ 0x19)

/-- A SELF_TEST code that names a test (R202). -/
def namesTest (code : Byte) : Bool := [2#8, 3#8, 5#8, 6#8, 9#8].contains code

/-- Each command's operands lie in what its row's event can carry. -/
def Instr.wellFormed : Instr → Bool
  | .powerOnReset => true
  | .startupRebuildComplete => true
  | .presenceActive _ _ => true
  | .bayRemoval _ => true
  | .settleTimerExpiry _ => true
  | .tallyFrame _ => true
  | .tallyLinkPauseTimeout => true
  | .tallyFrameBroken => true
  | .pfwActive => true
  | .pfwInactive => true
  | .arrivalWhileStarting _ => true
  | .arrivalWhileResetPending _ => true
  | .withdrawal _ => true
  | .release _ => true
  | .ignoredHandWrite _ _ => true
  | .hostWrite a _ => busAddressOk a
  | .tallyPost _ _ _ => true
  | .purgePost _ _ _ => true
  | .postedReject _ k _ _ => inPostedRange k
  | .badKind _ k _ _ => !inPostedRange k && !inAnsweredRange k
  | .setProfile _ _ _ => true
  | .checkStore _ _ _ => true
  | .readTagBlock _ _ _ => true
  | .historyQuery _ _ _ => true
  | .forgetSerial _ _ _ => true
  | .clearHeld _ _ _ => true
  | .switchFeed _ _ _ => true
  | .enforce _ _ _ => true
  | .clearCounts _ _ _ => true
  | .selfTestCode2 _ _ => true
  | .selfTestCode3 _ _ => true
  | .selfTestCode5 _ _ => true
  | .selfTestCode6 _ _ => true
  | .selfTestCode9 _ _ => true
  | .noticeClear _ => true
  | .noticeEnable _ => true
  | .noticeRoute _ => true
  | .resetReq _ => true
  | .softReset => true
  | .tagAnswerFrame _ .asSent _ => true
  | .tagAnswerFrame _ (.other f) _ => f.fits
  | .answerWindowTimeout _ _ => true
  | .retryGapExpiry _ => true
  | .authComputationComplete => true
  | .senseTimerExpiry _ => true
  | .settleIntervalExpiry _ => true
  | .recordProgram _ => true
  | .headerProgram _ => true
  | .sectorErase left => leftOk 4096 left
  | .profileRewrite .verified => true
  | .profileRewrite (.failed step left) => decide (step ≤ 12) && leftOk (if step = 0 then 4096 else 32) left
  | .checkStoreRead => true
  | .profileSectorRead => true
  | .selfTestBadCode _ code _ => !namesTest code
  | .tagWorkComplete _ => true

end Sys2Proof
end

