-- ==== Sys2Proof/Machine/Operands.lean ====
section
/-! DEFINITION. Every operand form: ticket kinds and arguments as they stand in a slot, profile settings,
link frames, tag blocks, command and answer frames with the classification of an attempt, and the layouts of
the flash. -/

namespace Sys2Proof.Machine

/-! ### Ticket kinds (R186, Table 12-1) -/

/-- The ticket kinds of Table 10-4. -/
inductive Kind where
  | tallyPost | purgePost | setProfile | checkStore | readTagBlock | historyQuery | forgetSerial
  | clearHeld | switchFeed | enforce | selfTest | clearCounts
deriving DecidableEq, Repr

/-- What a kind field says (R186). -/
inductive KindClass where
  | kind (k : Kind)
  | postedUnknown
  | unknown
deriving DecidableEq, Repr

/-- The code of a ticket kind. -/
def Kind.code : Kind → Word
  | .tallyPost => 0x01#16
  | .purgePost => 0x02#16
  | .setProfile => 0x10#16
  | .checkStore => 0x11#16
  | .readTagBlock => 0x12#16
  | .historyQuery => 0x13#16
  | .forgetSerial => 0x14#16
  | .clearHeld => 0x15#16
  | .switchFeed => 0x16#16
  | .enforce => 0x17#16
  | .selfTest => 0x18#16
  | .clearCounts => 0x19#16

/-- All ticket kinds. -/
def Kind.all : List Kind :=
  [.tallyPost, .purgePost, .setProfile, .checkStore, .readTagBlock, .historyQuery, .forgetSerial,
   .clearHeld, .switchFeed, .enforce, .selfTest, .clearCounts]

/-- The decoding of a kind field at a taking (R186). -/
def decodeKind (w : Word) : KindClass :=
  match Kind.all.find? fun k => k.code == w with
  | some k => .kind k
  | none => if inPostedRange w then .postedUnknown else .unknown

/-! ### Argument areas (Table 12-6) -/

/-- Byte `k` of an argument area. -/
def argByte (a : Args) (k : Nat) : Byte := byteAt a.toList k

/-- The value of `n` bytes of an argument area from offset `k`. -/
def argNum (a : Args) (k n : Nat) : Nat := fieldAt a.toList k n

/-- The serial at offset 0 of an argument area. -/
def argSerial (a : Args) : Serial := BitVec.ofNat 64 (argNum a 0 8)

/-- A target that names a channel, 0 to 11. -/
def targetChan (t : Word) : Option ChanId := if h : t.toNat < 12 then some ⟨t.toNat, h⟩ else none

/-- A bay field that names a bay, 0 to 23. -/
def bayOfNat (n : Nat) : Option BayId := if h : n < 24 then some ⟨n, h⟩ else none

/-- A block field that names a block, 0 to 3. -/
def blockOfNat (n : Nat) : Option (Fin 4) := if h : n < 4 then some ⟨n, h⟩ else none

/-- The argument area of a SELF_TEST: code at offset 0, bay at offset 1 (Table 12-6). -/
def selfTestArgs (code bay : Byte) : Args := fitList 26 0#8 [code, bay]

/-! ### Profile settings (Table 9-5) -/

/-- The set of held kinds a byte names, when it names no other (R211). -/
def heldSetOf (b : Byte) : Option HeldSet := if b.toNat < 32 then some (b.setWidth 5) else none

/-- The 22 bytes of settings, laid out alike in the ticket (Table 12-6) and in the record behind its channel
byte (Table 12-10); `none` where a field lies outside its range in Table 9-5. -/
def decodeProfile (l : List Byte) : Option Profile :=
  let ink := fieldAt l 0 2
  let source := (byteAt l 2).toNat
  let k := (byteAt l 3).toInt
  let vs := fieldAt l 4 2
  let vm := fieldAt l 6 2
  let vl := fieldAt l 8 2
  let sw := fieldAt l 10 2
  let low := fieldAt l 12 2
  let si := (byteAt l 14).toNat
  let sp := (byteAt l 15).toNat
  let tol := fieldAt l 18 2
  let win := (byteAt l 20).toNat
  match heldSetOf (byteAt l 21) with
  | none => none
  | some alert =>
    if 1 ≤ ink ∧ source ≤ 1 ∧ -64 ≤ k ∧ k ≤ 63 ∧ vs ≤ 1023 ∧ vm ≤ 1023 ∧ vl ≤ 1023 ∧ sw ≤ 4095 ∧ low ≤ 4095
        ∧ si ≤ 15 ∧ (sp = 0 ∨ 5 ≤ sp) ∧ 1 ≤ tol ∧ tol ≤ 1023 ∧ 4 ≤ win ∧ win ≤ 32 then
      some
        { inkType := ink, tallySource := if source = 0 then .link else .ticket, vSmall := vs, vMedium := vm
          vLarge := vl, tempCoeff := k, switchMarks := sw, lowMarks := low, settleInterval := si
          sensePeriod := sp, sEmpty := (byteAt l 16).toNat, sFull := (byteAt l 17).toNat
          tolerance := tol, window := win, alertSelect := alert }
    else none

/-- The 22 bytes of settings of a profile. -/
def encodeProfile (p : Profile) : List Byte :=
  beBytes 2 p.inkType
  ++ [match p.tallySource with | .link => 0#8 | .ticket => 1#8, BitVec.ofInt 8 p.tempCoeff]
  ++ beBytes 2 p.vSmall ++ beBytes 2 p.vMedium ++ beBytes 2 p.vLarge
  ++ beBytes 2 p.switchMarks ++ beBytes 2 p.lowMarks
  ++ [BitVec.ofNat 8 p.settleInterval, BitVec.ofNat 8 p.sensePeriod, BitVec.ofNat 8 p.sEmpty,
      BitVec.ofNat 8 p.sFull]
  ++ beBytes 2 p.tolerance ++ [BitVec.ofNat 8 p.window, p.alertSelect.setWidth 8]

/-- The 32 bytes of a channel's profile record (Table 12-10). -/
def profileRecord (c : ChanId) (p : Profile) : Block := sealed (BitVec.ofNat 8 c.val :: encodeProfile p)

/-! ### Tally frames (R64, R212) -/

/-- The content of a tally frame (section 4.3). -/
structure TallyContent where
  channel : Nat
  seq     : Word
  nSmall  : Nat
  nMedium : Nat
  nLarge  : Nat
  temp    : Nat
deriving DecidableEq, Repr

/-- The frame CRC of a complete link frame is right (R62). -/
def linkCrcGood (f : LinkFrame) : Bool := (crc16 (f.toList.take 13)).toNat == fieldAt f.toList 13 2

/-- The content of a complete link frame (R212). -/
def linkContent (f : LinkFrame) : TallyContent :=
  { channel := (byteAt f.toList 0).toNat, seq := BitVec.ofNat 16 (fieldAt f.toList 1 2)
    nSmall := fieldAt f.toList 3 3, nMedium := fieldAt f.toList 6 3, nLarge := fieldAt f.toList 9 3
    temp := (byteAt f.toList 12).toNat }

/-- The content of a TALLY_POST, `none` where a field lies outside its range (R64, R211). -/
def postContent (target : Word) (a : Args) : Option TallyContent :=
  let ns := argNum a 2 4
  let nm := argNum a 6 4
  let nl := argNum a 10 4
  let temp := argNum a 14 2
  if target.toNat ≤ 255 ∧ ns ≤ 16777215 ∧ nm ≤ 16777215 ∧ nl ≤ 16777215 ∧ temp ≤ 255 then
    some { channel := target.toNat, seq := BitVec.ofNat 16 (argNum a 0 2), nSmall := ns, nMedium := nm
           nLarge := nl, temp := temp }
  else none

/-! ### Tag blocks (R2, R3, Table 12-7) -/

/-- A good identity block: CRC-good and well formed (R2). -/
def identityOf (b : Block) : Option Identity :=
  let l := b.toList
  if crcGood b ∧ byteAt l 18 = 1#8 ∧ fieldAt l 8 2 ≠ 0 ∧ 1 ≤ fieldAt l 10 2 ∧ fieldAt l 10 2 ≤ 4095
      ∧ fieldAt l 12 2 ≠ 0 then
    some { serial := BitVec.ofNat 64 (fieldAt l 0 8), inkType := fieldAt l 8 2
           capacityMarks := fieldAt l 10 2, markVolume := fieldAt l 12 2
           lotCode := BitVec.ofNat 32 (fieldAt l 14 4) }
  else none

/-- What a good gauge block shows: gauge, DEPLETED and REFILL_MARK. -/
structure GaugeBlock where
  gauge      : Nat
  depleted   : Bool
  refillMark : Bool
deriving DecidableEq, Repr

/-- The gauge field of block 1. -/
def gaugeField (b : Block) : Nat := fieldAt b.toList 0 2

/-- A good gauge block: CRC-good, its gauge within its bound (R3). -/
def gaugeOf (bound : Nat) (b : Block) : Option GaugeBlock :=
  if crcGood b ∧ gaugeField b ≤ bound then
    some { gauge := gaugeField b, depleted := (byteAt b.toList 2).getLsbD 0
           refillMark := (byteAt b.toList 2).getLsbD 1 }
  else none

/-! ### Frames of the tag line (R6, R14, R212) -/

/-- The code of a flag in a SET_FLAG (R212). -/
def TagFlag.code : TagFlag → Byte
  | .depleted => 1#8
  | .refillMark => 2#8

/-- The code of a command (current_op codes of Table 12-1). -/
def TagCommand.code : TagCommand → Byte
  | .readBlock _ => 1#8
  | .challenge _ => 2#8
  | .burn _ _ => 3#8
  | .setFlag _ => 4#8
  | .readSense => 5#8

/-- The arguments of a command on the line (R212). -/
def TagCommand.argBytes : TagCommand → List Byte
  | .readBlock b => [BitVec.ofNat 8 b.val]
  | .challenge c => beBytes 16 c.toNat
  | .burn n token => [BitVec.ofNat 8 n, token]
  | .setFlag f => [f.code]
  | .readSense => []

/-- The bytes of a command frame: code, arguments and CRC (R6, R212). -/
def TagCommand.frame (c : TagCommand) : List Byte :=
  (c.code :: c.argBytes) ++ crcBytes (c.code :: c.argBytes)

/-- The payload of an ACK, read for the command it answers. -/
inductive Payload where
  | block (b : Block)
  | response (r : Bytes16)
  | burned (gauge : Nat)
  | flagSet
  | level (reading : Byte) (ok : Bool)
deriving DecidableEq, Repr

/-- The five outcomes of an attempt (R14). -/
inductive AttemptOutcome where
  | timeout
  | crcBad
  | busy
  | refused
  | ack (p : Payload)
deriving DecidableEq, Repr

/-- The answer codes of R212. -/
def ackCode : Byte := 0xA0#8
/-- The answer code BUSY. -/
def busyCode : Byte := 0xB0#8
/-- The answer code REFUSED. -/
def refusedCode : Byte := 0xC0#8

/-- The bytes a frame CRC covers: code, length and payload (R212). -/
def coveredBytes (f : AnswerFrame) : List Byte :=
  f.code :: BitVec.ofNat 8 f.payload.length :: f.payload

/-- An answer frame with its right frame CRC. -/
def answerFrame (code : Byte) (payload : List Byte) : AnswerFrame :=
  { code := code, payload := payload
    crc := crc16 (code :: BitVec.ofNat 8 payload.length :: payload) }

/-- The payload of an ACK to a command, `none` where it is malformed (R14, R211, R212). -/
def ackPayload (c : TagCommand) (l : List Byte) : Option Payload :=
  match c with
  | .readBlock b =>
    if l.length = 33 ∧ (byteAt l 0).toNat = b.val then some (.block (fitList 32 0#8 (l.drop 1))) else none
  | .challenge _ => if l.length = 16 then some (.response (BitVec.ofNat 128 (ofBytes l))) else none
  | .burn _ token => if l.length = 3 ∧ byteAt l 0 = token then some (.burned (fieldAt l 1 2)) else none
  | .setFlag f => if l.length = 1 ∧ byteAt l 0 = f.code then some .flagSet else none
  | .readSense =>
    if l.length = 2 ∧ (byteAt l 1).toNat ≤ 1 then some (.level (byteAt l 0) (byteAt l 1 == 1#8)) else none

/-- A REFUSED answer is well formed to a BURN alone (R14). -/
def TagCommand.mayRefuse : TagCommand → Bool
  | .burn _ _ => true
  | _ => false

/-- The classification of a complete answer frame (R14). -/
def classify (c : TagCommand) (f : AnswerFrame) : AttemptOutcome :=
  if crc16 (coveredBytes f) ≠ f.crc then .crcBad
  else if f.code = busyCode then (if f.payload = [] then .busy else .crcBad)
  else if f.code = refusedCode then (if f.payload = [] ∧ c.mayRefuse then .refused else .crcBad)
  else if f.code = ackCode then
    match ackPayload c f.payload with
    | some p => .ack p
    | none => .crcBad
  else .crcBad

/-! ### Flash layouts (R213) -/

/-- The 32 bytes of a journal sector header: sector_seq, its CRC, the rest erased (Table 12-8). -/
def headerBlock (seq : Nat) : Block := fitList 32 blankByte (beBytes 4 seq ++ crcBytes (beBytes 4 seq))

/-- The sector_seq of a slot 0 whose header CRC is right and whose sector_seq is not 0 (R171). -/
def headerSeq (b : Block) : Option Nat :=
  let seq := fieldAt b.toList 0 4
  if (crc16 (b.toList.take 4)).toNat = fieldAt b.toList 4 2 ∧ seq ≠ 0 then some seq else none

/-- The code of a verdict (Table 12-1). -/
def Verdict.code : Verdict → Byte
  | .none => 0#8
  | .genuine => 1#8
  | .foreign => 2#8
  | .refilled => 3#8
  | .unread => 4#8

/-- The 32 bytes of a journal record (Table 12-9). -/
def JournalRecord.block (r : JournalRecord) : Block :=
  sealed (beBytes 4 r.seq ++ beBytes 8 r.serial.toNat ++ beBytes 2 r.inkType ++ beBytes 2 r.book
    ++ beBytes 2 r.owed ++ [r.verdict.code, r.seen.setWidth 8, BitVec.ofNat 8 r.lastBay])

/-- The verdict a record's byte names, NONE marking a tombstone (Table 9-4). -/
def recordVerdict (b : Byte) : Option Verdict :=
  if b = 0#8 then some .none else if b = 1#8 then some .genuine else if b = 2#8 then some .foreign
  else if b = 3#8 then some .refilled else none

/-- A good record: its CRC right and its fields within Table 9-4 (R160). -/
def goodRecord (b : Block) : Option JournalRecord :=
  let l := b.toList
  match recordVerdict (byteAt l 18) with
  | none => none
  | some v =>
    let r : JournalRecord :=
      { seq := fieldAt l 0 4, serial := BitVec.ofNat 64 (fieldAt l 4 8), inkType := fieldAt l 12 2
        book := fieldAt l 14 2, owed := fieldAt l 16 2, verdict := v, seen := (byteAt l 19).setWidth 6
        lastBay := (byteAt l 20).toNat }
    let ranges :=
      if v = .none then
        r.inkType = 0 ∧ r.book = 0 ∧ r.owed = 0 ∧ byteAt l 19 = 0#8 ∧ r.lastBay = 0
      else 1 ≤ r.inkType ∧ r.book ≤ 4095 ∧ r.owed ≤ 4095 ∧ (byteAt l 19).toNat < 64 ∧ r.lastBay < 24
    if crcGood b ∧ 1 ≤ r.seq ∧ ranges then some r else none

/-- The judgement of one slot of sector 0 (R170, R207). -/
inductive SlotJudgement where
  | good (p : Profile)
  | blank
  | bad
deriving DecidableEq, Repr

/-- A slot of sector 0 judged for its channel (R170). -/
def judgeProfileSlot (c : ChanId) (b : Block) : SlotJudgement :=
  if b = Vector.replicate 32 blankByte then .blank
  else if crcGood b ∧ (byteAt b.toList 0).toNat = c.val then
    match decodeProfile ((contentOf b).drop 1) with
    | some p => .good p
    | none => .bad
  else .bad

/-! ### Answers (Tables 10-3, 12-1, 12-6) -/

/-- The code of a status. -/
def Status.code : Status → Byte
  | .none => 0#8
  | .done => 1#8
  | .busy => 2#8
  | .badKind => 3#8
  | .badArgument => 4#8
  | .bayEmpty => 5#8
  | .bayEmptied => 6#8
  | .notFound => 7#8
  | .notEligible => 8#8
  | .channelOccupied => 9#8
  | .installed => 10#8
  | .enforced => 11#8
  | .tagNoResponse => 12#8
  | .storeFault => 13#8
  | .powerWarning => 14#8

/-- An answer with a status and an answer area. -/
def answerOf (st : Status) (area : List Byte) : Answer :=
  { status := st, high := 0#8, area := fitList 30 0#8 area }

/-- An answer that leaves the answer area zero. -/
def plainAnswer (st : Status) : Answer := answerOf st []

/-- The status word of an answer (R211). -/
def Answer.word (a : Answer) : Word := a.high ++ a.status.code

/-- One byte for a Bool. -/
def boolByte (b : Bool) : Byte := if b then 1#8 else 0#8

/-- A bay number, 0xFF where absent (R211). -/
def bayByte (b : Option BayId) : Byte :=
  match b with
  | some b => BitVec.ofNat 8 b.val
  | none => 0xFF#8

/-- A value as one byte. -/
def natByte (n : Nat) : Byte := BitVec.ofNat 8 n

end Sys2Proof.Machine
end

