-- ==== Sys2Proof/Machine/HistoryTable.lean ====
section
/-! DEFINITION. The history table: lookup, current content, journal-due items, use stamps, places and the
verdict a reconciliation gives (chapter 3). -/

namespace Sys2Proof.Machine

/-- The live entry of a serial (R40: at most one). -/
def State.entryOf (s : State) (serial : Serial) : Option Entry :=
  s.history.live.find? fun e => e.serial == serial

/-- A change of the live entry of a serial. -/
def State.updEntry (s : State) (serial : Serial) (f : Entry → Entry) : State :=
  s.updHist fun h => { h with live := h.live.map fun e => if e.serial = serial then f e else e }

/-- owed of the current content: the installed bay's pending, or the entry's own (R41). -/
def State.owedNow (s : State) (e : Entry) : Nat :=
  match e.installedBay with
  | some b => (s.bay b).pending
  | none => e.owed

/-- The journal record of an entry's current content (R41, R160). -/
def State.recordOf (s : State) (e : Entry) (seq : Nat) : JournalRecord :=
  { seq := seq, serial := e.serial, inkType := e.inkType, book := e.book, owed := s.owedNow e
    verdict := e.verdict, seen := e.seen, lastBay := e.lastBay.val }

/-- The tombstone record of a serial (R160). -/
def tombstoneRecord (serial : Serial) (seq : Nat) : JournalRecord :=
  { seq := seq, serial := serial, inkType := 0, book := 0, owed := 0, verdict := .none, seen := 0#6
    lastBay := 0 }

/-- A live entry becomes journal-due: a RECORD item joins unless one waits already (R49); not while the
journal is degraded (R54). -/
def State.makeDue (s : State) (serial : Serial) : State :=
  if s.store.mode = .degraded then s
  else
    match s.entryOf serial with
    | none => s
    | some e =>
      if e.journalDue then s
      else
        (s.updEntry serial fun e => { e with journalDue := true }).updHist fun h =>
          { h with joining := h.joining ++ [⟨serial, false⟩] }

/-- Several entries become journal-due at one event. -/
def State.makeAllDue (s : State) (l : List Serial) : State := l.foldl State.makeDue s

/-- The rank of a joining item: installed bays in ascending order, then serials in ascending order (R49). -/
def State.joinKey (s : State) (i : DueItem) : Nat × Nat :=
  match s.entryOf i.serial with
  | some e =>
    match e.installedBay with
    | some b => (b.val, 0)
    | none => (24, i.serial.toNat)
  | none => (24, i.serial.toNat)

/-- The items that became due at the event join the tail in the order of R49. -/
def State.flushJoining (s : State) : State :=
  s.updHist fun h => { h with fifo := h.fifo ++ sortBy s.joinKey h.joining, joining := [] }

/-- The serials of the entries with a cartridge seated. -/
def State.installedSerials (s : State) : List Serial :=
  (s.history.live.filter fun e => e.installedBay.isSome).map (·.serial)

/-- referenced of a journal sector: the live entries whose latest record lies in it (Table 9-2). -/
def State.referenced (s : State) (j : SecId) : Nat :=
  (s.history.live.filter fun e => (e.journalLocation.map (·.sector)) == some j).length

/-- Use stamps 1 to N in the order they had (R42). -/
def History.renumbered (h : History) : History :=
  { h with
    live := h.live.map fun e =>
      { e with useStamp := (h.live.filter fun x => decide (x.useStamp ≤ e.useStamp)).length }
    useCounter := h.live.length }

/-- The use stamp counter stepped, after a renumbering where it stands at its largest value (R42). -/
def History.stepStamp (h : History) : History :=
  let h := if h.useCounter < top32 then h else h.renumbered
  { h with useCounter := h.useCounter + 1 }

/-- An entry eviction may take: not installed and not journal-due (R44). -/
def Entry.evictable (e : Entry) : Bool := e.installedBay.isNone && !e.journalDue

/-- The candidate with the lowest use_stamp (R44). -/
def lowestStamp : List Entry → Option Entry
  | [] => none
  | e :: l =>
    match lowestStamp l with
    | none => some e
    | some m => if e.useStamp ≤ m.useStamp then some e else some m

/-- The kind of a serial's waiting item changed in place (R44, R57). -/
def History.turnItem (h : History) (serial : Serial) (tombstone : Bool) : History :=
  let turn : DueItem → DueItem := fun i => if i.serial = serial then { i with tombstone := tombstone } else i
  { h with fifo := h.fifo.map turn, joining := h.joining.map turn }

/-- A place for a serial that has no live entry, in the first way of R44 that applies, with whether its
waiting item has become the RECORD item; `none` where no place can be had (R45). -/
def History.takePlace (h : History) (serial : Serial) : Option (History × Bool) :=
  if h.tombs.contains serial then
    some ({ h.turnItem serial false with tombs := h.tombs.erase serial }, true)
  else if h.live.length + h.tombs.length < Config.historyPlaces then some (h, false)
  else
    match lowestStamp (h.live.filter Entry.evictable) with
    | none => none
    | some v =>
      some ({ h with live := h.live.filter fun e => e.serial != v.serial
                     evictions := satAdd top16 h.evictions 1 }, false)

/-- The bits of seen_flags (Table 12-1). -/
def depletedSeen : SeenSet := 0b000001#6

/-- The seen flag that matches a held-flag kind (R52, Table 7-3). -/
def HeldKind.seenBit : HeldKind → SeenSet
  | .gaugeRise => 0b000010#6
  | .flagConflict => 0b000100#6
  | .refillSense => 0b001000#6
  | .leakSense => 0b010000#6
  | .burnMismatch => 0b100000#6

/-- Seen flags set in the entry of a serial; the entry becomes journal-due when one was clear (R52). -/
def State.setSeen (s : State) (serial : Serial) (bits : SeenSet) : State :=
  match s.entryOf serial with
  | none => s
  | some e =>
    if e.seen ||| bits = e.seen then s
    else (s.updEntry serial fun e => { e with seen := e.seen ||| bits }).makeDue serial

/-- The verdict of a reconciliation: the strongest candidate, its reason in the order HISTORY, TAG_MARK,
FLAG_CONFLICT, GAUGE_RISE (R47). -/
def reconcileVerdict (remembered : Option Verdict) (tagMark conflict rise : Bool) : Verdict × VerdictReason :=
  match remembered with
  | some .foreign => (.foreign, .history)
  | some .refilled => (.refilled, .history)
  | _ =>
    if tagMark then (.refilled, .tagMark)
    else if conflict then (.refilled, .flagConflict)
    else if rise then (.refilled, .gaugeRise)
    else (.genuine, .none)

/-- The outcome of Table 3-2: the bay's book and pending, and whether GAUGE_RISE fires. -/
structure GaugeCase where
  book    : Nat
  pending : Nat
  rise    : Bool
deriving DecidableEq, Repr

/-- Table 3-2, a tag's gauge against an existing entry's book and owed (R46). -/
def gaugeCase (g book owed : Nat) : GaugeCase :=
  if g < book then ⟨g, 0, false⟩
  else if g ≤ book + owed then ⟨book, g - book, false⟩
  else ⟨g, 0, true⟩

end Sys2Proof.Machine
end

