-- ==== Sys2Proof/Machine/Bays.lean ====
section
/-! DEFINITION. The bay controller's own operations: eligibility, the change of a bay's state with what
always goes with it, and the rules for the standing wants (chapters 2 and 5, R117, R118). -/

namespace Sys2Proof.Machine

/-- Membership in a set of held kinds. -/
def HeldKind.bit : HeldKind → HeldSet
  | .gaugeRise => 0b00001#5
  | .flagConflict => 0b00010#5
  | .refillSense => 0b00100#5
  | .leakSense => 0b01000#5
  | .burnMismatch => 0b10000#5

/-- A set of held kinds names a kind. -/
def hasKind (set : HeldSet) (k : HeldKind) : Bool := set &&& k.bit != 0#5

/-- The held kinds that bar under the latch: all but LEAK_SENSE (condition 4 of Table 2-3). -/
def barringKinds : HeldSet := 0b10111#5

/-- The states in which a bay is decided on (R30). -/
def BayState.decided : BayState → Bool
  | .standby | .feeding | .barred | .drained => true
  | _ => false

/-- The states in which a bay is sensed (Table 2-1). -/
def BayState.sensed : BayState → Bool
  | .standby | .feeding => true
  | _ => false

/-- The strength order of verdicts, GENUINE, REFILLED, FOREIGN (R29). -/
def Verdict.strength : Verdict → Nat
  | .genuine => 1
  | .refilled => 2
  | .foreign => 3
  | .none | .unread => 0

/-- A verdict that reconciliation has found authentic: GENUINE or REFILLED. -/
def Verdict.burns : Verdict → Bool
  | .genuine | .refilled => true
  | _ => false

/-- The profile of a bay's channel. -/
def State.profileOf (s : State) (b : BayId) : Option Profile := (s.chan (chanOf b)).profile

/-- The first condition of Table 2-3 that fails among those with a reason (R30). -/
def barReasonFor (latch : Bool) (profile : Option Profile) (bay : Bay) : BarReason :=
  match profile with
  | none => .channelUnset
  | some p =>
    if bay.identity.map (·.inkType) ≠ some p.inkType then .inkMismatch
    else if bay.gaugeKnown = false then .noGauge
    else if latch ∧ bay.sense.held &&& barringKinds ≠ 0#5 then .held
    else if latch ∧ bay.verdict = .foreign then .foreign
    else if latch ∧ bay.verdict = .refilled then .refilled
    else .none

/-- The reason a bay fails Table 2-3, NONE where no condition with a reason fails. -/
def State.barReasonOf (s : State) (b : BayId) : BarReason :=
  barReasonFor s.latch (s.profileOf b) (s.bay b)

/-- Every condition of Table 2-3 holds, the book condition included. -/
def State.meetsConditions (s : State) (b : BayId) : Bool :=
  decide (s.barReasonOf b = .none) && decide (0 < (s.bay b).book)

/-- The bay is eligible (R30). -/
def State.eligible (s : State) (b : BayId) : Bool := (s.bay b).state.decided && s.meetsConditions b

/-- The sense period of a channel in seconds (R116). -/
def sensePeriodOf (p : Option Profile) : Nat :=
  match p with
  | some p => if p.sensePeriod = 0 then Config.defaultSensePeriod else p.sensePeriod
  | none => Config.defaultSensePeriod

/-- The sense_timer started, one sense period ahead (R117). -/
def State.startSenseTimer (s : State) (b : BayId) : State :=
  let expiry := s.outside.now + sensePeriodOf (s.profileOf b) * 1000000
  s.updBay b fun x => { x with sense := { x.sense with timer := some expiry } }

/-- The window counts back to 0, the live flags kept (R124). -/
def Sense.emptyWindow (x : Sense) : Sense := { x with windowCount := 0, posCount := 0, negCount := 0 }

/-- The window of a bay emptied (R124). -/
def State.emptyWindow (s : State) (b : BayId) : State :=
  s.updBay b fun x => { x with sense := x.sense.emptyWindow }

/-- A change of bay state with what always goes with it: the BAY notice (R35), LEVEL at an entry into
DRAINED (R94), the sense timer and the window at an entry into STANDBY or FEEDING from another state (R117,
R124), the timer stopped and the sense want dropped at leaving them (R117, R118). -/
def State.moveBay (s : State) (b : BayId) (st : BayState) : State :=
  let old := (s.bay b).state
  if old = st then s
  else
    let s := (s.updBay b fun x => { x with state := st }).raise .bay
    let s := if st = .drained then s.raise .level else s
    if st.sensed ∧ ¬ old.sensed then (s.startSenseTimer b).emptyWindow b
    else if old.sensed ∧ ¬ st.sensed then
      s.updBay b fun x =>
        { x with sense := { x.sense with timer := none }, wants := { x.wants with sense := false } }
    else s

/-- A change of verdict and reason, which raises the BAY notice (R29, R35). -/
def State.setVerdict (s : State) (b : BayId) (v : Verdict) (r : VerdictReason) : State :=
  if (s.bay b).verdict = v ∧ (s.bay b).verdictReason = r then s
  else (s.updBay b fun x => { x with verdict := v, verdictReason := r }).raise .bay

/-- The conditions of a burn want (R83). -/
def Bay.burnDue (x : Bay) : Bool := x.state.decided && x.verdict.burns && decide (0 < x.pending)

/-- The conditions of a REFILL_MARK write want but the latch (R37, R38). -/
def Bay.refillMarkDue (x : Bay) : Bool :=
  x.state.decided && x.authenticated && decide (x.verdict = .refilled) && !x.tagRefillMark

/-- The conditions of a DEPLETED write want (R90). -/
def Bay.depletedDue (x : Bay) : Bool :=
  x.state.decided && x.verdict.burns && decide (x.tagGauge = 0) && !x.tagDepleted

/-- The burn want raised where R83 holds. -/
def State.raiseBurnWant (s : State) (b : BayId) : State :=
  if (s.bay b).burnDue then s.updBay b fun x => { x with wants := { x.wants with burn := true } } else s

/-- The REFILL_MARK write want raised where R38 holds. -/
def State.raiseRefillMarkWant (s : State) (b : BayId) : State :=
  if s.latch ∧ (s.bay b).refillMarkDue then
    s.updBay b fun x => { x with wants := { x.wants with refillMark := true } }
  else s

/-- The DEPLETED write want raised where R90 holds. -/
def State.raiseDepletedWant (s : State) (b : BayId) : State :=
  if (s.bay b).depletedDue then s.updBay b fun x => { x with wants := { x.wants with depleted := true } }
  else s

/-- A bay's request withdrawn from the authentication engine: out of the FIFO, or its computation left to
run to a result that is discarded (R26). -/
def AuthEngine.withdraw (a : AuthEngine) (b : BayId) : AuthEngine :=
  { fifo := a.fifo.filter fun r => r.origin != some b
    current := a.current.map fun c => if c.1.origin = some b then (c.1, true) else c }

/-- The oldest request begins when the engine is idle (R24). -/
def AuthEngine.begin (a : AuthEngine) : AuthEngine :=
  match a.current, a.fifo with
  | none, r :: rest => { fifo := rest, current := some (r, false) }
  | _, _ => a

/-- A request joins the FIFO at the tail (R24). -/
def AuthEngine.join (a : AuthEngine) (r : AuthRequest) : AuthEngine :=
  { a with fifo := a.fifo ++ [r] }.begin

/-- A bay's request withdrawn and its challenge, response and expected response cleared (R26). -/
def State.withdrawAuth (s : State) (b : BayId) : State :=
  { s with auth := s.auth.withdraw b }.updBay b fun x =>
    { x with challenge := none, tagResponse := none, expectedResponse := none }

end Sys2Proof.Machine
end

