-- ==== Sys2Proof/Machine/Feed.lean ====
section
/-! DEFINITION. Charging marks and selecting the feed: the volume of a swath, charges and conversions with
their effects, opening, switching and closing a channel, and the re-evaluation of a bay (chapters 4 and 6,
R30 to R32, R83, R94). -/

namespace Sys2Proof.Machine

/-! ### Volumes (section 4.4) -/

/-- The clamped temperature T (R67). -/
def clampTemp (temp : Nat) : Nat := max 10 (min 160 temp)

/-- The factor F, clamped to 2048 to 6144 (R67). -/
def factorOf (k : Int) (t : Nat) : Nat := (max 2048 (min 6144 (4096 + k * ((t : Int) - 50)))).toNat

/-- The adjusted drop volume, rounded half up (R68). -/
def adjusted (v f : Nat) : Nat := (v * f + 2048) / 4096

/-- The swath volume V in 0.1 pL (R69). -/
def swathVolume (nS nM nL vS vM vL f : Nat) : Nat :=
  nS * adjusted vS f + nM * adjusted vM f + nL * adjusted vL f

/-! ### Totals and charges (section 4.5) -/

/-- V added to total; saturated shows that the largest value is reached (R70). -/
def Channel.addTotal (ch : Channel) (v : Nat) : Channel :=
  { ch with total := satAdd top64 ch.total v, saturated := ch.saturated || decide (top64 ≤ ch.total + v) }

/-- A volume added to unbooked (R71). -/
def Channel.addUnbooked (ch : Channel) (v : Nat) : Channel :=
  { ch with unbooked := satAdd top64 ch.unbooked v
            saturated := ch.saturated || decide (top64 ≤ ch.unbooked + v) }

/-- M, one mark of a bay's cartridge in 0.1 pL; 0 where no identity is present (section 4.5). -/
def Bay.markSize (x : Bay) : Nat :=
  match x.identity with
  | some i => i.markVolume * 10000000
  | none => 0

/-- The bay whose valve is open on a channel (section 6.1). -/
def State.feedingBay (s : State) (c : ChanId) : Option BayId :=
  match (s.chan c).feedState with
  | .closed => none
  | .openA => some (bayA c)
  | .openB => some (bayB c)

/-- Whole marks the channel's residue amounts to at a bay's mark size (R72 step 2). -/
def State.marksDue (s : State) (c : ChanId) (b : BayId) : Nat := (s.chan c).residue / (s.bay b).markSize

/-- Marks of the residue that the bay's book can take (R72 step 4). -/
def State.marksApplied (s : State) (c : ChanId) (b : BayId) : Nat := min (s.marksDue c b) (s.bay b).book

/-- The history entry follows a fall of its bay's book and becomes journal-due below a multiple of 16
(R41, R50, R73). -/
def State.followBook (s : State) (b : BayId) (before : Nat) : State :=
  match (s.bay b).entry with
  | none => s
  | some serial =>
    let now := (s.bay b).book
    let s := s.updEntry serial fun e => { e with book := now }
    if now / 16 < before / 16 then s.makeDue serial else s

/-- LEVEL where a book crossed its channel's low_marks downward (R94). -/
def State.levelCrossing (s : State) (b : BayId) (before : Nat) : State :=
  match s.profileOf b with
  | none => s
  | some p => if p.lowMarks < before ∧ (s.bay b).book ≤ p.lowMarks then s.raise .level else s

/-- Steps 2 to 7 of R72 over the residue as it stands, with the effects of R73 on the history entry, the
burn want and the LEVEL notice. -/
def State.convert (s : State) (c : ChanId) (b : BayId) : State :=
  let m := (s.bay b).markSize
  let due := s.marksDue c b
  let apply := s.marksApplied c b
  let before := (s.bay b).book
  let s := s.updChan c fun ch =>
    { ch with residue := ch.residue - due * m, charged := satAdd top64 ch.charged (apply * m) }.addUnbooked
      ((due - apply) * m)
  let s := s.updBay b fun x => { x with book := x.book - apply, pending := x.pending + apply }
  if apply = 0 then s else ((s.followBook b before).raiseBurnWant b).levelCrossing b before

/-! ### Settle interval (R106) -/

/-- A start of the channel's settle interval; one of length 0 ends a running interval. -/
def State.startSettle (s : State) (c : ChanId) : State :=
  let len := match (s.chan c).profile with
    | some p => p.settleInterval
    | none => 0
  let settleEnd := if len = 0 then none else some (s.outside.now + len * 2000000)
  s.updChan c fun ch => { ch with settleEnd := settleEnd }

/-! ### Opening, switching, closing (chapter 6) -/

/-- switch_marks of a channel (Table 6-2). -/
def State.switchMarks (s : State) (c : ChanId) : Nat :=
  match (s.chan c).profile with
  | some p => p.switchMarks
  | none => 0

/-- The switch threshold is met (R99). -/
def State.thresholdMet (s : State) (c : ChanId) : Bool :=
  match s.feedingBay c with
  | none => false
  | some b =>
    decide (0 < (s.bay b).book) && decide ((s.bay b).book ≤ s.switchMarks c)
      && s.eligible (twinOf b) && decide (s.switchMarks c < (s.bay (twinOf b)).book)

/-- The feed_state that opens a bay's valve. -/
def openState (b : BayId) : FeedState := if b.val % 2 = 0 then .openA else .openB

/-- The closed_reason of a closing by a cause (R102 to R104). -/
def FeedCause.closes : FeedCause → ClosedReason
  | .drained => .drained
  | .barred => .barred
  | .fault => .fault
  | .removed => .removed
  | .none | .opened | .threshold | .ticket => .none

/-- The channel closes; closed_reason and feed_cause take the cause (R102 to R105). -/
def State.closeChannel (s : State) (c : ChanId) (cause : FeedCause) : State :=
  (s.updChan c fun ch =>
    { ch with feedState := .closed, closedReason := cause.closes, feedCause := cause }).raise .channel

/-- Steps 1 to 3 of R98: the bay left goes to STANDBY unless its own event moved it, the new bay enters
FEEDING, and the valve, cause and reason change. -/
def State.turnTo (s : State) (c : ChanId) (b : BayId) (cause : FeedCause) : State :=
  let s := match s.feedingBay c with
    | some old => if old ≠ b ∧ (s.bay old).state = BayState.feeding then s.moveBay old .standby else s
    | none => s
  let s := s.moveBay b .feeding
  s.updChan c fun ch =>
    { ch with feedState := openState b, closedReason := .none, feedCause := cause }

/-- What the feed selector does once marks were applied to the feeding bay. -/
inductive FeedMove where
  | stay
  | switch (cause : FeedCause)
  | close
deriving DecidableEq, Repr

/-- A bay whose book reached 0 is re-evaluated to DRAINED (R31, R73). -/
def State.drain (s : State) (b : BayId) : State :=
  (s.updBay b fun x => { x with barReason := s.barReasonOf b }).moveBay b .drained

/-- The effects on the feed of marks applied to the feeding bay: draining (R102) or the threshold test
(R100). -/
def State.afterMarks (s : State) (c : ChanId) (b : BayId) : State × FeedMove :=
  if (s.bay b).book = 0 then
    let s := s.drain b
    if s.eligible (twinOf b) then (s, .switch .drained) else (s, .close)
  else if s.thresholdMet c then (s, .switch .threshold)
  else (s, .stay)

/-- Steps 4 to 7 of R98 after the turn: conversion, the hand-over to the level checker, the settle interval
and the CHANNEL notice. -/
def State.takeUp (s : State) (c : ChanId) (old : Option BayId) (b : BayId) : State :=
  let s := s.convert c b
  let s := match old with
    | some o => s.emptyWindow o
    | none => s
  ((s.emptyWindow b).startSettle c).raise .channel

/-- A bay begins feeding (R98), with what the conversion's marks lead to at the same event (R100, R102). A
second change in a row takes the channel back to a bay whose mark size the residue no longer reaches, so no
third conversion applies a mark; the first argument bounds the changes, and the last of them looks no
further. -/
def State.beginFeeding (n : Nat) (s : State) (c : ChanId) (b : BayId) (cause : FeedCause) : State :=
  let old := s.feedingBay c
  let s := s.turnTo c b cause
  let applied := s.marksApplied c b
  let s := s.takeUp c old b
  if applied = 0 then s
  else
    match n with
    | 0 => s
    | n + 1 =>
      match s.afterMarks c b with
      | (s, .stay) => s
      | (s, .switch cause') => State.beginFeeding n s c (twinOf b) cause'
      | (s, .close) => s.closeChannel c .drained

/-- The bound on feed changes that follow the first one of an event. -/
def feedBound : Nat := 3

/-- A bay begins feeding. -/
def State.feedFrom (s : State) (c : ChanId) (b : BayId) (cause : FeedCause) : State :=
  State.beginFeeding feedBound s c b cause

/-- The feeding bay stopped feeding at an event of its own: the channel passes to the twin when it is
eligible and closes otherwise (R102 to R104). -/
def State.feedLost (s : State) (b : BayId) (cause : FeedCause) : State :=
  if s.eligible (twinOf b) then s.feedFrom (chanOf b) (twinOf b) cause else s.closeChannel (chanOf b) cause

/-- A threshold test (R99). -/
def State.thresholdTest (s : State) (c : ChanId) : State :=
  if s.thresholdMet c then
    match s.feedingBay c with
    | some b => s.feedFrom c (twinOf b) .threshold
    | none => s
  else s

/-- The bay a CLOSED channel opens with, among those eligible (R97). -/
def State.openingChoice (s : State) (c : ChanId) : Option BayId :=
  let a := bayA c
  let b := bayB c
  match s.eligible a, s.eligible b with
  | false, false => none
  | true, false => some a
  | false, true => some b
  | true, true =>
    let highA := decide (s.switchMarks c < (s.bay a).book)
    let highB := decide (s.switchMarks c < (s.bay b).book)
    if highA && !highB then some a
    else if highB && !highA then some b
    else if (s.bay a).book ≤ (s.bay b).book then some a
    else some b

/-- A bay became eligible: a CLOSED channel opens (R97), an open one makes a threshold test (R101). -/
def State.becameEligible (s : State) (b : BayId) : State :=
  let c := chanOf b
  match s.feedingBay c with
  | some _ => s.thresholdTest c
  | none =>
    match s.openingChoice c with
    | some x => s.feedFrom c x .opened
    | none => s

/-- The volume of an accepted frame or of a purge: added to total, then charged to the feeding bay or set
aside as unbooked (R70 to R73). -/
def State.takeVolume (s : State) (c : ChanId) (v : Nat) : State :=
  let s := s.updChan c fun ch => ch.addTotal v
  match s.feedingBay c with
  | none => s.updChan c fun ch => ch.addUnbooked v
  | some b =>
    let s := s.updChan c fun ch => { ch with residue := ch.residue + v }
    let applied := s.marksApplied c b
    let s := s.convert c b
    if applied = 0 then s
    else
      match s.afterMarks c b with
      | (s, .stay) => s
      | (s, .switch cause) => s.feedFrom c (twinOf b) cause
      | (s, .close) => s.closeChannel c .drained

/-! ### Re-evaluation (R31) -/

/-- The state Table 2-4 gives a bay that is not newly eligible. -/
def Bay.ineligibleState (x : Bay) : BayState := if x.gaugeKnown ∧ x.book = 0 then .drained else .barred

/-- A re-evaluation of a bay (R31, Table 2-4). -/
def State.reevaluate (s : State) (b : BayId) : State :=
  let old := (s.bay b).state
  if old.decided then
    let fits := s.meetsConditions b
    let s := s.updBay b fun x => { x with barReason := s.barReasonOf b }
    if old = .drained then s
    else if fits then
      if old = .barred then (s.moveBay b .standby).becameEligible b else s
    else
      let st := (s.bay b).ineligibleState
      let s := s.moveBay b st
      if old = .feeding then s.feedLost b (if st = .drained then .drained else .barred) else s
  else s

/-- The end of an insertion (R27, R28, R31): bar reason and state, the wants of R83, R90 and R38, and the
feed selector told of an eligible bay. -/
def State.endInsertion (s : State) (b : BayId) : State :=
  let fits := s.meetsConditions b
  let st := if fits then .standby else (s.bay b).ineligibleState
  let s := (s.updBay b fun x => { x with barReason := s.barReasonOf b }).moveBay b st
  let s := ((s.raiseBurnWant b).raiseDepletedWant b).raiseRefillMarkWant b
  if fits then s.becameEligible b else s

end Sys2Proof.Machine
end

