-- ==== Sys2Proof/Machine/LevelChecks.lean ====
section
/-! DEFINITION. The level checker: samples, estimates, classes and windows, held flags with their
consequences, snapshots, and the carrying out of a CLEAR_HELD (chapter 7). -/

namespace Sys2Proof.Machine

/-! ### Held flags -/

/-- The consequence verdict of a held-flag kind (Table 7-3). -/
def HeldKind.consequence : HeldKind → Option (Verdict × VerdictReason)
  | .gaugeRise => some (.refilled, .gaugeRise)
  | .flagConflict => some (.refilled, .flagConflict)
  | .refillSense => some (.refilled, .refillSense)
  | .leakSense => none
  | .burnMismatch => some (.foreign, .burnMismatch)

/-- alert_select of a bay's channel; an unset profile counts as holding all five kinds (R116). -/
def State.alertSelect (s : State) (b : BayId) : HeldSet :=
  match s.profileOf b with
  | some p => p.alertSelect
  | none => 0b11111#5

/-- The snapshot a kind captures (R131). -/
def Bay.snapshotFor (x : Bay) (k : HeldKind) : Snapshot :=
  let sensed := match k with
    | .gaugeRise | .flagConflict => false
    | .refillSense | .leakSense | .burnMismatch => true
  { kind := k, book := x.book, tagGauge := x.tagGauge, pending := x.pending
    estimate := if sensed then x.sense.lastEstimate else none
    discrepancy := if sensed then x.sense.lastDiscrepancy else none }

/-- A consequence verdict applied under the strength order; FOREIGN drops the burn want (R29, R83), and the
entry takes the verdict and becomes journal-due (R52). -/
def State.applyConsequence (s : State) (b : BayId) (v : Verdict) (r : VerdictReason) : State :=
  if (s.bay b).verdict.strength < v.strength then
    let s := s.setVerdict b v r
    let s := if v = .foreign then
        s.updBay b fun x => { x with wants := { x.wants with burn := false } }
      else s
    match (s.bay b).entry with
    | none => s
    | some serial => (s.updEntry serial fun e => { e with verdict := v }).makeDue serial
  else s

/-- A check fires: a clear held flag sets, with its snapshot, ALERT, consequence verdict, seen flag,
re-evaluation and flag write; a set one has no further effect (R125, R126, R130, R131). -/
def State.fireCheck (s : State) (b : BayId) (k : HeldKind) : State :=
  if hasKind (s.bay b).sense.held k then s
  else
    let s := s.updBay b fun x =>
      { x with sense :=
          { x.sense with
            held := x.sense.held ||| k.bit
            snapshot := match x.sense.snapshot with
              | some snap => some snap
              | none => some (x.snapshotFor k) } }
    let s := if hasKind (s.alertSelect b) k then s.raise .alert else s
    let s := match k.consequence with
      | some (v, r) => s.applyConsequence b v r
      | none => s
    let s := match (s.bay b).entry with
      | some serial => s.setSeen serial k.seenBit
      | none => s
    (s.raiseRefillMarkWant b).reevaluate b

/-! ### Samples -/

/-- The estimate in marks: an exact quotient, its floor toward the lower integer, clamped to 0 to C (R121). -/
def estimateOf (reading sEmpty sFull capacity : Nat) : Nat :=
  let q := Int.fdiv (((reading : Int) - sEmpty) * capacity) ((sFull : Int) - sEmpty)
  (max 0 (min (capacity : Int) q)).toNat

/-- The class of a discrepancy (R122). -/
def classOf (d : Int) (tolerance : Nat) : SampleClass :=
  if (tolerance : Int) < d then .pos else if d < -(tolerance : Int) then .neg else .neutral

/-- The counts of a window. -/
structure WindowCounts where
  count : Nat
  pos   : Nat
  neg   : Nat
deriving DecidableEq, Repr

/-- One usable sample counted (R123). -/
def WindowCounts.add (w : WindowCounts) (c : SampleClass) : WindowCounts :=
  { count := w.count + 1, pos := w.pos + (if c = .pos then 1 else 0)
    neg := w.neg + (if c = .neg then 1 else 0) }

/-- More than half of a window of W samples (R123). -/
def majority (n window : Nat) : Bool := decide (window < n * 2)

/-- The channel's calibration is set (R116). -/
def calibrated (p : Option Profile) : Option Profile :=
  match p with
  | some p => if p.sFull ≠ p.sEmpty then some p else none
  | none => none

/-- A discarded sample (R120). -/
def State.discardSample (s : State) (b : BayId) (why : SampleDiscard) : State :=
  (s.updChan (chanOf b) fun ch => { ch with skippedSamples := satAdd top16 ch.skippedSamples 1 }).updBay b
    fun x => { x with sense := { x.sense with lastDiscard := why } }

/-- capacity_marks C of the seated cartridge. -/
def Bay.capacity (x : Bay) : Nat :=
  match x.identity with
  | some i => i.capacityMarks
  | none => 0

/-- A usable sample: estimate, discrepancy and class are stored, the sample is counted, and a window that
ends sets the live flags and fires their checks (R121 to R123, R127). -/
def State.useSample (s : State) (b : BayId) (p : Profile) (reading : Byte) : State :=
  let x := s.bay b
  let e := estimateOf reading.toNat p.sEmpty p.sFull x.capacity
  let d := (e : Int) - x.book
  let c := classOf d p.tolerance
  let w := WindowCounts.add ⟨x.sense.windowCount, x.sense.posCount, x.sense.negCount⟩ c
  let s := s.updBay b fun x =>
    { x with sense :=
        { x.sense with lastDiscard := .none, lastReading := some reading, lastEstimate := some e
                       lastDiscrepancy := some d, lastClass := c } }
  if p.window ≤ w.count then
    let refill := majority w.pos p.window
    let leak := majority w.neg p.window
    let s := s.updBay b fun x =>
      { x with sense := { x.sense.emptyWindow with liveRefill := refill, liveLeak := leak } }
    let s := if refill then s.fireCheck b .refillSense else s
    if leak then s.fireCheck b .leakSense else s
  else
    s.updBay b fun x =>
      { x with sense := { x.sense with windowCount := w.count, posCount := w.pos, negCount := w.neg } }

/-- A READ_SENSE ACK of a bay in STANDBY or FEEDING: the timer restarts and the sample is tested in the
order of R120. -/
def State.takeSample (s : State) (b : BayId) (reading : Byte) (ok : Bool) : State :=
  let s := s.startSenseTimer b
  if ok = false then s.discardSample b .sensor
  else if (s.chan (chanOf b)).settleEnd.isSome then s.discardSample b .settling
  else
    match calibrated (s.profileOf b) with
    | none => s.discardSample b .uncalibrated
    | some p => s.useSample b p reading

/-! ### CLEAR_HELD (R133, R134) -/

/-- The answer area of a CLEAR_HELD: held set, live flags, snapshot presence (Table 12-6). -/
def Sense.clearAnswer (x : Sense) : List Byte :=
  [x.held.setWidth 8, boolByte x.liveRefill ||| (boolByte x.liveLeak <<< 1), boolByte x.snapshot.isSome]

/-- The changes of a CLEAR_HELD answered DONE, in the order of R134. -/
def State.clearFlags (s : State) (b : BayId) (set : HeldSet) : State :=
  let held := (s.bay b).sense.held
  let s := s.updBay b fun x => { x with sense := { x.sense with held := x.sense.held &&& ~~~set } }
  let s := s.emptyWindow b
  let s := if (s.bay b).sense.held = 0#5 then
      s.updBay b fun x => { x with sense := { x.sense with snapshot := none } }
    else s
  if held &&& set ≠ 0#5 then s.reevaluate b else s

/-- The set a CLEAR_HELD names: at least one kind, and no other value (R133). -/
def clearSetOf (a : Args) : Option HeldSet :=
  match heldSetOf (argByte a 0) with
  | some set => if set = 0#5 then none else some set
  | none => none

/-- A CLEAR_HELD carried out at its turn, with its answer (R133, R134). -/
def State.carryOutClear (s : State) (b : BayId) (a : Args) : State × Answer :=
  match clearSetOf a with
  | none => (s, plainAnswer .badArgument)
  | some set =>
    if (s.bay b).state = .empty then (s, answerOf .bayEmpty (s.bay b).sense.clearAnswer)
    else
      let s := s.clearFlags b set
      (s, answerOf .done (s.bay b).sense.clearAnswer)

end Sys2Proof.Machine
end

