-- ==== Sys2Proof/Machine/Insertion.lean ====
section
/-! DEFINITION. The insertion sequence, reconciliation, burns and their end, and FAULT (chapters 2, 3 and 5). -/

namespace Sys2Proof.Machine

/-! ### Reconciliation (R43 to R48) -/

/-- A tag shows DEPLETED with a gauge above 0 (R3, R47). -/
def Bay.flagConflict (x : Bay) : Bool := x.tagDepleted && decide (0 < x.tagGauge)

/-- The bay's figures and verdict as a reconciliation gives them (R48 step 3). -/
def State.settleBay (s : State) (b : BayId) (entry : Option Serial) (gc : GaugeCase)
    (v : Verdict × VerdictReason) : State :=
  (s.updBay b fun x => { x with entry := entry, book := gc.book, pending := gc.pending }).setVerdict b v.1 v.2

/-- The checks of a reconciliation fire, FLAG_CONFLICT first so that the snapshot takes its kind (R128,
R131). -/
def State.fireInsertionChecks (s : State) (b : BayId) (conflict rise : Bool) : State :=
  let s := if conflict then s.fireCheck b .flagConflict else s
  if rise then s.fireCheck b .gaugeRise else s

/-- The seen flags a reconciliation sets (R47). -/
def insertionSeen (depleted conflict rise : Bool) : SeenSet :=
  (if depleted then depletedSeen else 0#6)
  ||| (if conflict then HeldKind.flagConflict.seenBit else 0#6)
  ||| (if rise then HeldKind.gaugeRise.seenBit else 0#6)

/-- The duplicate course (R43). -/
def State.reconcileDuplicate (s : State) (b : BayId) : State :=
  (s.settleBay b none ⟨(s.bay b).tagGauge, 0, false⟩ (.foreign, .history)).endInsertion b

/-- The course against an existing entry that is not installed (R46 to R48). -/
def State.reconcileExisting (s : State) (b : BayId) (id : Identity) (e : Entry) : State :=
  let x := s.bay b
  let gc := gaugeCase x.tagGauge e.book e.owed
  let v := reconcileVerdict (some e.verdict) x.tagRefillMark x.flagConflict gc.rise
  let seen := insertionSeen x.tagDepleted x.flagConflict gc.rise
  let s := s.updHist History.stepStamp
  let stamp := s.history.useCounter
  let s := s.updEntry id.serial fun e =>
    { e with inkType := id.inkType, book := gc.book, owed := 0, verdict := v.1, seen := e.seen ||| seen
             installedBay := some b, lastBay := b, useStamp := stamp }
  let s := (s.makeDue id.serial).settleBay b (some id.serial) gc v
  (s.fireInsertionChecks b x.flagConflict gc.rise).endInsertion b

/-- The new entry course, the place taken (R44, R47, R48). The counter steps before the entry joins the live ones, so
that a renumbering at it leaves the entry out of its N: DESIGN CHOICE, log entry 43 (R42). -/
def State.reconcileNew (s : State) (b : BayId) (id : Identity) (h : History) (itemWaits : Bool) : State :=
  let x := s.bay b
  let gc : GaugeCase := ⟨x.tagGauge, 0, false⟩
  let v := reconcileVerdict none x.tagRefillMark x.flagConflict false
  let seen := insertionSeen x.tagDepleted x.flagConflict false
  let h := h.stepStamp
  let e : Entry :=
    { serial := id.serial, inkType := id.inkType, book := x.tagGauge, owed := 0, verdict := v.1
      seen := seen, installedBay := some b, lastBay := b, useStamp := h.useCounter
      journalLocation := none, journalSeq := 0, journalDue := itemWaits }
  let s := { s with history := { h with live := h.live ++ [e] } }
  let s := (s.makeDue id.serial).settleBay b (some id.serial) gc v
  (s.fireInsertionChecks b x.flagConflict false).endInsertion b

/-- The untracked course (R45). -/
def State.reconcileUntracked (s : State) (b : BayId) : State :=
  let x := s.bay b
  let v := reconcileVerdict none x.tagRefillMark x.flagConflict false
  let s := s.updHist fun h => { h with untracked := satAdd top16 h.untracked 1 }
  let s := s.settleBay b none ⟨x.tagGauge, 0, false⟩ v
  (s.fireInsertionChecks b x.flagConflict false).endInsertion b

/-- A bay reaches RECONCILING and the history table answers at once (R27, section 3.3). -/
def State.reconcile (s : State) (b : BayId) : State :=
  let s := s.moveBay b .reconciling
  match (s.bay b).identity with
  | none => s.endInsertion b
  | some id =>
    match s.entryOf id.serial with
    | some e => if e.installedBay.isSome then s.reconcileDuplicate b else s.reconcileExisting b id e
    | none =>
      match s.history.takePlace id.serial with
      | some (h, waits) => s.reconcileNew b id h waits
      | none => s.reconcileUntracked b

/-! ### Identification and challenge (R22, R23, R25) -/

/-- An insertion step want raised (R143). -/
def State.wantStep (s : State) (b : BayId) (st : InsertionStep) : State :=
  s.updBay b fun x => { x with wants := { x.wants with insertion := some st } }

/-- The READ_BLOCK 0 ACK of an IDENTIFYING bay (R22). -/
def State.gotIdentity (s : State) (b : BayId) (blk : Block) : State :=
  let s := match identityOf blk with
    | some id => s.updBay b fun x => { x with identity := some id }
    | none => s.setVerdict b .foreign .identityCrc
  s.wantStep b .readGauge

/-- The bay draws its challenge, enters CHALLENGING and places its request (R16, R25). -/
def State.enterChallenging (s : State) (b : BayId) (id : Identity) : State :=
  let c := Config.challengeDraw s.outside.challengeDraws
  let s := s.updOutside fun o => { o with challengeDraws := o.challengeDraws + 1 }
  let s := s.updBay b fun x => { x with challenge := some c }
  let s := (s.moveBay b .challenging).wantStep b .challenge
  { s with auth := s.auth.join ⟨some b, id.serial, id.inkType, c⟩ }

/-- The figures of a good block 1 (R23). -/
def State.takeGauge (s : State) (b : BayId) (g : GaugeBlock) : State :=
  s.updBay b fun x =>
    { x with tagGauge := g.gauge, pending := 0, book := g.gauge, gaugeKnown := true
             tagDepleted := g.depleted, tagRefillMark := g.refillMark }

/-- The READ_BLOCK 1 ACK of an IDENTIFYING bay, in the three ways of R23. -/
def State.gotGauge (s : State) (b : BayId) (blk : Block) : State :=
  match (s.bay b).identity with
  | some id =>
    match gaugeOf id.capacityMarks blk with
    | some g => (s.takeGauge b g).enterChallenging b id
    | none => (s.setVerdict b .foreign .gaugeCrc).enterChallenging b id
  | none =>
    match gaugeOf 4095 blk with
    | some g => (s.takeGauge b g).endInsertion b
    | none => s.endInsertion b

/-- The comparison once the tag's response and the expected response are both present (R16, R25). -/
def State.checkResponse (s : State) (b : BayId) : State :=
  match (s.bay b).tagResponse, (s.bay b).expectedResponse with
  | some r, some e =>
    let s := s.updBay b fun x => { x with challenge := none, tagResponse := none, expectedResponse := none }
    if r ≠ e then (s.setVerdict b .foreign .response).endInsertion b
    else
      let s := s.updBay b fun x => { x with authenticated := true }
      if (s.bay b).gaugeKnown then s.reconcile b else s.endInsertion b
  | _, _ => s

/-- The CHALLENGE ACK of a CHALLENGING bay (R25). -/
def State.gotResponse (s : State) (b : BayId) (r : Bytes16) : State :=
  (s.updBay b fun x => { x with tagResponse := some r }).checkResponse b

/-- The authentication engine's result for a CHALLENGING bay (R25). -/
def State.gotExpected (s : State) (b : BayId) (r : Bytes16) : State :=
  (s.updBay b fun x => { x with expectedResponse := some r }).checkResponse b

/-! ### Burns and flag writes (R85 to R91) -/

/-- R90, a BURN ACK that brought tag_gauge to 0. -/
def State.reachedZero (s : State) (b : BayId) : State :=
  let s := match (s.bay b).entry with
    | some serial =>
      (s.updEntry serial fun e => { e with seen := e.seen ||| depletedSeen }).makeDue serial
    | none => s
  s.raiseDepletedWant b

/-- The burn want dropped when nothing is pending (R83, R85). -/
def State.dropBurnWant (s : State) (b : BayId) : State :=
  if (s.bay b).pending = 0 then s.updBay b fun x => { x with wants := { x.wants with burn := false } } else s

/-- A BURN that ends in ACK with gauge `r` (R85, R86, R90). -/
def State.burnAcked (s : State) (b : BayId) (r : Nat) : State :=
  match (s.bay b).burnInFlight with
  | none => s
  | some f =>
    let s := s.updBay b fun x =>
      { x with tagGauge := x.tagGauge - f.n, pending := x.pending - f.n, burnInFlight := none }
    let s := s.dropBurnWant b
    let s := if r = f.base - f.n then s else s.fireCheck b .burnMismatch
    if (s.bay b).tagGauge = 0 then s.reachedZero b else s

/-- A BURN that ends in REFUSED is a mismatch with nothing confirmed (R87). -/
def State.burnRefused (s : State) (b : BayId) : State :=
  (s.updBay b fun x => { x with burnInFlight := none }).fireCheck b .burnMismatch

/-- A SET_FLAG ACK sets the copy of the flag and drops the want (R38, R91). -/
def State.flagWritten (s : State) (b : BayId) (f : TagFlag) : State :=
  match f with
  | .depleted =>
    s.updBay b fun x => { x with tagDepleted := true, wants := { x.wants with depleted := false } }
  | .refillMark =>
    s.updBay b fun x => { x with tagRefillMark := true, wants := { x.wants with refillMark := false } }

/-! ### FAULT (R33) -/

/-- A bay enters FAULT; one already in FAULT is unchanged (R33, R88, R209). -/
def State.enterFault (s : State) (b : BayId) : State :=
  let old := (s.bay b).state
  if old = .fault then s
  else
    let s := if (s.bay b).verdict = .none then s.setVerdict b .unread .none else s
    let s := s.withdrawAuth b
    let s := s.updBay b fun x => { x with burnInFlight := none, barReason := .none }
    let s := s.moveBay b .fault
    let s := s.updBay b fun x => { x with wants := Wants.none }
    if old = .feeding then s.feedLost b .fault else s

end Sys2Proof.Machine
end

