-- ==== Sys2Proof/Machine/Answers.lean ====
section
/-! DEFINITION. Answering tickets: the answer written in the slot, results held until a ticket's turn in its
bay's order list, and the record of the running self-test (R182, R188 to R190, R201, R203). -/

namespace Sys2Proof.Machine

/-- A slot with its answer written: status and answer area, then ANSWERED (R182, R188). -/
def Slot.answered (x : Slot) (a : Answer) : Slot :=
  { x with status := a.word, answer := a.area, hand := .answered, copy := none }

/-- The port answers a TAKEN slot and raises ANSWER (R182, R188). -/
def State.writeAnswer (s : State) (k : SlotId) (a : Answer) : State :=
  if (s.slot k).hand = .taken then (s.updSlot k fun x => x.answered a).raise .answer else s

/-- A result held in the port's copy of the ticket (R189). -/
def State.holdResult (s : State) (k : SlotId) (a : Answer) : State :=
  s.updSlot k fun x => { x with copy := x.copy.map fun t => { t with result := some a } }

/-- The bay order list of a bay. -/
def State.setOrder (s : State) (b : BayId) (l : List SlotId) : State :=
  s.updPort fun p => { p with bayOrder := updAt p.bayOrder b fun _ => l }

/-- Tickets at their turn are answered down a bay's order list until a head's result is not ready; a
CLEAR_HELD is carried out as it comes to its turn (R189, R190). -/
def State.serveList (b : BayId) : List SlotId → State → State
  | [], s => s.setOrder b []
  | k :: rest, s =>
    match (s.slot k).copy with
    | none => State.serveList b rest s
    | some t =>
      if t.kind = Kind.clearHeld.code then
        let r := s.carryOutClear b t.args
        State.serveList b rest (r.1.writeAnswer k r.2)
      else
        match t.result with
        | some a => State.serveList b rest (s.writeAnswer k a)
        | none => s.setOrder b (k :: rest)

/-- The order list of a bay served from its head (R189). -/
def State.serveBay (s : State) (b : BayId) : State := State.serveList b s.port.bayOrder[b] s

/-- The result of a taken ticket of a kind that may name a bay becomes ready: a ticket that names none is
answered at once, one that names a bay at its turn (R188, R189). -/
def State.finishTicket (s : State) (k : SlotId) (a : Answer) : State :=
  match (s.slot k).copy with
  | none => s
  | some t =>
    match t.bay with
    | none => s.writeAnswer k a
    | some b => (s.holdResult k a).serveBay b

/-! ### The self-test record (R201, R203) -/

/-- The start of a test. -/
def State.startTest (s : State) (k : SlotId) (code : Nat) (bay : Option BayId) : State :=
  { s with selfTest :=
      { running := true, code := code, bay := bay, result := 0, failCause := .none, slot := some k } }

/-- The end of a test: the record, and the TEST notice. -/
def State.endTest (s : State) (result : Nat) (cause : FailCause) : State :=
  { s with selfTest :=
      { s.selfTest with running := false, result := result, failCause := cause, slot := none } }.raise .test

/-- The code of a fail_cause (Table 12-1). -/
def FailCause.code : FailCause → Byte
  | .none => 0#8
  | .mismatch => 1#8
  | .discarded => 2#8

/-- The answer of a test: code, result, fail_cause, a byte unused, then the detail of its code
(Table 12-6). -/
def testAnswer (code result : Nat) (cause : FailCause) (detail : List Byte) : Answer :=
  answerOf .done ([natByte code, natByte result, cause.code, 0#8] ++ detail)

/-- The result of a decided test: the code, or 15 (R203). -/
def decidedResult (code : Nat) (pass : Bool) : Nat := if pass then code else 15

/-- The fail_cause of a decided test (R203). -/
def decidedCause (pass : Bool) : FailCause := if pass then .none else .mismatch

/-- The running test ends as a pass or a fail (R203). -/
def State.concludeTest (s : State) (pass : Bool) : State :=
  s.endTest (decidedResult s.selfTest.code pass) (decidedCause pass)

/-- The answer of a decided test. -/
def State.decidedAnswer (s : State) (pass : Bool) (detail : List Byte) : Answer :=
  testAnswer s.selfTest.code (decidedResult s.selfTest.code pass) (decidedCause pass) detail

/-- A test that names no bay decided: it ends and is answered at once (R203). -/
def State.decideTest (s : State) (k : SlotId) (pass : Bool) (detail : List Byte) : State :=
  (s.concludeTest pass).writeAnswer k (s.decidedAnswer pass detail)

/-- A code 9 test decided: it ends, and is answered at its turn (R189, R203). -/
def State.decideLoop (s : State) (k : SlotId) (pass : Bool) (detail : List Byte) : State :=
  (s.concludeTest pass).finishTicket k (s.decidedAnswer pass detail)

end Sys2Proof.Machine
end

