-- ==== Sys2Proof/Machine/TagSide.lean ====
section
/-! DEFINITION. The tag as a party on the line: how a seated tag answers each command, what it becomes when its
work is done, and what its cartridge holds once it has lost power (R5 to R12). Where the manual lets a tag finish within the attempt or answer BUSY, the
choice is a free value. -/

namespace Sys2Proof.Machine

/-- A seated tag starts ready, with empty burn memory and no stored challenge (R5). -/
def Tag.fresh (c : Cartridge) : Tag :=
  { cartridge := c, work := none, burnMemory := none, stored := none, reply := none }

/-- Block `b` as it is stored (R7). -/
def Tag.block (t : Tag) (b : Fin 4) : Block :=
  match b with
  | 0 => t.cartridge.block0
  | 1 => t.cartridge.block1
  | 2 => t.cartridge.block2
  | 3 => t.cartridge.block3

/-- The tag's gauge. -/
def Tag.gauge (t : Tag) : Nat := gaugeField t.cartridge.block1

/-- The flags byte of block 1. -/
def Tag.flags (t : Tag) : Byte := byteAt t.cartridge.block1.toList 2

/-- The bit of a flag in the flags byte (Table 12-7). -/
def TagFlag.bit : TagFlag → Byte
  | .depleted => 1#8
  | .refillMark => 2#8

/-- A flag is set on the tag. -/
def Tag.hasFlag (t : Tag) (f : TagFlag) : Bool := t.flags &&& f.bit != 0#8

/-- Gauge, flags and CRC of block 1 rewritten together (R3). -/
def Tag.rewrite (t : Tag) (gauge : Nat) (flags : Byte) : Tag :=
  { t with cartridge :=
      { t.cartridge with
        block1 := sealed (beBytes 2 gauge ++ [flags] ++ (contentOf t.cartridge.block1).drop 3) } }

/-- The response to a challenge, by the tag's key and the challenge alone (R8). -/
def keyRespond : TagKey → Bytes16 → Bytes16
  | .line serial ink, c => Config.keyedResponse serial ink c
  | .other id, c => Config.foreignResponse id c

/-- The tag's ACK with a payload. -/
def Tag.ack (t : Tag) (payload : List Byte) : Tag := { t with reply := some (answerFrame ackCode payload) }

/-- The tag's BUSY. -/
def Tag.busy (t : Tag) : Tag := { t with reply := some (answerFrame busyCode []) }

/-- The tag's REFUSED. -/
def Tag.refuse (t : Tag) : Tag := { t with reply := some (answerFrame refusedCode []) }

/-- READ_BLOCK at a ready tag; block 0 also empties the burn memory (R7). -/
def Tag.hearRead (t : Tag) (b : Fin 4) : Tag :=
  { t with burnMemory := if b = 0 then none else t.burnMemory }.ack (natByte b.val :: (t.block b).toList)

/-- CHALLENGE at a ready tag (R8). -/
def Tag.hearChallenge (t : Tag) (c : Bytes16) (atOnce : Bool) : Tag :=
  let r := keyRespond t.cartridge.key c
  match t.stored with
  | some (c', r') =>
    if c' = c then t.ack (beBytes 16 r'.toNat)
    else if atOnce then { t with stored := some (c, r) }.ack (beBytes 16 r.toNat)
    else { t with stored := none, work := some (.responding c) }.busy
  | none =>
    if atOnce then { t with stored := some (c, r) }.ack (beBytes 16 r.toNat)
    else { t with work := some (.responding c) }.busy

/-- The ACK to a BURN: token and gauge (Table 12-1 of frames, R212). -/
def Tag.ackBurn (t : Tag) (token : Byte) (gauge : Nat) : Tag := t.ack (token :: beBytes 2 gauge)

/-- A BURN whose token is not in the burn memory, at a ready tag (R9). -/
def Tag.hearNewBurn (t : Tag) (n : Nat) (token : Byte) (atOnce : Bool) : Tag :=
  let g := t.gauge
  if g < n then t.refuse
  else
    let t := { t with burnMemory := some (token, g - n) }
    if atOnce then (t.rewrite (g - n) t.flags).ackBurn token (g - n)
    else { t with work := some (.burning n token) }.busy

/-- BURN at a ready tag: a repeat is known by its token and burns no further marks (R9, R10). -/
def Tag.hearBurn (t : Tag) (n : Nat) (token : Byte) (atOnce : Bool) : Tag :=
  match t.burnMemory with
  | some (tok, g) => if tok = token then t.ackBurn token g else t.hearNewBurn n token atOnce
  | none => t.hearNewBurn n token atOnce

/-- SET_FLAG at a ready tag (R11). -/
def Tag.hearSetFlag (t : Tag) (f : TagFlag) (atOnce : Bool) : Tag :=
  if t.hasFlag f then t.ack [f.code]
  else if atOnce then (t.rewrite t.gauge (t.flags ||| f.bit)).ack [f.code]
  else { t with work := some (.writing f) }.busy

/-- READ_SENSE at a ready tag (R12). No earlier measurement is kept: each READ_SENSE at a ready tag measures
anew and may answer BUSY again (DESIGN CHOICE, log entry 39). -/
def Tag.hearSense (t : Tag) (atOnce : Bool) (reading : Byte) (ok : Bool) : Tag :=
  if atOnce then t.ack [reading, boolByte ok] else { t with work := some .measuring }.busy

/-- A command heard with a good frame CRC: a working tag answers BUSY whatever it is working on (R7 to
R12). -/
def Tag.hear (t : Tag) (c : TagCommand) (atOnce : Bool) (reading : Byte) (ok : Bool) : Tag :=
  match t.work with
  | some _ => t.busy
  | none =>
    match c with
    | .readBlock b => t.hearRead b
    | .challenge ch => t.hearChallenge ch atOnce
    | .burn n token => t.hearBurn n token atOnce
    | .setFlag f => t.hearSetFlag f atOnce
    | .readSense => t.hearSense atOnce reading ok

/-- One attempt at a tag: heard and answered, or not answered at all (R6). -/
def Tag.attempt (t : Tag) (c : TagCommand) (draw : Nat) : Tag :=
  if Config.tagHears draw then
    t.hear c (Config.tagAtOnce draw) (Config.tagLevel draw) (Config.tagSensorOk draw)
  else { t with reply := none }

/-- A working tag finishes and becomes ready, with its gauge, flags or stored response updated (R5, R8, R9,
R11, R12). The reading of a measurement that was answered BUSY is dropped (DESIGN CHOICE, log entry 39). -/
def Tag.finish (t : Tag) : Tag :=
  match t.work with
  | none => t
  | some (.burning n _) => { t.rewrite (t.gauge - n) t.flags with work := none }
  | some (.writing f) => { t.rewrite t.gauge (t.flags ||| f.bit) with work := none }
  | some (.responding c) => { t with stored := some (c, keyRespond t.cartridge.key c), work := none }
  | some .measuring => { t with work := none }

/-- A cartridge whose block 1 update may have been torn: block 1 is the free value where that is CRC-bad, and
as it was written otherwise (R5). -/
def maybeTorn (draw : Nat) (c : Cartridge) : Cartridge :=
  if crcGood (Config.tornBlock draw) then c else { c with block1 := Config.tornBlock draw }

/-- The cartridge of a tag that loses power: a BURN cut short has burned some of its marks, a SET_FLAG cut short
has set its flag or not, and any other work leaves the blocks alone (R5). -/
def Tag.losePower (t : Tag) (draw : Nat) : Cartridge :=
  match t.work with
  | some (.burning n _) => maybeTorn draw (t.rewrite (t.gauge - min n (Config.cutMarks draw)) t.flags).cartridge
  | some (.writing f) =>
    maybeTorn draw (t.rewrite t.gauge (if Config.cutFlag draw then t.flags ||| f.bit else t.flags)).cartridge
  | some (.responding _) | some .measuring | none => t.cartridge

end Sys2Proof.Machine
end

