-- ==== Sys2Proof/Machine/Engines.lean ====
section
/-! DEFINITION. The tag bus engines: attempts, retries and limits, the arbiter, the ticket queue, the
delivery of outcomes, discards, and what a removal does at an engine (chapter 8, R208, R209). -/

namespace Sys2Proof.Machine

/-! ### Attempts and transactions (R136, R137, R141) -/

/-- The command frame of an attempt goes out on the bay's line and its tag answers or not (R6). -/
def State.sendAttempt (s : State) (t : Transaction) : State :=
  let draw := s.outside.tagDraws
  (s.updTag t.bay fun tag => tag.attempt t.command draw).updOutside fun o =>
    { o with tagDraws := o.tagDraws + 1 }

/-- A transaction starts with its first attempt, at the instant `first` (R136). -/
def State.startTransaction (s : State) (first : Nat) (e : EngId) (b : BayId) (o : Origin) (c : TagCommand) :
    State :=
  let t : Transaction :=
    { bay := b, origin := o, command := c, attempts := 1, failureRun := 0, firstAttempt := first }
  (s.updEng e fun x => { x with activity := .attempt t }).sendAttempt t

/-- The engine is IDLE again (R136). -/
def State.idleEngine (s : State) (e : EngId) : State := s.updEng e fun x => { x with activity := .idle }

/-- The gap of 1 ms before a retry (R137). -/
def State.enterGap (s : State) (e : EngId) (t : Transaction) : State :=
  let ends := s.outside.now + Config.retryGap
  s.updEng e fun x => { x with activity := .gap t ends }

/-- retry_tally stepped; a wrap sets rollover (R141). -/
def Engine.countRetry (x : Engine) : Engine :=
  { x with retryTally := x.retryTally + 1#16, rollover := x.rollover || decide (x.retryTally = 0xFFFF#16) }

/-- The next attempt at the end of a gap (R137, R141). -/
def State.retry (s : State) (e : EngId) (t : Transaction) : State :=
  let t := { t with attempts := satAdd 255 t.attempts 1 }
  (s.updEng e fun x => { x.countRetry with activity := .attempt t }).sendAttempt t

/-! ### The queue and the parked lists (R144, R191) -/

/-- Parked tickets enter the freed places, oldest first. -/
def State.fillQueue (s : State) (e : EngId) : State :=
  let n := Config.queueSize - (s.eng e).queue.length
  let l := s.port.parked[e]
  (s.updEng e fun x => { x with queue := x.queue ++ l.take n }).updPort fun p =>
    { p with parked := updAt p.parked e fun l => l.drop n }

/-- Queue entries leave; head_passes returns to 0 when the head does (R144, R147). -/
def Engine.dropEntries (x : Engine) (gone : QueueEntry → Bool) : Engine :=
  { x with queue := x.queue.filter fun q => !gone q
           headPasses := match x.queue with
             | q :: _ => if gone q then 0 else x.headPasses
             | [] => 0 }

/-- The entry of a slot leaves the queue, and the oldest parked ticket takes its place. -/
def State.leaveQueue (s : State) (e : EngId) (k : SlotId) : State :=
  (s.updEng e fun x => x.dropEntries fun q => q.slot == k).fillQueue e

/-- A ticket operation joins its engine's queue, or is parked where no entry is free (R144, R150, R191). -/
def State.placeTagWork (s : State) (q : QueueEntry) : State :=
  let e := engOf q.bay
  if (s.eng e).queue.length < Config.queueSize then s.updEng e fun x => { x with queue := x.queue ++ [q] }
  else s.updPort fun p => { p with parked := updAt p.parked e fun l => l ++ [q] }

/-! ### The arbiter (R145 to R148) -/

/-- What a grant goes to. -/
inductive Work where
  | insertion (b : BayId) (st : InsertionStep)
  | account (b : BayId)
  | head (q : QueueEntry)
  | sense (b : BayId)
deriving DecidableEq, Repr

/-- The engine's six bays from the one after the pointer round to the pointer's own (R146). -/
def searchOrder (e : EngId) (p : Fin 6) : List BayId :=
  [1, 2, 3, 4, 5, 6].map fun k => bayAt e ⟨(p.val + k) % 6, by omega⟩

/-- A want of class 2: DEPLETED write, REFILL_MARK write or burn. -/
def Wants.account (w : Wants) : Bool := w.depleted || w.refillMark || w.burn

/-- The first bay in search order with an insertion step want (class 1). -/
def State.insertionWork (s : State) : List BayId → Option Work
  | [] => none
  | b :: l =>
    match (s.bay b).wants.insertion with
    | some st => some (.insertion b st)
    | none => s.insertionWork l

/-- The first bay in search order with a want of class 2. -/
def State.accountWork (s : State) (l : List BayId) : Option Work :=
  (l.find? fun b => (s.bay b).wants.account).map .account

/-- The first bay in search order with a sense want (class 4). -/
def State.senseWork (s : State) (l : List BayId) : Option Work :=
  (l.find? fun b => (s.bay b).wants.sense).map .sense

/-- The work an idle engine takes: the promoted head, or the first class that has work (R146, R147). -/
def State.chooseWork (s : State) (e : EngId) : Option Work :=
  let x := s.eng e
  let order := searchOrder e x.pointer
  let head := x.queue.head?.map Work.head
  let promoted := if Config.passLimit ≤ x.headPasses then head else none
  promoted.or ((s.insertionWork order).or ((s.accountWork order).or (head.or (s.senseWork order))))

/-- The pointer at the granted bay; a grant of class 1 or 2 passes over a waiting head (R146, R147). -/
def State.notePass (s : State) (e : EngId) (b : BayId) (overHead : Bool) : State :=
  s.updEng e fun x =>
    { x with pointer := placeOf b
             headPasses := if overHead && !x.queue.isEmpty then x.headPasses + 1 else x.headPasses }

/-- The command an insertion step names (R148). -/
def Bay.stepCommand (x : Bay) : InsertionStep → TagCommand
  | .readIdentity => .readBlock 0
  | .readGauge => .readBlock 1
  | .challenge => .challenge (x.challenge.getD 0#128)

/-- A burn granted: n, base and token are fixed, and burn_token steps (R13, R84). -/
def State.grantBurn (s : State) (first : Nat) (e : EngId) (b : BayId) : State :=
  let x := s.bay b
  let n := min x.pending Config.burnMost
  let s := s.updBay b fun x =>
    { x with burnInFlight := some ⟨n, x.tagGauge⟩, burnToken := x.burnToken + 1#8 }
  s.startTransaction first e b .burn (.burn n x.burnToken)

/-- A grant starts the transaction of the work granted (R148); within class 2 the DEPLETED write comes
before the REFILL_MARK write, and that before the burn (R146). -/
def State.grant (s : State) (first : Nat) (e : EngId) : Work → State
  | .insertion b st => (s.notePass e b true).startTransaction first e b .insertion ((s.bay b).stepCommand st)
  | .account b =>
    let w := (s.bay b).wants
    let s := s.notePass e b true
    if w.depleted then s.startTransaction first e b .depletedWrite (.setFlag .depleted)
    else if w.refillMark then s.startTransaction first e b .refillMarkWrite (.setFlag .refillMark)
    else s.grantBurn first e b
  | .head q =>
    (s.notePass e q.bay false).startTransaction first e q.bay (if q.selfTest then .selfTest else .ticket)
      (.readBlock q.block)
  | .sense b =>
    let s := (s.notePass e b false).updBay b fun x => { x with wants := { x.wants with sense := false } }
    s.startTransaction first e b .sense .readSense

/-- An IDLE engine with waiting work grants one piece of it, at the instant `first` (R145). -/
def State.arbitrate (first : Nat) (s : State) (e : EngId) : State :=
  match (s.eng e).activity with
  | .idle =>
    match s.chooseWork e with
    | some w => s.grant first e w
    | none => s
  | .attempt _ | .gap _ _ => s

/-- Every idle engine arbitrates (R145). -/
def State.arbitrateAll (s : State) (first : Nat) : State := [0, 1, 2, 3].foldl (State.arbitrate first) s

/-- The instant of an event that brings none: not before the clock (log entry 40). -/
def State.untimed (s : State) : Nat := s.outside.now + Config.untimedLag s.outside.tagDraws

/-! ### Self-test code 9 at an engine (R152, R208, R209) -/

/-- The detail of a code 9 answer: bay, copies equal, crc_ok of each copy (Table 12-6). -/
def loopDetail (b : BayId) (first second : Option Block) : List Byte :=
  let ok := fun (c : Option Block) => match c with
    | some c => boolByte (crcGood c)
    | none => 0#8
  [bayByte (some b), boolByte (first.isSome && decide (first = second)), ok first, ok second]

/-- A READ_BLOCK 0 ACK of a SELF_TEST entry: the first copy is stored and the second read starts at once;
the second ends the test (R152, R208). -/
def State.loopRead (s : State) (e : EngId) (b : BayId) (blk : Block) : State :=
  match (s.eng e).queue with
  | [] => s
  | q :: _ =>
    match q.firstCopy with
    | none =>
      let s := s.updEng e fun x =>
        { x with queue := match x.queue with
            | q :: l => { q with firstCopy := some blk } :: l
            | [] => [] }
      s.startTransaction s.outside.now e b .selfTest (.readBlock 0)
    | some first =>
      (s.leaveQueue e q.slot).decideLoop q.slot (decide (first = blk)) (loopDetail b (some first) (some blk))

/-! ### Delivery (R138, R151) -/

/-- The answer of a READ_TAG_BLOCK that was read (R151, R211). -/
def readAnswer (b : BayId) (block : Fin 4) (blk : Block) : Answer :=
  { status := .done
    high := natByte (b.val * 8 + block.val * 2 + (if crcGood blk then 1 else 0))
    area := fitList 30 0#8 (contentOf blk) }

/-- The slot of the entry at the head of an engine's queue. -/
def State.headSlot (s : State) (e : EngId) : Option SlotId := (s.eng e).queue.head?.map (·.slot)

/-- The head entry's ticket ends with an answer (R151). -/
def State.endHeadTicket (s : State) (e : EngId) (a : Answer) : State :=
  match s.headSlot e with
  | some k => (s.leaveQueue e k).finishTicket k a
  | none => s

/-- The insertion step want of a bay leaves at the end of its transaction (R143). -/
def State.endStep (s : State) (b : BayId) : State :=
  s.updBay b fun x => { x with wants := { x.wants with insertion := none } }

/-- An insertion step's ACK (R22, R23, R25). -/
def State.deliverStep (s : State) (t : Transaction) (p : Payload) : State :=
  let s := s.endStep t.bay
  match t.command, p with
  | .readBlock n, .block blk =>
    if (s.bay t.bay).state = .identifying then
      (if n = 0 then s.gotIdentity t.bay blk else s.gotGauge t.bay blk)
    else s
  | .challenge _, .response r =>
    if (s.bay t.bay).state = .challenging then s.gotResponse t.bay r else s
  | _, _ => s

/-- A READ_SENSE ACK; it has no effect for a bay that is no longer sensed (R118, R119). -/
def State.deliverSense (s : State) (b : BayId) (p : Payload) : State :=
  match p with
  | .level reading ok => if (s.bay b).state.sensed then s.takeSample b reading ok else s
  | _ => s

/-- An ACK handed to the originator of its transaction (R15, R138). -/
def State.deliver (s : State) (e : EngId) (t : Transaction) (p : Payload) : State :=
  match t.origin with
  | .insertion => s.deliverStep t p
  | .burn =>
    match p with
    | .burned r => s.burnAcked t.bay r
    | _ => s
  | .depletedWrite => s.flagWritten t.bay .depleted
  | .refillMarkWrite => s.flagWritten t.bay .refillMark
  | .sense => s.deliverSense t.bay p
  | .ticket =>
    match t.command, p with
    | .readBlock n, .block blk => s.endHeadTicket e (readAnswer t.bay n blk)
    | _, _ => s
  | .selfTest =>
    match p with
    | .block blk => s.loopRead e t.bay blk
    | _ => s

/-- The discard handed to the originator (R142, R151, R209). -/
def State.handDiscard (s : State) (e : EngId) (t : Transaction) : State :=
  match t.origin with
  | .insertion | .burn | .depletedWrite | .refillMarkWrite | .sense => s.enterFault t.bay
  | .ticket => s.endHeadTicket e (plainAnswer .tagNoResponse)
  | .selfTest =>
    match (s.eng e).queue with
    | [] => s
    | q :: _ =>
      let code := s.selfTest.code
      let s := ((s.leaveQueue e q.slot).endTest 15 .discarded).enterFault t.bay
      s.finishTicket q.slot (testAnswer code 15 .discarded (loopDetail t.bay q.firstCopy none))

/-- A transaction discarded at a limit (R142). -/
def State.discard (s : State) (e : EngId) (t : Transaction) (cause : DiscardCause) : State :=
  let s := s.updEng e fun x =>
    { x with discardCount := satAdd top16 x.discardCount 1, lastDiscardBay := some t.bay
             lastDiscardCause := cause }
  (s.idleEngine e).handDiscard e t

/-- The end of an attempt by its outcome (R137, R139, R140). -/
def State.endAttempt (s : State) (e : EngId) (t : Transaction) (o : AttemptOutcome) : State :=
  match o with
  | .ack p => (s.idleEngine e).deliver e t p
  | .refused => (s.idleEngine e).burnRefused t.bay
  | .timeout | .crcBad =>
    let t := { t with failureRun := t.failureRun + 1 }
    if Config.failureLimit ≤ t.failureRun then s.discard e t .failures else s.enterGap e t
  | .busy =>
    if t.firstAttempt + Config.busyLimit ≤ s.outside.now then s.discard e t .busyLimit
    else s.enterGap e { t with failureRun := 0 }

/-! ### Removal at an engine (R149, R209) -/

/-- A queued or parked ticket operation of a removed bay: BAY_EMPTIED becomes its result, and a SELF_TEST's
test ends with result 0 (R149, R209). -/
def State.emptiedEntry (s : State) (q : QueueEntry) : State :=
  let s := if q.selfTest then s.endTest 0 .none else s
  s.holdResult q.slot (plainAnswer .bayEmptied)

/-- What a removal does at the bay's engine: abort, entries, wants and parked tickets; the results wait for
their turn (R34 step 1, R149). -/
def State.removeAtEngine (s : State) (b : BayId) : State :=
  let e := engOf b
  let mine := fun (q : QueueEntry) => decide (q.bay = b)
  let entries := (s.eng e).queue.filter mine ++ s.port.parked[e].filter mine
  let s := match (s.eng e).activity with
    | .attempt t | .gap t _ => if t.bay = b then s.idleEngine e else s
    | .idle => s
  let s := entries.foldl State.emptiedEntry s
  let s := s.updEng e fun x => x.dropEntries mine
  let s := s.updPort fun p => { p with parked := updAt p.parked e fun l => l.filter fun q => !mine q }
  (s.updBay b fun x => { x with wants := Wants.none }).fillQueue e

end Sys2Proof.Machine
end

