-- ==== Sys2Proof/Machine/Flags.lean ====
section
/-! DEFINITION. The outputs and published flags that other state gives: notice lines, feed-select outputs,
the wants set, and the enumeration codes of Table 12-1 that the records carry. -/

namespace Sys2Proof.Machine

/-! ### Output pins (R96, R195) -/

/-- Line NTF0 is active (low): a kind pending, enabled and routed to line 0. -/
def Port.line0 (p : Port) : Bool := p.notices &&& p.enables &&& ~~~p.routes != 0#8

/-- Line NTF1 is active (low): a kind pending, enabled and routed to line 1. -/
def Port.line1 (p : Port) : Bool := p.notices &&& p.enables &&& p.routes != 0#8

/-- FEEDA of a channel is active. -/
def State.feedA (s : State) (c : ChanId) : Bool := decide ((s.chan c).feedState = .openA)

/-- FEEDB of a channel is active. -/
def State.feedB (s : State) (c : ChanId) : Bool := decide ((s.chan c).feedState = .openB)

/-! ### Bits -/

/-- A byte from its bits, bit 0 first. -/
def flagByte (l : List Bool) : Byte := BitVec.ofNat 8 (l.foldr (fun b acc => b.toNat + 2 * acc) 0)

/-- The wants set of a bay (Table 12-1). -/
def Wants.byte (w : Wants) : Byte := flagByte [w.insertion.isSome, w.burn, w.depleted, w.refillMark, w.sense]

/-! ### Codes (Table 12-1) -/

/-- hand. -/
def Hand.code : Hand → Word
  | .free => 0#16 | .filled => 1#16 | .taken => 2#16 | .answered => 3#16

/-- Bay state. -/
def BayState.code : BayState → Byte
  | .empty => 0#8 | .settling => 1#8 | .identifying => 2#8 | .challenging => 3#8 | .reconciling => 4#8
  | .standby => 5#8 | .feeding => 6#8 | .barred => 7#8 | .drained => 8#8 | .fault => 9#8

/-- verdict_reason. -/
def VerdictReason.code : VerdictReason → Byte
  | .none => 0#8 | .tagMark => 1#8 | .flagConflict => 2#8 | .gaugeRise => 3#8 | .history => 4#8
  | .refillSense => 5#8 | .identityCrc => 6#8 | .gaugeCrc => 7#8 | .response => 8#8 | .burnMismatch => 9#8

/-- bar_reason. -/
def BarReason.code : BarReason → Byte
  | .none => 0#8 | .channelUnset => 1#8 | .inkMismatch => 2#8 | .noGauge => 3#8 | .foreign => 4#8
  | .refilled => 5#8 | .held => 6#8

/-- Snapshot kind. -/
def HeldKind.code : HeldKind → Byte
  | .gaugeRise => 1#8 | .flagConflict => 2#8 | .refillSense => 3#8 | .leakSense => 4#8 | .burnMismatch => 5#8

/-- last_class. -/
def SampleClass.code : SampleClass → Byte
  | .none => 0#8 | .pos => 1#8 | .neg => 2#8 | .neutral => 3#8

/-- last_discard. -/
def SampleDiscard.code : SampleDiscard → Byte
  | .none => 0#8 | .sensor => 1#8 | .settling => 2#8 | .uncalibrated => 3#8

/-- current_origin. -/
def Origin.code : Origin → Byte
  | .insertion => 1#8 | .burn => 2#8 | .depletedWrite => 3#8 | .refillMarkWrite => 4#8 | .sense => 5#8
  | .ticket => 6#8 | .selfTest => 7#8

/-- last_discard_cause. -/
def DiscardCause.code : DiscardCause → Byte
  | .none => 0#8 | .failures => 1#8 | .busyLimit => 2#8

/-- Sector state. -/
def SectorState.code : SectorState → Byte
  | .erased => 0#8 | .active => 1#8 | .full => 2#8 | .dirty => 3#8 | .retired => 4#8

/-- journal_mode. -/
def JournalMode.code : JournalMode → Byte
  | .normal => 0#8 | .waiting => 1#8 | .degraded => 2#8

/-- store_op (R157). -/
def storeOpCode : Option FlashOp → Byte
  | none => 0#8
  | some (.append _ _ _) => 1#8
  | some (.header _ _) => 2#8
  | some (.erase _) => 3#8
  | some (.profileRewrite _ _ _) => 4#8
  | some (.checkRead _ _ _) => 5#8
  | some (.profileRead _) => 5#8

/-- PART_STATE. -/
def PartState.code : PartState → Byte
  | .starting => 0#8 | .ready => 1#8

/-- feed_state (Table 12-3). -/
def FeedState.code : FeedState → Nat
  | .closed => 0 | .openA => 1 | .openB => 2

/-- feed_cause, the feed code of an open channel. -/
def FeedCause.code : FeedCause → Nat
  | .none => 0 | .opened => 0 | .threshold => 1 | .drained => 2 | .barred => 3 | .fault => 4 | .removed => 5
  | .ticket => 6

/-- closed_reason, the feed code of a CLOSED channel; NONE is 7 (Table 12-6). -/
def ClosedReason.code : ClosedReason → Nat
  | .unset => 0 | .empty => 1 | .drained => 2 | .barred => 3 | .fault => 4 | .removed => 5 | .none => 7

/-- The feed code of a channel record: feed_cause of an open channel, closed_reason of a CLOSED one. -/
def Channel.feedCode (ch : Channel) : Nat :=
  match ch.feedState with
  | .closed => ch.closedReason.code
  | .openA | .openB => ch.feedCause.code

end Sys2Proof.Machine
end

