-- ==== Sys2Proof/Machine/Records.lean ====
section
/-! DEFINITION. The published records as bytes (Tables 12-2 to 12-5), the generation words, and what a host
read of any word of the bus returns (R178, R180, R181, R196, Table 10-1). -/

namespace Sys2Proof.Machine

/-! ### The content of each record behind its generation word -/

/-- Zero bytes. -/
def zeros (n : Nat) : List Byte := List.replicate n 0#8

/-- A presence-coded value: 0 where absent. -/
def orZero (v : Option Nat) : Nat := v.getD 0

/-- The number of parked tickets of all engines (R191). -/
def Port.parkedCount (p : Port) : Nat := (p.parked.toList.map List.length).sum

/-- Requests in the FIFO and under computation (R24). -/
def AuthEngine.requests (a : AuthEngine) : Nat := a.fifo.length + (if a.current.isSome then 1 else 0)

/-- The six bytes of a journal sector in the header. -/
def State.sectorBytes (s : State) (j : SecId) : List Byte :=
  let x := s.store.sectors[j]
  [x.state.code, natByte (s.referenced j)] ++ beBytes 4 (orZero x.seq)

/-- The ACTIVE sector: its number and next_slot, both 0 where there is none. -/
def State.activeBytes (s : State) : List Byte :=
  match (List.finRange 8).find? fun j => decide (s.store.sectors[j].state = .active) with
  | some j => [natByte (secNumber j), natByte s.store.sectors[j].nextSlot]
  | none => [0#8, 0#8]

/-- The self-test record in the header. The bay byte reads 0 until the header is written in full (R181). -/
def State.selfTestBytes (s : State) : List Byte :=
  let t := s.selfTest
  [boolByte t.running, natByte t.code
   , match s.port.partState with
     | .starting => 0#8
     | .ready => bayByte t.bay
   , natByte t.result
   , match t.failCause with
     | .none => 0#8
     | .mismatch => 1#8
     | .discarded => 2#8]

/-- The temperature entry of a channel. -/
def Channel.temperatureBytes (ch : Channel) : List Byte :=
  [natByte ch.lastTemp, 0#8] ++ beBytes 2 ch.lastFactor

/-- Header, offsets 2 to 151 (Table 12-2). -/
def State.headerContent (s : State) : List Byte :=
  [s.port.partState.code, flagByte [s.port.resetPending, s.latch, s.store.powerWarning]
   , natByte s.port.arrivals.length, natByte s.port.parkedCount, natByte s.auth.requests
   , natByte s.store.tickets.length]
  ++ beBytes 2 s.port.ignoredHandWrites ++ beBytes 2 s.port.postedRejects
  ++ beBytes 2 s.tally.tallyCrcErrors ++ beBytes 2 s.tally.strayTallies
  ++ beBytes 2 s.history.live.length ++ beBytes 2 s.history.tombs.length
  ++ beBytes 2 s.history.fifo.length ++ beBytes 2 s.history.evictions ++ beBytes 2 s.history.untracked
  ++ [storeOpCode s.store.op, s.store.mode.code
      , match s.store.profileState with
        | .good => 0#8
        | .damaged => 1#8]
  ++ s.activeBytes ++ [natByte (orZero (s.store.victim.map secNumber))]
  ++ beBytes 4 s.store.nextJournalSeq ++ beBytes 2 s.store.programFailures
  ++ beBytes 2 s.store.eraseFailures ++ beBytes 2 s.store.rebuildRejects ++ zeros 6
  ++ (List.finRange 8).flatMap s.sectorBytes ++ s.selfTestBytes ++ zeros 3
  ++ (s.channels.toList.flatMap Channel.temperatureBytes)

/-- One volume in µL (R78). -/
def microlitres (v : Nat) : Nat := v / 10000000

/-- Bit 40 of a µL figure. -/
def topBit (v : Nat) : Bool := (microlitres v).testBit 40

/-- Channel record, offsets 2 to 31 (Table 12-3). -/
def channelContent (ch : Channel) : List Byte :=
  [natByte (64 * ch.feedState.code + 8 * ch.feedCode + 4 * ch.settleEnd.isSome.toNat
      + 2 * ch.saturated.toNat + ch.seqStarted.toNat)
   , flagByte [topBit ch.unbooked, topBit ch.charged, topBit ch.total]]
  ++ beBytes 5 ch.residue ++ beBytes 5 (microlitres ch.total) ++ beBytes 5 (microlitres ch.charged)
  ++ beBytes 5 (microlitres ch.unbooked)
  ++ beBytes 2 ch.lastSeq.toNat ++ beBytes 2 ch.gapCount ++ beBytes 2 ch.duplicateCount
  ++ beBytes 2 ch.skippedSamples

/-- engine_state, current_op, current_bay, current_origin and attempts (Table 12-4). -/
def Activity.bytes : Activity → List Byte
  | .idle => [0#8, 0#8, 0xFF#8, 0#8, 0#8]
  | .attempt t => [1#8, t.command.code, bayByte (some t.bay), t.origin.code, natByte t.attempts]
  | .gap t _ => [2#8, t.command.code, bayByte (some t.bay), t.origin.code, natByte t.attempts]

/-- Engine record, offsets 2 to 31 (Table 12-4). -/
def engineContent (x : Engine) (parked : List QueueEntry) : List Byte :=
  x.activity.bytes
  ++ [natByte (Config.queueSize - x.queue.length), natByte parked.length, natByte x.headPasses]
  ++ beBytes 2 x.retryTally.toNat ++ [boolByte x.rollover, bayByte x.lastDiscardBay]
  ++ beBytes 2 x.discardCount ++ [x.lastDiscardCause.code] ++ zeros 15

/-- The identity in a bay record: serial, ink_type, capacity_marks, mark_volume, lot_code. -/
def identityBytes : Option Identity → List Byte
  | none => zeros 18
  | some i =>
    beBytes 8 i.serial.toNat ++ beBytes 2 i.inkType ++ beBytes 2 i.capacityMarks ++ beBytes 2 i.markVolume
    ++ beBytes 4 i.lotCode.toNat

/-- A discrepancy in two bytes, two's complement, 0 where absent. -/
def discrepancyBytes (d : Option Int) : List Byte := beBytes 2 (BitVec.ofInt 16 (d.getD 0)).toNat

/-- The snapshot in a bay record, offsets 45 to 57. -/
def snapshotBytes : Option Snapshot → List Byte
  | none => zeros 13
  | some x =>
    [x.kind.code, flagByte [x.estimate.isSome, x.discrepancy.isSome], 0#8]
    ++ beBytes 2 x.book ++ beBytes 2 x.tagGauge ++ beBytes 2 x.pending ++ beBytes 2 (orZero x.estimate)
    ++ discrepancyBytes x.discrepancy

/-- Bay record, offsets 2 to 63 (Table 12-5). -/
def bayContent (x : Bay) : List Byte :=
  [x.state.code, x.verdict.code, x.verdictReason.code, x.barReason.code
   , flagByte [x.identity.isSome, x.gaugeKnown, x.tagDepleted, x.tagRefillMark, x.authenticated
               , x.sense.liveRefill, x.sense.liveLeak, x.sense.snapshot.isSome]
   , x.wants.byte]
  ++ identityBytes x.identity
  ++ beBytes 2 x.tagGauge ++ beBytes 2 x.pending ++ beBytes 2 x.book
  ++ [x.burnToken, x.sense.held.setWidth 8, x.sense.lastReading.getD 0#8
      , boolByte x.sense.lastReading.isSome]
  ++ beBytes 2 (orZero x.sense.lastEstimate) ++ discrepancyBytes x.sense.lastDiscrepancy
  ++ [x.sense.lastClass.code, x.sense.lastDiscard.code, natByte x.sense.windowCount
      , natByte x.sense.posCount, natByte x.sense.negCount]
  ++ snapshotBytes x.sense.snapshot ++ zeros 6

/-! ### Generation words (R180, R181) -/

/-- One generation pair where the record's content changed: the word ends even again, 2 further on. -/
def stepGeneration (changed : Bool) (g : Word) : Word := if changed then g + 2#16 else g

/-- A tally frame of the channel was accepted between two states: only that leaves seq_started true with another
sequence state (R65). -/
def Channel.acceptedSince (after before : Channel) : Bool :=
  after.seqStarted && (!before.seqStarted || after.lastSeq != before.lastSeq)

/-- A tally frame was accepted between two states: its temperature figures are written in the header, changed or
not (R78). -/
def State.acceptedSince (after before : State) : Bool :=
  (List.finRange 12).any fun c => (after.chan c).acceptedSince (before.chan c)

/-- A slot's ticket was taken and answered between two states: a slot that held no ticket, or one not yet taken, holds
an answered one only by a taking (R182). -/
def Slot.servedSince (after before : Slot) : Bool :=
  (decide (before.hand = .free) || decide (before.hand = .filled)) && decide (after.hand = .answered)

/-- A CLEAR_COUNTS was taken between two states: it updates each record whose counters it zeroes, whether or not
they stood at 0 (R193). -/
def State.clearedSince (after before : State) : Bool :=
  (List.finRange 32).any fun k =>
    (after.slot k).servedSince (before.slot k) && decide ((after.slot k).kind = Kind.clearCounts.code)

/-- A test started and ended between two states, as one that is answered DONE at its taking does: the header shows the
record at both (R201, R203). -/
def State.testedSince (after before : State) : Bool :=
  (List.finRange 32).any fun k =>
    (after.slot k).servedSince (before.slot k) && decide ((after.slot k).kind = Kind.selfTest.code)
      && decide ((after.slot k).status = (plainAnswer .done).word)

/-- The transaction of an engine, where one is in flight. -/
def Activity.transaction : Activity → Option Transaction
  | .idle => none
  | .attempt t | .gap t _ => some t

/-- The work a transaction does. -/
def Transaction.work (t : Transaction) : BayId × Origin × TagCommand := (t.bay, t.origin, t.command)

/-- The work an engine is at. -/
def Engine.work (x : Engine) : Option (BayId × Origin × TagCommand) := x.activity.transaction.map Transaction.work

/-- An engine's transaction ended between two states and another began: the record showed none in between (R136). The
second read of a code 9 test is told from the first by the queue entry (R152). -/
def Engine.movedOnSince (after before : Engine) : Bool :=
  decide (after.work ≠ before.work) || decide (after.queue ≠ before.queue)

/-- A sense want was granted between two states: the bay's record showed it, if only within the event that raised it
(R118, R143). -/
def State.sensedSince (after before : State) (b : BayId) : Bool :=
  let w := some (b, Origin.sense, TagCommand.readSense)
  decide ((after.eng (engOf b)).work = w) && decide ((before.eng (engOf b)).work ≠ w)

/-- A bay that feeds before and after an event fed anew: the feed turned to its twin and came back, and its record
showed STANDBY in between (R98, R102, R110). The twin is left at the same event only once its conversion took a mark
from the residue; of a bay that feeds on, a fall of the residue is otherwise a mark charged to its own book (R72). -/
def State.fedAnewSince (after before : State) (b : BayId) : Bool :=
  decide ((before.bay b).state = .feeding) && decide ((after.bay b).state = .feeding)
    && decide ((after.chan (chanOf b)).residue < (before.chan (chanOf b)).residue)

/-- The generation words after an event that led from `before` to `after`: a word steps where the record's content
differs, and where the event changed it and changed it back (R180). -/
def publishGens (before after : State) : Generations :=
  let g := after.gens
  let cleared := after.clearedSince before
  { header := stepGeneration
      (decide (before.headerContent ≠ after.headerContent) || after.acceptedSince before || cleared
        || after.testedSince before) g.header
    channels := mapAll g.channels fun c w =>
      stepGeneration (decide (channelContent (before.chan c) ≠ channelContent (after.chan c)) || cleared) w
    engines := mapAll g.engines fun e w =>
      stepGeneration (decide (engineContent (before.eng e) before.port.parked[e]
        ≠ engineContent (after.eng e) after.port.parked[e]) || cleared
        || (after.eng e).movedOnSince (before.eng e)) w
    bays := mapAll g.bays fun b w =>
      stepGeneration (decide (bayContent (before.bay b) ≠ bayContent (after.bay b)) || after.sensedSince before b
        || after.fedAnewSince before b) w }

/-- The changes of one event published, each record under one generation pair. -/
def State.publishSince (after before : State) : State := { after with gens := publishGens before after }

/-- One generation pair for each channel, engine and bay record: the writing of R181 during STARTING. -/
def State.writeRecords (s : State) : State :=
  { s with gens :=
      { s.gens with
        channels := mapAll s.gens.channels fun _ w => w + 2#16
        engines := mapAll s.gens.engines fun _ w => w + 2#16
        bays := mapAll s.gens.bays fun _ w => w + 2#16 } }

/-! ### Host reads (R178, Table 10-1) -/

/-- The bytes of a record: its generation word, then its content. -/
def recordBytes (g : Word) (content : List Byte) : List Byte := beBytes 2 g.toNat ++ content

/-- The bytes of a ticket slot (section 12.3). -/
def Slot.bytes (x : Slot) : List Byte :=
  beBytes 2 x.hand.code.toNat ++ beBytes 2 x.kind.toNat ++ beBytes 2 x.target.toNat ++ x.args.toList
  ++ beBytes 2 x.status.toNat ++ x.answer.toList

/-- The word at an even offset of a run of bytes, 0 beyond its end. -/
def wordAt (l : List Byte) (k : Nat) : Word := byteAt l k ++ byteAt l (k + 1)

/-- A word of the channel, engine and bay records; each reads zero until the part is READY (R181). -/
def State.readRecord (s : State) (a : Nat) : Word :=
  if s.port.partState = .starting then 0#16
  else if h : 0x100 ≤ a ∧ a < 0x280 then
    let c : ChanId := ⟨(a - 0x100) / 32, by omega⟩
    wordAt (recordBytes s.gens.channels[c] (channelContent (s.chan c))) (a % 32)
  else if h : 0x280 ≤ a ∧ a < 0x300 then
    let e : EngId := ⟨(a - 0x280) / 32, by omega⟩
    wordAt (recordBytes s.gens.engines[e] (engineContent (s.eng e) s.port.parked[e])) (a % 32)
  else if h : 0x300 ≤ a ∧ a < 0x900 then
    let b : BayId := ⟨(a - 0x300) / 64, by omega⟩
    wordAt (recordBytes s.gens.bays[b] (bayContent (s.bay b))) (a % 64)
  else 0#16

/-- A register of the window (Table 10-6, R196). -/
def State.readRegister (s : State) (a : Nat) : Word :=
  if a = 0x2000 then Config.partId
  else if a = 0x2002 then s.port.partState.code.setWidth 16
  else if a = 0x2004 then s.port.notices.setWidth 16
  else if a = 0x2008 then s.port.enables.setWidth 16
  else if a = 0x200A then s.port.routes.setWidth 16
  else 0#16

/-- What a host read of a word returns; it changes nothing (R178, R180). -/
def State.hostRead (s : State) (a : Nat) : Word :=
  if a < 0x100 then wordAt (recordBytes s.gens.header s.headerContent) a
  else if a < 0x1000 then s.readRecord a
  else if h : 0x1000 ≤ a ∧ a < 0x1800 then
    wordAt (s.slot ⟨(a - 0x1000) / 64, by omega⟩).bytes (a % 64)
  else s.readRegister a

end Sys2Proof.Machine
end

