-- ==== Sys2Proof/Machine/StoreOps.lean ====
section
/-! DEFINITION. The store controller: which flash operation starts next, how each one ends, waiting, reclaim
and degradation of the journal, the power-fail warning, and the profile switch (chapter 9, R60, R112, R116). -/

namespace Sys2Proof.Machine

/-! ### Sectors -/

/-- A change of one journal sector context. -/
def State.updSector (s : State) (j : SecId) (f : Sector → Sector) : State :=
  s.updStore fun x => { x with sectors := updAt x.sectors j f }

/-- The journal sectors in a state, lowest-numbered first. -/
def State.sectorsIn (s : State) (st : SectorState) : List SecId :=
  (List.finRange 8).filter fun j => decide (s.store.sectors[j].state = st)

/-- The ACTIVE sector, where it has a free slot (R159). -/
def State.activeSector (s : State) : Option SecId :=
  (s.sectorsIn .active).find? fun j => decide (s.store.sectors[j].nextSlot ≤ 127)

/-- The flash is idle again. -/
def State.idleStore (s : State) : State := s.updStore fun x => { x with op := none }

/-- An item waits to be appended; items that joined at this event count. -/
def State.itemsWait (s : State) : Bool := !s.history.fifo.isEmpty || !s.history.joining.isEmpty

/-- No slot can be had: no ACTIVE sector with a free slot and no ERASED sector (R163). -/
def State.noSlot (s : State) : Bool := s.activeSector.isNone && (s.sectorsIn .erased).isEmpty

/-! ### Degradation (R54, R167) -/

/-- The journal becomes degraded, with what the history table does at it. -/
def State.degrade (s : State) : State :=
  if s.store.mode = .degraded then s
  else
    ((s.updStore fun x => { x with mode := .degraded, victim := none, retry := none, changed := false }).updHist fun h =>
      { h with live := h.live.map fun e => { e with journalDue := false }
               tombs := [], fifo := [], joining := [] }).raise .store

/-- The degraded test: fewer than 3 journal sectors remain that are not RETIRED. -/
def State.degradedTest (s : State) : State :=
  if 8 - (s.sectorsIn .retired).length < 3 then s.degrade else s

/-- next_journal_seq steps; where it would pass its largest value the journal is degraded (R160). -/
def State.stepJournalSeq (s : State) : State :=
  if s.store.nextJournalSeq < top32 then
    s.updStore fun x => { x with nextJournalSeq := x.nextJournalSeq + 1 }
  else s.degrade

/-- next_sector_seq steps; where it would pass its largest value the journal is degraded (R159, R160). -/
def State.stepSectorSeq (s : State) : State :=
  if s.store.nextSectorSeq < top32 then
    s.updStore fun x => { x with nextSectorSeq := x.nextSectorSeq + 1 }
  else s.degrade

/-! ### Reclaim and waiting (R163 to R165) -/

/-- The lower sector_seq of two FULL sectors. -/
def State.olderSector (s : State) (a b : SecId) : SecId :=
  if s.store.sectors[b].seq.getD 0 < s.store.sectors[a].seq.getD 0 then b else a

/-- The FULL sector with the lowest sector_seq. -/
def State.oldestFull (s : State) : Option SecId :=
  match s.sectorsIn .full with
  | [] => none
  | j :: l => some (l.foldl s.olderSector j)

/-- The serials of the live entries whose latest record lies in a sector. -/
def State.namedIn (s : State) (j : SecId) : List Serial :=
  (s.history.live.filter fun e => decide ((e.journalLocation.map (·.sector)) = some j)).map (·.serial)

/-- The reclaim check (R164). -/
def State.reclaimCheck (s : State) : State :=
  if s.store.victim.isSome ∨ 2 < (s.sectorsIn .erased).length ∨ s.store.mode = .degraded then s
  else
    match s.oldestFull with
    | none => s
    | some j => (s.updStore fun x => { x with victim := some j }).makeAllDue (s.namedIn j)

/-- The beginning of a waiting period (R163). -/
def State.startWaiting (s : State) : State :=
  if s.store.mode = .normal ∧ s.itemsWait ∧ s.noSlot then
    ((s.updStore fun x => { x with mode := .waiting }).raise .store).reclaimCheck
  else s

/-- An erase is in flight. -/
def State.erasing (s : State) : Bool :=
  match s.store.op with
  | some (.erase _) => true
  | _ => false

/-- The victim still holds a record that an entry names as its latest (R165). -/
def State.victimNamed (s : State) : Bool :=
  match s.store.victim with
  | some j => decide (0 < s.referenced j)
  | none => false

/-- The waiting has stalled: the journal is degraded (R165). -/
def State.stalledTest (s : State) : State :=
  if s.store.mode = .waiting ∧ s.victimNamed ∧ (s.sectorsIn .erased).isEmpty ∧ s.erasing = false
      ∧ (s.sectorsIn .dirty).isEmpty then s.degrade
  else s

/-- What the store controller notices of the journal at the end of an event. -/
def State.watchJournal (s : State) : State := s.startWaiting.stalledTest

/-! ### Starting an operation (R157, R159, R161, R168, R174) -/

/-- The CHANNEL_OCCUPIED condition of SET_PROFILE (R173). -/
def State.channelOccupied (s : State) (c : ChanId) (p : Profile) : Bool :=
  decide ((s.chan c).profile.map (·.inkType) ≠ some p.inkType)
    && (decide ((s.bay (bayA c)).state ≠ .empty) || decide ((s.bay (bayB c)).state ≠ .empty))

/-- An operation begins, the store tickets left being `l`. -/
def State.beginOp (s : State) (op : FlashOp) (l : List StoreTicket) : State :=
  s.updStore fun x => { x with op := some op, tickets := l }

/-- The slot of a store ticket. -/
def StoreTicket.slot : StoreTicket → SlotId
  | .setProfile k _ _ | .checkStore k _ _ | .selfTest k => k

/-- A store ticket is a SET_PROFILE. -/
def StoreTicket.isRewrite : StoreTicket → Bool
  | .setProfile _ _ _ => true
  | .checkStore _ _ _ | .selfTest _ => false

/-- Waiting store tickets reach the flash, oldest first; a SET_PROFILE whose channel has become occupied is
answered and the next one reaches the flash (R174). -/
def State.serveTickets : List StoreTicket → State → State
  | [], s => s.updStore fun x => { x with tickets := [] }
  | .setProfile k c p :: l, s =>
    if s.channelOccupied c p then State.serveTickets l (s.writeAnswer k (plainAnswer .channelOccupied))
    else s.beginOp (.profileRewrite k c p) l
  | .checkStore k first last :: l, s => s.beginOp (.checkRead k first last) l
  | .selfTest k :: l, s => s.beginOp (.profileRead k) l

/-- The record the next append programs: the one whose last program failed, or the head item's content as
it stands (R160, R162). -/
def State.nextRecord (s : State) (i : DueItem) : JournalRecord :=
  match s.store.retry with
  | some (r, _) => r
  | none =>
    if i.tombstone then tombstoneRecord i.serial s.store.nextJournalSeq
    else
      match s.entryOf i.serial with
      | some e => s.recordOf e s.store.nextJournalSeq
      | none => tombstoneRecord i.serial s.store.nextJournalSeq

/-- The record the writer has taken and not yet written: the one in flight, or the one whose last program failed
(R160, R162). -/
def Store.writing (x : Store) : Option JournalRecord :=
  match x.op with
  | some (.append _ _ r) => some r
  | _ => x.retry.map (·.1)

/-- The current content of a serial's live entry, as the record numbered `seq` carries it (R41). -/
def State.entryContent (s : State) (serial : Serial) (seq : Nat) : Option JournalRecord :=
  (s.entryOf serial).map fun e => s.recordOf e seq

/-- An event that changes the content of the entry whose record is being written is remembered until the record
is written (R49, R162). -/
def State.noteChange (s before : State) : State :=
  match s.store.writing with
  | none => s
  | some r =>
    if s.entryContent r.serial r.seq = before.entryContent r.serial r.seq then s
    else s.updStore fun x => { x with changed := true }

/-- An append starts, or the header program that opens a sector for it, where a slot can be had (R159,
R161). -/
def State.startAppend (s : State) : State :=
  match s.history.fifo with
  | [] => s
  | i :: _ =>
    if s.store.mode = .degraded then s
    else
      match s.activeSector with
      | some j => s.beginOp (.append j s.store.sectors[j].nextSlot (s.nextRecord i)) s.store.tickets
      | none =>
        match s.sectorsIn .erased with
        | j :: _ => s.beginOp (.header j s.store.nextSectorSeq) s.store.tickets
        | [] => s

/-- The erase of the victim starts once no entry names it (R165). -/
def State.startVictimErase (s : State) : State :=
  match s.store.victim with
  | some j => if s.referenced j = 0 then s.beginOp (.erase j) s.store.tickets else s
  | none => s

/-- The erase of the lowest-numbered DIRTY sector starts (R166). -/
def State.startDirtyErase (s : State) : State :=
  if s.store.mode = .degraded then s
  else
    match s.sectorsIn .dirty with
    | j :: _ => s.beginOp (.erase j) s.store.tickets
    | [] => s

/-- A class of work is tried where the classes before it started nothing. -/
def State.orElseStart (s : State) (f : State → State) : State :=
  match s.store.op with
  | some _ => s
  | none => f s

/-- The order while PFW is inactive (R157). -/
def State.startNormal (s : State) : State :=
  (((s.serveTickets s.store.tickets).orElseStart State.startVictimErase).orElseStart
    State.startAppend).orElseStart State.startDirtyErase

/-- The order while PFW is active: appends, then reads (R168). -/
def State.startWarned (s : State) : State :=
  s.startAppend.orElseStart fun s => s.serveTickets s.store.tickets

/-- An idle flash starts the next operation (R157); not while STARTING and not once a soft reset is pending
(R198). -/
def State.startStore (s : State) : State :=
  if s.store.op.isSome ∨ s.port.partState = .starting ∨ s.port.resetPending then s
  else if s.store.powerWarning then s.startWarned
  else s.startNormal

/-! ### The end of a record program (R161, R162) -/

/-- A slot of the ACTIVE sector is used up (R159, R161, R162). -/
def Sector.useSlot (x : Sector) : Sector :=
  { x with nextSlot := x.nextSlot + 1, state := if 127 < x.nextSlot + 1 then .full else x.state }

/-- The entry of a written record takes its location and sequence number (R161 step 2). -/
def State.locateRecord (s : State) (j : SecId) (slot : Nat) (r : JournalRecord) : State :=
  if r.verdict = .none then s
  else
    s.updEntry r.serial fun e => { e with journalLocation := some ⟨j, slot⟩, journalSeq := r.seq }

/-- The head item leaves the journal-due FIFO. -/
def State.popItem (s : State) : State := s.updHist fun h => { h with fifo := h.fifo.tail }

/-- A RECORD item leaves with its record written; a change made since the writer took it makes the entry due
again (R49, R162). -/
def State.recordItemDone (s : State) (r : JournalRecord) (changed : Bool) : State :=
  let s := (s.updEntry r.serial fun e => { e with journalDue := false }).popItem
  if changed then s.makeDue r.serial else s

/-- The head item once a record has verified: it leaves when it is still of the record's kind, and stays
when it has changed kind meanwhile (R161). -/
def State.itemWritten (s : State) (j : SecId) (slot : Nat) (r : JournalRecord) (changed : Bool) : State :=
  match s.history.fifo with
  | [] => s.locateRecord j slot r
  | i :: _ =>
    if i.serial ≠ r.serial then s.locateRecord j slot r
    else if r.verdict = .none then
      if i.tombstone then
        (s.updHist fun h => { h with tombs := h.tombs.erase r.serial }).popItem
      else s
    else if i.tombstone then s
    else (s.locateRecord j slot r).recordItemDone r changed

/-- A record that verified (R160, R161). -/
def State.recordVerified (s : State) (j : SecId) (slot : Nat) (r : JournalRecord) : State :=
  let s' := s.updStore fun x => { x with retry := none, changed := false }
  (s'.itemWritten j slot r s.store.changed).stepJournalSeq

/-- A record that did not verify: the same record is programmed next, or the journal is degraded at the
eighth failure in a row (R162). -/
def State.recordFailed (s : State) (r : JournalRecord) : State :=
  let n := match s.store.retry with
    | some (_, k) => k + 1
    | none => 1
  let s := s.updStore fun x => { x with programFailures := satAdd top16 x.programFailures 1 }
  if s.store.mode = .degraded then s
  else if Config.recordTries ≤ n then s.degrade
  else s.updStore fun x => { x with retry := some (r, n) }

/-- The end of a record program; `got` is what the slot reads back (R156). -/
def State.endAppend (s : State) (j : SecId) (slot : Nat) (r : JournalRecord) (got : Block) : State :=
  let s := { s with flash := s.flash.writeRun (slotBase j slot) got.toList }
  let s := s.idleStore.updSector j Sector.useSlot
  if got = r.block then s.recordVerified j slot r else s.recordFailed r

/-! ### The end of a header program and of an erase (R159, R165, R166) -/

/-- The end of a header program. -/
def State.endHeader (s : State) (j : SecId) (seq : Nat) (got : Block) : State :=
  let s := { s with flash := s.flash.writeRun (slotBase j 0) got.toList }.idleStore
  if got = headerBlock seq then
    ((s.updSector j fun _ => { state := .active, seq := some seq, nextSlot := 1 }).stepSectorSeq).reclaimCheck
  else (s.updSector j fun x => { x with state := .dirty, seq := none }).stepSectorSeq

/-- A verified erase. -/
def State.eraseVerified (s : State) (j : SecId) : State :=
  (s.updSector j fun _ => { state := .erased, seq := none, nextSlot := 0 }).updStore fun x =>
    { x with mode := if x.mode = .waiting then .normal else x.mode }

/-- An erase that does not verify. -/
def State.eraseFailed (s : State) (j : SecId) : State :=
  (((s.updSector j fun _ => { state := .retired, seq := none, nextSlot := 0 }).updStore fun x =>
    { x with eraseFailures := satAdd top16 x.eraseFailures 1 }).raise .store).degradedTest

/-- The end of a journal sector erase; `left` lists the bytes that are not erased, by offset. The end of the
victim's erase ends its reclaim. -/
def State.endErase (s : State) (j : SecId) (left : List (Nat × Byte)) : State :=
  let base := sectorBase (secNumber j)
  let s := { s with flash := (s.flash.erase base 4096).scatter base 4096 left }.idleStore
  let victim := decide (s.store.victim = some j)
  let s := if s.flash.blank base 4096 then s.eraseVerified j else s.eraseFailed j
  if victim then (s.updStore fun x => { x with victim := none }).reclaimCheck else s

/-! ### The end of a profile rewrite (R174, R60, R112, R116, R31) -/

/-- The RAM profile of a channel as a rewrite writes it: the ticket's for its own channel. -/
def State.rewriteProfile (s : State) (c : ChanId) (p : Profile) (x : ChanId) : Option Profile :=
  if x = c then some p else (s.chan x).profile

/-- The record programs of a profile rewrite, in channel order (R174). -/
def State.rewriteRecords (s : State) (c : ChanId) (p : Profile) : List (ChanId × Profile) :=
  (List.finRange 12).filterMap fun x => (s.rewriteProfile c p x).map fun q => (x, q)

/-- Profile records programmed one after the other. -/
def programProfiles (m : Memory) (l : List (ChanId × Profile)) : Memory :=
  l.foldl (fun m r => m.writeRun (32 * r.1.val) (profileRecord r.1 r.2).toList) m

/-- Sector 0 after a rewrite whose step `step` did not verify and left what `left` lists. -/
def cutRewrite (m : Memory) (l : List (ChanId × Profile)) (step : Nat) (left : List (Nat × Byte)) : Memory :=
  if step = 0 then (m.erase 0 4096).scatter 0 4096 left
  else
    let done := programProfiles (m.erase 0 4096) (l.take (step - 1))
    match l[step - 1]? with
    | some r => done.scatter (32 * r.1.val) 32 left
    | none => done

/-- The read-back of one step of a rewrite that left what `left` lists: sector 0 blank after the erase, the slot as
the bytes written after a record program. A step past the last record is none, and none has failed (R156). -/
def rewriteStepOk (m : Memory) (l : List (ChanId × Profile)) (step : Nat) (left : List (Nat × Byte)) : Bool :=
  let x := cutRewrite m l step left
  if step = 0 then x.blank 0 4096
  else
    match l[step - 1]? with
    | some r => decide (x.slot (32 * r.1.val) = profileRecord r.1 r.2)
    | none => true

/-- The effects of a profile switch on the accounting context (R60). -/
def Channel.switchAccounts (ch : Channel) (p : Profile) : Channel :=
  let source := decide (ch.profile.map (·.tallySource) ≠ some p.tallySource)
  let ink := decide (ch.profile.map (·.inkType) ≠ some p.inkType)
  let ch := if source then { ch with seqStarted := false } else ch
  if ink then { ch.addUnbooked ch.residue with residue := 0 } else ch

/-- The settings whose change empties the windows (R116). -/
def Profile.windowSettings (p : Profile) : Nat × Nat × Nat × Nat := (p.sEmpty, p.sFull, p.tolerance, p.window)

/-- The RAM profile of a channel switches, and the owners of its fields act on it. -/
def State.switchProfile (s : State) (c : ChanId) (p : Profile) : State :=
  let old := (s.chan c).profile
  let s := s.updChan c fun ch =>
    { ch.switchAccounts p with
      profile := some p
      closedReason := if old.isNone then .empty else ch.closedReason }
  let s := if old.isNone then s.raise .channel else s
  let s := if old.map Profile.windowSettings ≠ some p.windowSettings then
      (s.emptyWindow (bayA c)).emptyWindow (bayB c)
    else s
  if old.map (·.inkType) ≠ some p.inkType then (s.reevaluate (bayA c)).reevaluate (bayB c) else s

/-- The code of profile_state (Table 12-1). -/
def ProfileState.code : ProfileState → Byte
  | .good => 0#8
  | .damaged => 1#8

/-- A rewrite whose every step verified (R174). -/
def State.rewriteDone (s : State) (k : SlotId) (c : ChanId) (p : Profile) : State :=
  let s := (s.switchProfile c p).updStore fun x => { x with profileState := .good }
  s.writeAnswer k (answerOf .done [natByte c.val, ProfileState.good.code])

/-- A rewrite that stopped at a step (R174). -/
def State.rewriteFailed (s : State) (k : SlotId) : State :=
  ((s.updStore fun x => { x with profileState := .damaged }).raise .store).writeAnswer k
    (plainAnswer .storeFault)

/-- Every step of a rewrite verifies: also where the one step said to have failed reads back right, the rewrite
then going on with the steps after it (R156, R174). -/
def State.rewriteVerifies (s : State) (c : ChanId) (p : Profile) : RewriteEnd → Bool
  | .verified => true
  | .failed step left => rewriteStepOk s.flash (s.rewriteRecords c p) step left

/-- Sector 0 after a rewrite whose every step verified (R174). -/
def State.wholeRewrite (s : State) (c : ChanId) (p : Profile) : Memory :=
  programProfiles (s.flash.erase 0 4096) (s.rewriteRecords c p)

/-- Sector 0 as a rewrite leaves it: whole, or as it stood when a step did not verify. -/
def State.rewriteResult (s : State) (c : ChanId) (p : Profile) (result : RewriteEnd) : Memory :=
  match result with
  | .verified => s.wholeRewrite c p
  | .failed step left =>
    if s.rewriteVerifies c p result then s.wholeRewrite c p
    else cutRewrite s.flash (s.rewriteRecords c p) step left

/-- The end of a profile rewrite, which goes by the read-back of each step (R156). -/
def State.endRewrite (s : State) (k : SlotId) (c : ChanId) (p : Profile) (result : RewriteEnd) : State :=
  let ok := s.rewriteVerifies c p result
  let s := { s with flash := s.rewriteResult c p result }.idleStore
  if ok then s.rewriteDone k c p else s.rewriteFailed k

/-! ### The end of a read (R175, R207) -/

/-- The raw bytes of a run of sectors. -/
def Memory.sectorBytes (m : Memory) (first last : Nat) : List Byte :=
  m.readRun (sectorBase first) ((last + 1 - first) * 4096)

/-- The answer of a CHECK_STORE: first, sectors covered, CRC (Table 12-6). -/
def checkAnswer (m : Memory) (first last : Nat) : Answer :=
  answerOf .done (beBytes 2 first ++ beBytes 2 (last + 1 - first) ++ crcBytes (m.sectorBytes first last))

/-- The end of a CHECK_STORE read. -/
def State.endCheck (s : State) (k : SlotId) (first last : Nat) : State :=
  s.idleStore.writeAnswer k (checkAnswer s.flash first last)

/-- The code of a slot judgement (Table 12-6). -/
def SlotJudgement.code : SlotJudgement → Byte
  | .good _ => 0#8
  | .blank => 1#8
  | .bad => 2#8

/-- The judgement of the slot of a channel in sector 0. -/
def Memory.judge (m : Memory) (c : ChanId) : SlotJudgement := judgeProfileSlot c (m.slot (32 * c.val))

/-- The judgements of the 12 slots of sector 0. -/
def Memory.judgements (m : Memory) : List SlotJudgement := (List.finRange 12).map m.judge

/-- The end of a self-test code 6 read (R207). -/
def State.endProfileRead (s : State) (k : SlotId) : State :=
  let js := s.flash.judgements
  s.idleStore.decideTest k (js.all fun x => decide (x.code ≠ 2#8)) (js.map SlotJudgement.code)

/-! ### The power-fail warning (R168, R169) -/

/-- The waiting SET_PROFILE tickets are answered POWER_WARNING and leave the list. -/
def State.turnAwayRewrites (s : State) : State :=
  let gone := s.store.tickets.filter StoreTicket.isRewrite
  let s := s.updStore fun x => { x with tickets := x.tickets.filter fun t => !t.isRewrite }
  gone.foldl (fun s t => s.writeAnswer t.slot (plainAnswer .powerWarning)) s

/-- PFW becomes active (R53, R168). -/
def State.warn (s : State) : State :=
  let s := s.turnAwayRewrites
  let s := s.makeAllDue s.installedSerials
  (s.raise .power).updStore fun x => { x with powerWarning := true }

/-- PFW becomes inactive (R169). -/
def State.unwarn (s : State) : State := s.updStore fun x => { x with powerWarning := false }

end Sys2Proof.Machine
end

