-- ==== Sys2Proof/Machine/Events.lean ====
section
/-! DEFINITION. How an event ends: the arbitration, journal and flash work it leads to and the publication
of the records it changed; and the two resets (R145, R157, R163, R180, R197, R198). -/

namespace Sys2Proof.Machine

/-! ### The end of an event -/

/-- The end of an event that can raise no engine and no flash work: the changed records are published. -/
def State.endQuiet (s before : State) : State := s.publishSince before

/-- The store controller's part of an event's end: a change of the entry being written is noted, the waiting and
stalled tests are made, the items that became due join the FIFO in order, and an idle flash starts its next
operation (R49, R157, R163, R165). -/
def State.advanceStore (s before : State) : State := (s.noteChange before).watchJournal.flushJoining.startStore

/-- The end of an event that can raise flash work. -/
def State.endStore (s before : State) : State := (s.advanceStore before).publishSince before

/-- The flash and the engines go on at the end of an event that brings no instant of its own. -/
def State.advanceWork (s before : State) : State := (s.advanceStore before).arbitrateAll s.untimed

/-- The end of an event that can raise engine and flash work and brings no instant of its own. -/
def State.endEvent (s before : State) : State := (s.advanceWork before).publishSince before

/-- The end of an event that can raise engine and flash work, at the instant the clock stands at. -/
def State.endTimed (s before : State) : State :=
  ((s.advanceStore before).arbitrateAll s.outside.now).publishSince before

/-! ### Resets (R17, R197, R198, R210) -/

/-- The machine after a reset: every block at its reset values; the pins, the seated tags, the clock, the
flash and the queue of commands as they were. PFW found active at the end of the reset is taken as becoming
active (R169). -/
def State.afterReset (s : State) : State :=
  let r := { State.reset with pending := s.pending, outside := s.outside, flash := s.flash }
  if s.outside.pfw then r.warn.publishSince r else r

/-- The end of an event that ends a flash operation or requests a soft reset: a pending soft reset takes
effect once no operation is in flight, otherwise the flash goes on (R157, R198). -/
def State.endFlash (s before : State) : State :=
  let s := s.advanceWork before
  if s.port.resetPending ∧ s.port.partState = .ready ∧ s.store.op = none then s.afterReset
  else s.publishSince before

/-- A soft reset request (R198). -/
def State.requestReset (s : State) : State :=
  if s.port.resetPending then s
  else
    let t := s.updPort fun p => { p with resetPending := true }
    if s.port.partState = .ready ∧ s.store.op = none then t.afterReset else t.publishSince s

/-! ### A flash operation cut by a power-on reset (R156) -/

/-- The bytes of a slot whose program is cut: a mix of what it held and what was being written. -/
def cutSlot (m : Memory) (draw base : Nat) (new : Block) : Memory :=
  m.writeRun base ((List.range 32).map fun i =>
    if Config.cutReached draw i then byteAt new.toList i else m.read (base + i))

/-- A sector whose erase is cut: some bytes cleared and others not. -/
def cutErase (m : Memory) (draw base : Nat) : Memory :=
  m.filter fun c => decide (c.1 < base ∨ base + 4096 ≤ c.1) || !Config.cutReached draw (c.1 - base)

/-- Sector 0 after a cut rewrite: the erase cut, or the records of the whole steps done and the next slot
torn. -/
def cutProfiles (m : Memory) (draw : Nat) (l : List (ChanId × Profile)) : Memory :=
  match Config.cutSteps draw with
  | 0 => cutErase m draw 0
  | n + 1 =>
    let done := programProfiles (m.erase 0 4096) (l.take n)
    match l[n]? with
    | some r => cutSlot done draw (32 * r.1.val) (profileRecord r.1 r.2)
    | none => done

/-- The flash after the operation in flight, if there is one, is cut. -/
def State.cutFlash (s : State) : State :=
  let d := s.outside.cutDraws
  let m := match s.store.op with
    | some (.append j slot r) => cutSlot s.flash d (slotBase j slot) r.block
    | some (.header j seq) => cutSlot s.flash d (slotBase j 0) (headerBlock seq)
    | some (.erase j) => cutErase s.flash d (sectorBase (secNumber j))
    | some (.profileRewrite _ c p) => cutProfiles s.flash d (s.rewriteRecords c p)
    | some (.checkRead _ _ _) | some (.profileRead _) | none => s.flash
  { s with flash := m }.updOutside fun o => { o with cutDraws := o.cutDraws + 1 }

end Sys2Proof.Machine
end

