-- ==== Sys2Proof/Machine/Rebuild.lean ====
section
/-! DEFINITION. The start-up rebuild: what the part reads from its flash while STARTING (R42, R95, R170 to
R172). -/

namespace Sys2Proof.Machine

/-! ### The profile sector (R170, R95) -/

/-- The profile a judgement loads. -/
def SlotJudgement.profile : SlotJudgement → Option Profile
  | .good p => some p
  | .blank | .bad => none

/-- A channel after the load of its slot. -/
def Channel.loaded (ch : Channel) (j : SlotJudgement) : Channel :=
  { ch with profile := j.profile, closedReason := if j.profile.isSome then .empty else .unset }

/-- profile_state after the load. -/
def loadState (m : Memory) : ProfileState :=
  if m.judgements.any fun j => decide (j.code = 2#8) then .damaged else .good

/-- The load of sector 0. -/
def State.loadProfiles (s : State) : State :=
  { s with channels := mapAll s.channels fun c ch => ch.loaded (s.flash.judge c) }.updStore fun x =>
    { x with profileState := loadState s.flash }

/-! ### The journal sectors (R171) -/

/-- What a journal sector reads as. -/
inductive SectorRead where
  | erased
  | headed (seq : Nat)
  | dirty
deriving DecidableEq, Repr

/-- The classification of a journal sector. -/
def Memory.classify (m : Memory) (j : SecId) : SectorRead :=
  if m.blank (sectorBase (secNumber j)) 4096 then .erased
  else
    match headerSeq (m.slot (slotBase j 0)) with
    | some seq => .headed seq
    | none => .dirty

/-- A good record as it was found: its sector's sector_seq and its place. -/
structure Found where
  record    : JournalRecord
  sectorSeq : Nat
  place     : JournalPlace
deriving DecidableEq, Repr

/-- Slots 1 to 127. -/
def recordSlots : List Nat := (List.range 127).map (· + 1)

/-- A record slot holds no record and is not blank (R171). -/
def Memory.rejected (m : Memory) (j : SecId) (slot : Nat) : Bool :=
  let b := m.slot (slotBase j slot)
  decide (b ≠ Vector.replicate 32 blankByte) && (goodRecord b).isNone

/-- The good records of a headed sector, in slot order. -/
def Memory.recordsOf (m : Memory) (j : SecId) (seq : Nat) : List Found :=
  recordSlots.filterMap fun slot =>
    (goodRecord (m.slot (slotBase j slot))).map fun r => ⟨r, seq, ⟨j, slot⟩⟩

/-- The headed sectors with their sector_seq, lowest-numbered first. -/
def Memory.headed (m : Memory) : List (SecId × Nat) :=
  (List.finRange 8).filterMap fun j =>
    match m.classify j with
    | .headed seq => some (j, seq)
    | .erased | .dirty => none

/-- The good records of all headed sectors. -/
def Memory.allRecords (m : Memory) : List Found := m.headed.flatMap fun h => m.recordsOf h.1 h.2

/-- rebuild_rejects (R171). -/
def Memory.rejects (m : Memory) : Nat :=
  (m.headed.map fun h => (recordSlots.filter (m.rejected h.1)).length).sum

/-! ### The history table (R172) -/

/-- The later of two records of one serial: higher journal_seq, then higher sector_seq, then higher slot. -/
def laterFound (a b : Found) : Found :=
  if a.record.seq < b.record.seq then b
  else if b.record.seq < a.record.seq then a
  else if a.sectorSeq < b.sectorSeq then b
  else if b.sectorSeq < a.sectorSeq then a
  else if a.place.slot ≤ b.place.slot then b
  else a

/-- A record taken into the records kept so far, one for each serial. -/
def keepFound (kept : List Found) (f : Found) : List Found :=
  if kept.any fun k => decide (k.record.serial = f.record.serial) then
    kept.map fun k => if k.record.serial = f.record.serial then laterFound k f else k
  else kept ++ [f]

/-- The record kept of each serial, tombstones left out (R172 steps 1 and 2). -/
def keptRecords (l : List Found) : List Found :=
  (l.foldl keepFound []).filter fun f => decide (f.record.verdict ≠ .none)

/-- The at most 256 kept records with the highest journal_seq, in rising order of it (R172 step 3). -/
def topRecords (l : List Found) : List Found :=
  let sorted := sortBy (fun f => (f.record.seq, 0)) l
  sorted.drop (sorted.length - Config.historyPlaces)

/-- The bay a record names as last_bay. -/
def JournalRecord.bay (r : JournalRecord) : BayId := if h : r.lastBay < 24 then ⟨r.lastBay, h⟩ else 0

/-- The live entry of a kept record (R40, R172 step 4). -/
def Found.entry (f : Found) (stamp : Nat) : Entry :=
  { serial := f.record.serial, inkType := f.record.inkType, book := f.record.book, owed := f.record.owed
    verdict := f.record.verdict, seen := f.record.seen, installedBay := none, lastBay := f.record.bay
    useStamp := stamp, journalLocation := some f.place, journalSeq := f.record.seq, journalDue := false }

/-- Entries with use stamps 1 to N in rising order of journal_seq (R42). -/
def stampEntries : Nat → List Found → List Entry
  | _, [] => []
  | n, f :: l => f.entry n :: stampEntries (n + 1) l

/-- The history table the rebuild forms. -/
def rebuiltHistory (l : List Found) : History :=
  let live := stampEntries 1 (topRecords (keptRecords l))
  { History.default with live := live, useCounter := live.length }

/-! ### The sector contexts and the sequence numbers (R172) -/

/-- One more than the highest of a list, 1 when it is empty. -/
def nextAfter (l : List Nat) : Nat := l.foldl max 0 + 1

/-- One more than the highest slot of a sector that is not blank. -/
def Memory.nextSlotOf (m : Memory) (j : SecId) : Nat :=
  (recordSlots.filter fun slot => !m.blank (slotBase j slot) 32).foldl max 0 + 1

/-- The sector appending resumes in: the one with the highest sector_seq. -/
def resumeSector : List (SecId × Nat) → Option SecId
  | [] => none
  | h :: l => some (l.foldl (fun a b => if a.2 < b.2 then b else a) h).1

/-- A journal sector context as the rebuild sets it. -/
def Memory.sectorContext (m : Memory) (resume : Option SecId) (j : SecId) : Sector :=
  match m.classify j with
  | .erased => { state := .erased, seq := none, nextSlot := 0 }
  | .dirty => { state := .dirty, seq := none, nextSlot := 0 }
  | .headed seq =>
    let next := m.nextSlotOf j
    if resume = some j ∧ next ≤ 127 then { state := .active, seq := some seq, nextSlot := next }
    else { state := .full, seq := some seq, nextSlot := next }

/-- The load of the journal. A next sequence number that would pass its largest value degrades the journal
at once (R160). -/
def State.loadJournal (s : State) : State :=
  let m := s.flash
  let found := m.allRecords
  let seq := nextAfter (found.map (·.record.seq))
  let sectorSeq := nextAfter (m.headed.map (·.2))
  let s := { s with history := rebuiltHistory found }.updStore fun x =>
    { x with mode := .normal, sectors := mapAll x.sectors fun j _ => m.sectorContext (resumeSector m.headed) j
             nextJournalSeq := min seq top32, nextSectorSeq := min sectorSeq top32, victim := none
             retry := none, rebuildRejects := m.rejects }
  if top32 < seq ∨ top32 < sectorSeq then s.degrade else s

/-- The whole rebuild. -/
def State.rebuild (s : State) : State := s.loadProfiles.loadJournal

end Sys2Proof.Machine
end

