-- ==== Sys2Proof/Machine/Tally.lean ====
section
/-! DEFINITION. Tally intake: the stray and sequence tests, accepted frames and purges (R61 to R66, R75). -/

namespace Sys2Proof.Machine

/-- tally_crc_errors counted (R61, R62, R66). -/
def State.countTallyError (s : State) : State :=
  { s with tally := { s.tally with tallyCrcErrors := satAdd top16 s.tally.tallyCrcErrors 1 } }

/-- stray_tallies counted (R61, R63, R66). -/
def State.countStray (s : State) : State :=
  { s with tally := { s.tally with strayTallies := satAdd top16 s.tally.strayTallies 1 } }

/-- posted_rejects counted (R187). -/
def State.countReject (s : State) : State :=
  s.updPort fun p => { p with postedRejects := satAdd top16 p.postedRejects 1 }

/-- The volume V of a frame under a profile (R67 to R69). -/
def frameVolume (p : Profile) (t : TallyContent) : Nat :=
  swathVolume t.nSmall t.nMedium t.nLarge p.vSmall p.vMedium p.vLarge
    (factorOf p.tempCoeff (clampTemp t.temp))

/-- What a frame adds to gap_count (R65). -/
def Channel.gapOf (ch : Channel) (seq : Word) : Nat :=
  if ch.seqStarted then (seq - ch.lastSeq - 1#16).toNat else 0

/-- The sequence state and the temperature figures after an accepted frame (R65, R67). -/
def Channel.accept (ch : Channel) (p : Profile) (t : TallyContent) : Channel :=
  { ch with gapCount := satAdd top16 ch.gapCount (ch.gapOf t.seq), lastSeq := t.seq, seqStarted := true
            lastTemp := clampTemp t.temp, lastFactor := factorOf p.tempCoeff (clampTemp t.temp) }

/-- A frame that is not stray: a duplicate is counted, any other frame is accepted and charged (R65, R70). -/
def State.takeFrame (s : State) (c : ChanId) (p : Profile) (t : TallyContent) : State :=
  if (s.chan c).seqStarted ∧ t.seq = (s.chan c).lastSeq then
    s.updChan c fun ch => { ch with duplicateCount := satAdd top16 ch.duplicateCount 1 }
  else (s.updChan c fun ch => ch.accept p t).takeVolume c (frameVolume p t)

/-- The stray tests of a frame from a source (R63). -/
def State.takeTally (s : State) (source : TallySource) (t : TallyContent) : State :=
  if h : t.channel < 12 then
    let c : ChanId := ⟨t.channel, h⟩
    match (s.chan c).profile with
    | none => s.countStray
    | some p => if p.tallySource = source then s.takeFrame c p t else s.countStray
  else s.countStray

/-- A complete link frame (R61, R62). -/
def State.takeLinkFrame (s : State) (f : LinkFrame) : State :=
  if s.port.partState = .starting then s.countStray
  else if linkCrcGood f then s.takeTally .link (linkContent f)
  else s.countTallyError

/-- A TALLY_POST (R64). -/
def State.takeTallyPost (s : State) (target : Word) (a : Args) : State :=
  match postContent target a with
  | none => s.countReject
  | some t => s.takeTally .ticket t

/-- A PURGE_POST (R75). -/
def State.takePurge (s : State) (target : Word) (a : Args) : State :=
  match targetChan target with
  | none => s.countReject
  | some c =>
    if (s.chan c).profile.isNone ∨ argNum a 0 2 = 0 then s.countReject
    else (s.takeVolume c (argNum a 0 2 * 10000000)).startSettle c

end Sys2Proof.Machine
end

