-- ==== Sys2Proof/Machine/Tickets.lean ====
section
/-! DEFINITION. What each ticket kind does at its taking, and the taking itself (R182, R184, R186 to R193,
R202 to R208, and the owning rule of each kind). -/

namespace Sys2Proof.Machine

/-! ### Store tickets (R173, R175) -/

/-- A ticket joins the store ticket list (R157). -/
def State.joinStore (s : State) (t : StoreTicket) : State :=
  s.updStore fun x => { x with tickets := x.tickets ++ [t] }

/-- The channel and settings a SET_PROFILE carries, where all lie in range. -/
def profileArgs (target : Word) (a : Args) : Option (ChanId × Profile) :=
  match targetChan target, decodeProfile (a.toList.take 22) with
  | some c, some p => some (c, p)
  | _, _ => none

/-- SET_PROFILE at its taking (R168, R173). -/
def State.takeSetProfile (s : State) (k : SlotId) (target : Word) (a : Args) : State :=
  match profileArgs target a with
  | none => s.writeAnswer k (plainAnswer .badArgument)
  | some (c, p) =>
    if s.store.powerWarning then s.writeAnswer k (plainAnswer .powerWarning)
    else if s.channelOccupied c p then s.writeAnswer k (plainAnswer .channelOccupied)
    else s.joinStore (.setProfile k c p)

/-- CHECK_STORE at its taking (R175). -/
def State.takeCheckStore (s : State) (k : SlotId) (a : Args) : State :=
  let first := argNum a 0 2
  if 8 < first then s.writeAnswer k (plainAnswer .badArgument)
  else s.joinStore (.checkStore k first (min (first + argNum a 2 2) 8))

/-! ### Tickets that name a bay (R150, R133, R189) -/

/-- A ticket joins the order list of the bay it names (R189). -/
def State.joinOrder (s : State) (k : SlotId) (b : BayId) : State :=
  (s.updSlot k fun x => { x with copy := x.copy.map fun t => { t with bay := some b } }).updPort fun p =>
    { p with bayOrder := updAt p.bayOrder b fun l => l ++ [k] }

/-- A bay has no tag to read: EMPTY or SETTLING. -/
def BayState.vacant : BayState → Bool
  | .empty | .settling => true
  | .identifying | .challenging | .reconciling | .standby | .feeding | .barred | .drained | .fault => false

/-- READ_TAG_BLOCK at its taking (R150). -/
def State.takeReadTag (s : State) (k : SlotId) (target : Word) (a : Args) : State :=
  match bayOfNat target.toNat with
  | none => s.finishTicket k (plainAnswer .badArgument)
  | some b =>
    let s := s.joinOrder k b
    match blockOfNat (argByte a 0).toNat with
    | none => s.finishTicket k (plainAnswer .badArgument)
    | some n =>
      if (s.bay b).state.vacant then s.finishTicket k (plainAnswer .bayEmpty)
      else s.placeTagWork { slot := k, selfTest := false, bay := b, block := n, firstCopy := none }

/-- CLEAR_HELD at its taking; it is carried out at its turn (R133, R190). -/
def State.takeClearHeld (s : State) (k : SlotId) (target : Word) : State :=
  match bayOfNat target.toNat with
  | none => s.finishTicket k (plainAnswer .badArgument)
  | some b => (s.joinOrder k b).serveBay b

/-! ### History tickets (R55 to R57) -/

/-- The answer area of a HISTORY_QUERY that found an entry (Table 12-6). -/
def State.entryAnswer (s : State) (e : Entry) : List Byte :=
  beBytes 8 e.serial.toNat ++ beBytes 2 e.inkType ++ beBytes 2 e.book ++ beBytes 2 (s.owedNow e)
  ++ [e.verdict.code, e.seen.setWidth 8, bayByte e.installedBay, bayByte (some e.lastBay)]
  ++ beBytes 4 e.useStamp ++ [boolByte e.journalDue]
  ++ (match e.journalLocation with
      | some l => [natByte (secNumber l.sector), natByte l.slot]
      | none => [0#8, 0#8])
  ++ beBytes 4 e.journalSeq

/-- The answer of a HISTORY_QUERY (R55). -/
def State.historyAnswer (s : State) (serial : Serial) : Answer :=
  match s.entryOf serial with
  | some e => answerOf .done (s.entryAnswer e)
  | none => plainAnswer .notFound

/-- HISTORY_QUERY at its taking (R55). -/
def State.takeHistoryQuery (s : State) (k : SlotId) (a : Args) : State :=
  s.writeAnswer k (s.historyAnswer (argSerial a))

/-- A live entry removed; a tombstone item that joins does so at the taking, so tickets taken at one event join
in the order of their taking (R57, R185). -/
def State.forget (s : State) (e : Entry) : State :=
  let gone := fun (h : History) => { h with live := h.live.filter fun x => x.serial != e.serial }
  if s.store.mode = .degraded then s.updHist gone
  else if e.journalDue then
    s.updHist fun h => { (gone h).turnItem e.serial true with tombs := h.tombs ++ [e.serial] }
  else
    s.updHist fun h =>
      { gone h with tombs := h.tombs ++ [e.serial], fifo := h.fifo ++ [⟨e.serial, true⟩] }

/-- FORGET_SERIAL at its taking (R56, R57). -/
def State.takeForget (s : State) (k : SlotId) (a : Args) : State :=
  if s.latch then s.writeAnswer k (plainAnswer .enforced)
  else
    match s.entryOf (argSerial a) with
    | none => s.writeAnswer k (plainAnswer .notFound)
    | some e =>
      if e.installedBay.isSome then s.writeAnswer k (plainAnswer .installed)
      else (s.forget e).writeAnswer k (plainAnswer .done)

/-! ### SWITCH_FEED, ENFORCE, CLEAR_COUNTS (R109, R37, R193) -/

/-- The bay of a side of a channel, A 0 and B 1. -/
def sideBay (c : ChanId) (side : Byte) : Option BayId :=
  if side = 0#8 then some (bayA c) else if side = 1#8 then some (bayB c) else none

/-- The channel and bay a SWITCH_FEED names. -/
def switchArgs (target : Word) (a : Args) : Option (ChanId × BayId) :=
  match targetChan target with
  | some c => (sideBay c (argByte a 0)).map fun b => (c, b)
  | none => none

/-- The answer area of a SWITCH_FEED: feed_state and closed_reason (Table 12-6). -/
def State.feedAnswer (s : State) (c : ChanId) (st : Status) : Answer :=
  answerOf st [natByte (s.chan c).feedState.code, natByte (s.chan c).closedReason.code]

/-- SWITCH_FEED at its taking (R109). -/
def State.takeSwitchFeed (s : State) (k : SlotId) (target : Word) (a : Args) : State :=
  match switchArgs target a with
  | none => s.writeAnswer k (plainAnswer .badArgument)
  | some (c, b) =>
    if s.feedingBay c = some b then s.writeAnswer k (s.feedAnswer c .done)
    else if s.eligible b then
      let s := s.feedFrom c b .ticket
      s.writeAnswer k (s.feedAnswer c .done)
    else s.writeAnswer k (s.feedAnswer c .notEligible)

/-- The latch comes on: every bay is re-evaluated, then the REFILL_MARK write wants are raised (R37). -/
def State.enforce (s : State) : State :=
  let bays := List.finRange 24
  let s := bays.foldl State.reevaluate { s with latch := true }
  bays.foldl State.raiseRefillMarkWant s

/-- ENFORCE at its taking (R37). -/
def State.takeEnforce (s : State) (k : SlotId) : State :=
  if s.latch then s.writeAnswer k (answerOf .done [1#8])
  else s.enforce.writeAnswer k (answerOf .done [0#8])

/-- The channel counters zeroed (R66, R120). -/
def Channel.zeroCounts (ch : Channel) : Channel := { ch with gapCount := 0, duplicateCount := 0, skippedSamples := 0 }

/-- The engine counters zeroed (R154). -/
def Engine.zeroCounts (x : Engine) : Engine :=
  { x with retryTally := 0#16, rollover := false, discardCount := 0, lastDiscardBay := none
           lastDiscardCause := .none }

/-- The counters of CLEAR_COUNTS zeroed (R193). -/
def State.zeroCounts (s : State) : State :=
  { s with channels := mapAll s.channels fun _ ch => ch.zeroCounts
           engines := mapAll s.engines fun _ x => x.zeroCounts
           tally := { tallyCrcErrors := 0, strayTallies := 0 }
           port := { s.port with ignoredHandWrites := 0, postedRejects := 0 } }

/-- CLEAR_COUNTS at its taking (R193). -/
def State.takeClearCounts (s : State) (k : SlotId) : State :=
  s.zeroCounts.writeAnswer k (plainAnswer .done)

/-! ### SELF_TEST (R202 to R208) -/

/-- V of the fixed frame and profile of code 2 (R204). -/
def codeTwoVolume : Nat := swathVolume 16777215 1000000 3 27 65 1023 (factorOf (-32) (clampTemp 200))

/-- The built-in value of code 2 (R204). -/
def codeTwoExpected : Nat := 267882546

/-- The discrepancies of code 3, in order (R205). -/
def codeThreeSamples : List Int := [30, 24, -40, 25, 60, -5, 100, 41]

/-- The counts of the code 3 copy after its samples, with tolerance 24 (R205). -/
def codeThreeCounts : WindowCounts :=
  codeThreeSamples.foldl (fun w d => w.add (classOf d 24)) ⟨0, 0, 0⟩

/-- live REFILL_SENSE of the code 3 copy, window 8. -/
def codeThreeRefill : Bool := majority codeThreeCounts.pos 8

/-- live LEAK_SENSE of the code 3 copy, window 8. -/
def codeThreeLeak : Bool := majority codeThreeCounts.neg 8

/-- The code 3 test passes: the window ended at the eighth sample with REFILL_SENSE set and LEAK_SENSE
clear. -/
def codeThreePass : Bool := decide (codeThreeCounts.count = 8) && codeThreeRefill && !codeThreeLeak

/-- The detail of a code 3 answer (Table 12-6). -/
def codeThreeDetail : List Byte :=
  [natByte codeThreeCounts.pos, natByte codeThreeCounts.neg, flagByte [codeThreeRefill, codeThreeLeak]]

/-- The request of code 5 (R206). -/
def codeFiveRequest : AuthRequest := ⟨none, Config.fusedSerial, Config.fusedInk, Config.fusedChallenge⟩

/-- A SELF_TEST that names no bay, at its taking (R202 to R207). -/
def State.takePlainTest (s : State) (k : SlotId) (code : Byte) : State :=
  if namesTest code = false ∨ code = 9#8 then s.writeAnswer k (plainAnswer .badArgument)
  else if s.selfTest.running then s.writeAnswer k (plainAnswer .busy)
  else
    let s := s.startTest k code.toNat none
    if code = 2#8 then s.decideTest k (decide (codeTwoVolume = codeTwoExpected)) (beBytes 8 codeTwoVolume)
    else if code = 3#8 then s.decideTest k codeThreePass codeThreeDetail
    else if code = 5#8 then { s with auth := s.auth.join codeFiveRequest }
    else s.joinStore (.selfTest k)

/-- A SELF_TEST with code 9 and a bay, at its taking (R202, R208). -/
def State.takeLoopTest (s : State) (k : SlotId) (b : BayId) : State :=
  let s := s.joinOrder k b
  if s.selfTest.running then s.finishTicket k (plainAnswer .busy)
  else if (s.bay b).state.vacant then s.finishTicket k (plainAnswer .bayEmpty)
  else
    (s.startTest k 9 (some b)).placeTagWork
      { slot := k, selfTest := true, bay := b, block := 0, firstCopy := none }

/-- SELF_TEST at its taking (R202). A code 9 with a bay above 23 names no bay. -/
def State.takeSelfTest (s : State) (k : SlotId) (a : Args) : State :=
  if argByte a 0 = 9#8 then
    match bayOfNat (argByte a 1).toNat with
    | some b => s.takeLoopTest k b
    | none => s.writeAnswer k (plainAnswer .badArgument)
  else s.takePlainTest k (argByte a 0)

/-! ### Taking (R182, R186, R187) -/

/-- The marking of a slot at the taking: the copy, status NONE, answer zero, TAKEN (R182). -/
def State.markTaken (s : State) (k : SlotId) : State :=
  s.updSlot k fun x =>
    { x with hand := .taken, status := 0#16, answer := Vector.replicate 30 0#8
             copy := some { kind := x.kind, target := x.target, args := x.args, bay := none
                            result := none } }

/-- The freeing of a posted ticket (R182, R187). -/
def State.freePosted (s : State) (k : SlotId) : State :=
  s.updSlot k fun x => { x with hand := .free, copy := none }

/-- A taken ticket of a kind handed to its owner. -/
def State.applyKind (s : State) (k : SlotId) (kind : Kind) (target : Word) (a : Args) : State :=
  match kind with
  | .tallyPost => (s.takeTallyPost target a).freePosted k
  | .purgePost => (s.takePurge target a).freePosted k
  | .setProfile => s.takeSetProfile k target a
  | .checkStore => s.takeCheckStore k a
  | .readTagBlock => s.takeReadTag k target a
  | .historyQuery => s.takeHistoryQuery k a
  | .forgetSerial => s.takeForget k a
  | .clearHeld => s.takeClearHeld k target
  | .switchFeed => s.takeSwitchFeed k target a
  | .enforce => s.takeEnforce k
  | .selfTest => s.takeSelfTest k a
  | .clearCounts => s.takeClearCounts k

/-- A taken ticket decoded by its kind field (R186). -/
def State.applyTicket (s : State) (k : SlotId) (kind target : Word) (a : Args) : State :=
  match decodeKind kind with
  | .kind x => s.applyKind k x target a
  | .postedUnknown => s.countReject.freePosted k
  | .unknown => s.writeAnswer k (plainAnswer .badKind)

/-- The taking of a FILLED slot (R182). -/
def State.takeTicket (s : State) (k : SlotId) : State :=
  let x := s.slot k
  (s.markTaken k).applyTicket k x.kind x.target x.args

end Sys2Proof.Machine
end

