-- ==== Sys2Proof/Machine/Startup.lean ====
section
/-! DEFINITION. Presence, and the event at which the part becomes READY (R18, R19, R21, R185, R199). -/

namespace Sys2Proof.Machine

/-- A bay enters SETTLING with a full settle timer (R18, R19, R21). -/
def State.beginSettling (s : State) (b : BayId) : State :=
  let expiry := s.outside.now + Config.settleTime
  (s.updBay b fun x => { x with settleTimer := some expiry }).moveBay b .settling

/-- The reading of one presence input at READY (R21). -/
def State.readPresence (s : State) (b : BayId) : State :=
  if s.outside.presence[b] ∧ (s.bay b).state = .empty then s.beginSettling b else s

/-- A ticket or a journal-due item waits for the flash (R157). -/
def State.flashAwaited (s : State) : Bool := !s.store.tickets.isEmpty || s.itemsWait

/-- A listed slot taken as if it had arrived at that moment: work it brings reaches an idle flash at once, while
every bay is EMPTY (R157, R185, R199). -/
def State.takeArrival (s : State) (k : SlotId) : State :=
  let t := s.takeTicket k
  if t.flashAwaited then t.advanceStore s else t

/-- The listed slots taken in list order (R185). -/
def State.takeArrivals (s : State) : State :=
  s.port.arrivals.foldl State.takeArrival (s.updPort fun p => { p with arrivals := [] })

/-- The steps of R199 after the rebuild: READY, the listed tickets, the presence inputs, the STORE notice. -/
def State.enterReady (s : State) : State :=
  let s := s.updPort fun p => { p with partState := .ready }
  let s := (List.finRange 24).foldl State.readPresence s.takeArrivals
  if s.store.profileState = .damaged then s.raise .store else s

/-- The rebuild completes and the part becomes READY; its records are published against what the start-up writing
left (R181, R199). -/
def State.becomeReady (s : State) : State :=
  let r := s.rebuild.writeRecords
  let t := r.enterReady
  (t.advanceWork t).publishSince r

end Sys2Proof.Machine
end

