-- ==== Sys2Proof/Machine/BayEvents.lean ====
section
/-! DEFINITION. The meanings of the presence inputs, the bay timers, the authentication engine and the tags:
PRESENCE_ACTIVE, BAY_REMOVAL, SETTLE_TIMER_EXPIRY, SENSE_TIMER_EXPIRY, AUTH_COMPUTATION_COMPLETE,
TAG_WORK_COMPLETE. -/

namespace Sys2Proof.Machine

/-! ### Presence -/

/-- A cartridge seated: the presence input is active and its tag powered, fresh (R5). -/
def State.seat (s : State) (b : BayId) (c : Cartridge) : State :=
  s.updOutside fun o =>
    { o with presence := updAt o.presence b fun _ => true, tags := updAt o.tags b fun _ => some (Tag.fresh c) }

/-- A cartridge pulled: the presence input is inactive, its tag has lost power and with it its volatile memory,
and the cartridge is kept as that left it (R5). -/
def State.unseat (s : State) (b : BayId) : State :=
  let d := s.outside.cutDraws
  let gone := s.outside.tags[b].map fun t => t.losePower d
  s.updOutside fun o =>
    { o with presence := updAt o.presence b fun _ => false, tags := updAt o.tags b fun _ => none
             pulled := gone.toList ++ o.pulled, cutDraws := o.cutDraws + 1 }

/-- The cartridge a seating names, where there is one. -/
def State.seatingOf (s : State) : Seating → Option Cartridge
  | .pulled i => s.outside.pulled[i]?
  | .other c => some c

/-- A pulled cartridge that is seated is no longer among those pulled. -/
def State.takeUpPulled (s : State) : Seating → State
  | .pulled i => s.updOutside fun o => { o with pulled := o.pulled.eraseIdx i }
  | .other _ => s

/-- PRESENCE_ACTIVE: an EMPTY bay of a READY part enters SETTLING; otherwise only the pin and the tag change
(R19, R21). -/
def execPresenceActive (b : BayId) (seating : Seating) (s : State) : Host.Outcome State Fault Refusal :=
  .next (if s.outside.presence[b] then s
    else
      match s.seatingOf seating with
      | none => s
      | some c =>
        let t := (s.takeUpPulled seating).seat b c
        if s.port.partState = .ready ∧ (s.bay b).state = .empty then (t.beginSettling b).endQuiet s else t)

/-- The history entry of a removed bay: book and pending written, no longer installed, journal-due (R34
step 3, R51). -/
def State.unlinkEntry (s : State) (b : BayId) : State :=
  match (s.bay b).entry with
  | none => s
  | some serial =>
    let x := s.bay b
    (s.updEntry serial fun e =>
      { e with book := x.book, owed := x.pending, installedBay := none }).makeDue serial

/-- The context of a removed bay: the defaults, but for burn_token (R34 steps 5 to 7, R115). -/
def State.clearBay (s : State) (b : BayId) : State :=
  (s.updBay b fun x => { Bay.default with burnToken := x.burnToken }).raise .bay

/-- The removal of a bay that is not EMPTY (R34). Its engine arbitrates at the end of the event, after the feed's
switch and what that raises: DESIGN CHOICE, log entry 42 (R149). -/
def State.removeBay (s : State) (b : BayId) : State :=
  let fed := decide ((s.bay b).state = .feeding)
  let s := (((s.removeAtEngine b).withdrawAuth b).unlinkEntry b).clearBay b
  let s := if fed then s.feedLost b .removed else s
  s.serveBay b

/-- BAY_REMOVAL: the presence input goes inactive (R19, R20, R34). -/
def execBayRemoval (b : BayId) (s : State) : Host.Outcome State Fault Refusal :=
  .next (if s.outside.presence[b] then
      let t := s.unseat b
      if (s.bay b).state = .empty then t else (t.removeBay b).endEvent s
    else s)

/-! ### Timers -/

/-- SETTLE_TIMER_EXPIRY (R20). -/
def execSettleTimerExpiry (b : BayId) (s : State) : Host.Outcome State Fault Refusal :=
  .next (match (s.bay b).state, (s.bay b).settleTimer with
    | .settling, some expiry =>
      let t := (s.atTime expiry).updBay b fun x => { x with settleTimer := none }
      ((t.moveBay b .identifying).wantStep b .readIdentity).endEvent s
    | _, _ => s)

/-- SENSE_TIMER_EXPIRY: the timer stops and the bay raises its sense want (R118). -/
def execSenseTimerExpiry (b : BayId) (s : State) : Host.Outcome State Fault Refusal :=
  .next (match (s.bay b).sense.timer with
    | some expiry =>
      ((s.atTime expiry).updBay b fun x =>
        { x with sense := { x.sense with timer := none }, wants := { x.wants with sense := true } }).endEvent s
    | none => s)

/-! ### The authentication engine and the tags -/

/-- The result of a computation handed to its origin (R24, R25, R206). -/
def State.handResult (s : State) (r : AuthRequest) (result : Bytes16) : State :=
  match r.origin with
  | some b => if (s.bay b).state = .challenging then s.gotExpected b result else s
  | none =>
    match s.selfTest.slot with
    | some k => s.decideTest k (decide (result = Config.fusedExpected)) []
    | none => s

/-- AUTH_COMPUTATION_COMPLETE: the result goes to its origin unless the request was withdrawn, and the next
request begins (R24). -/
def execAuthComputationComplete (s : State) : Host.Outcome State Fault Refusal :=
  .next (match s.auth.current with
    | none => s
    | some (r, withdrawn) =>
      let t := { s with auth := { s.auth with current := none } }
      let t := if withdrawn then t
        else t.handResult r (Config.keyedResponse r.serial r.inkType r.challenge)
      { t with auth := t.auth.begin }.endEvent s)

/-- TAG_WORK_COMPLETE: the working tag of a bay becomes ready (R5). -/
def execTagWorkComplete (b : BayId) (s : State) : Host.Outcome State Fault Refusal :=
  .next (s.updTag b Tag.finish)

end Sys2Proof.Machine
end

