-- ==== Sys2Proof/Machine/EngineEvents.lean ====
section
/-! DEFINITION. The meanings of the tag bus engines' events: TAG_ANSWER_FRAME, ANSWER_WINDOW_TIMEOUT,
RETRY_GAP_EXPIRY. -/

namespace Sys2Proof.Machine

/-- The frame that reaches the engine: what the seated tag sent, or another one. -/
def State.received (s : State) (b : BayId) (r : Reception) : Option AnswerFrame :=
  match r with
  | .asSent => s.outside.tags[b].bind (·.reply)
  | .other f => some f

/-- TAG_ANSWER_FRAME: a complete frame ends the attempt on the line (R14, R137). A frame while no attempt is
on the line is ignored. -/
def execTagAnswerFrame (e : EngId) (frame : Reception) (time : Nat) (s : State) :
    Host.Outcome State Fault Refusal :=
  .next (match (s.eng e).activity with
    | .attempt t =>
      match s.received t.bay frame with
      | some f => ((s.atTime time).endAttempt e t (classify t.command f)).endTimed s
      | none => s
    | .gap _ _ | .idle => s)

/-- ANSWER_WINDOW_TIMEOUT: the attempt is a TIMEOUT (R14, R137). -/
def execAnswerWindowTimeout (e : EngId) (time : Nat) (s : State) : Host.Outcome State Fault Refusal :=
  .next (match (s.eng e).activity with
    | .attempt t => ((s.atTime time).endAttempt e t .timeout).endTimed s
    | .gap _ _ | .idle => s)

/-- RETRY_GAP_EXPIRY: the next attempt is sent and counted (R137, R141). -/
def execRetryGapExpiry (e : EngId) (s : State) : Host.Outcome State Fault Refusal :=
  .next (match (s.eng e).activity with
    | .gap t ends => ((s.atTime ends).retry e t).endQuiet s
    | .attempt _ | .idle => s)

end Sys2Proof.Machine
end

