-- ==== Sys2Proof/Machine/Port.lean ====
section
/-! DEFINITION. Host writes: hand words, the request area of a slot, the registers, and every other address
(R178, R179, R183 to R185, R194 to R196, R198). -/

namespace Sys2Proof.Machine

/-! ### Hand words (R183) -/

/-- The word FREE. -/
def freeWord : Word := Hand.code .free

/-- The word FILLED. -/
def filledWord : Word := Hand.code .filled

/-- The end of an arrival's event, by what its ticket can raise. -/
def State.endTaking (s before : State) (kind : Word) : State :=
  match decodeKind kind with
  | .kind .setProfile | .kind .checkStore | .kind .forgetSerial => s.endStore before
  | .kind .historyQuery | .kind .clearCounts | .postedUnknown | .unknown => s.endQuiet before
  | .kind .tallyPost | .kind .purgePost | .kind .readTagBlock | .kind .clearHeld | .kind .switchFeed
  | .kind .enforce | .kind .selfTest => s.endEvent before

/-- The hand of a slot set. -/
def State.setHand (s : State) (k : SlotId) (h : Hand) : State := s.updSlot k fun x => { x with hand := h }

/-- A slot joins the tail of the arrival list (R185). -/
def State.listArrival (s : State) (k : SlotId) : State :=
  s.updPort fun p => { p with arrivals := p.arrivals ++ [k] }

/-- An arrival: taken while READY, listed while STARTING, and neither while a soft reset is pending (R184,
R185). -/
def State.arrive (s : State) (k : SlotId) : State :=
  let t := s.setHand k .filled
  if s.port.resetPending then t
  else
    match s.port.partState with
    | .ready => (t.takeTicket k).endTaking s (s.slot k).kind
    | .starting => (t.listArrival k).endQuiet s

/-- A withdrawal: the slot leaves the arrival list, those behind it keep their order (R183, R185). -/
def State.withdraw (s : State) (k : SlotId) : State :=
  ((s.setHand k .free).updPort fun p => { p with arrivals := p.arrivals.filter fun x => x != k }).endQuiet s

/-- A release: only the hand changes (R183). -/
def State.releaseSlot (s : State) (k : SlotId) : State := s.setHand k .free

/-- A hand write that is none of the three, counted (R183). -/
def State.ignoreWrite (s : State) : State :=
  (s.updPort fun p => { p with ignoredHandWrites := satAdd top16 p.ignoredHandWrites 1 }).endQuiet s

/-- A host write to a hand word (R183). -/
def State.handWrite (s : State) (k : SlotId) (v : Word) : State :=
  match (s.slot k).hand with
  | .free => if v = filledWord then s.arrive k else s.ignoreWrite
  | .filled => if v = freeWord then s.withdraw k else s.ignoreWrite
  | .answered => if v = freeWord then s.releaseSlot k else s.ignoreWrite
  | .taken => s.ignoreWrite

/-! ### The request area (R179) -/

/-- The request area takes host writes. -/
def Slot.writable (x : Slot) : Bool :=
  match x.hand with
  | .free | .filled => true
  | .taken | .answered => false

/-- A host write to the request area: applied while the hand is FREE or FILLED, discarded otherwise. -/
def State.writeRequest (s : State) (k : SlotId) (f : Slot → Slot) : State :=
  if (s.slot k).writable then s.updSlot k f else s

/-- A ticket left in a slot: its kind, target and arguments written, then FILLED to its hand. -/
def State.post (s : State) (k : SlotId) (kind target : Word) (a : Args) : State :=
  (s.writeRequest k fun x => { x with kind := kind, target := target, args := a }).handWrite k filledWord

/-- Two bytes of the argument area, at an even offset from it, replaced by a word. -/
def setArgs (a : Args) (off : Nat) (v : Word) : Args :=
  Vector.ofFn fun i =>
    if i.val = off then v.extractLsb' 8 8 else if i.val = off + 1 then v.extractLsb' 0 8 else a[i]

/-- A host write to a word of a slot, `off` from its start. -/
def State.writeSlot (s : State) (k : SlotId) (off : Nat) (v : Word) : State :=
  if off = 0 then s.handWrite k v
  else if off = 2 then s.writeRequest k fun x => { x with kind := v }
  else if off = 4 then s.writeRequest k fun x => { x with target := v }
  else if off < 32 then s.writeRequest k fun x => { x with args := setArgs x.args (off - 6) v }
  else s

/-! ### Registers (R194, R195, R196, R198) -/

/-- The notice kinds a word names: bits 7 to 0. -/
def noticeBits (v : Word) : Byte := v.setWidth 8

/-- NOTICE_CLEAR. -/
def State.clearNotices (s : State) (v : Word) : State :=
  s.updPort fun p => { p with notices := p.notices &&& ~~~noticeBits v }

/-- NOTICE_ENABLE. -/
def State.setEnables (s : State) (v : Word) : State := s.updPort fun p => { p with enables := noticeBits v }

/-- NOTICE_ROUTE. -/
def State.setRoutes (s : State) (v : Word) : State := s.updPort fun p => { p with routes := noticeBits v }

/-- RESET_REQ: 0x0001 requests a soft reset, other values are discarded. -/
def State.writeResetReq (s : State) (v : Word) : State := if v = 1#16 then s.requestReset else s

/-- A host write to a register. -/
def State.writeRegister (s : State) (a : Nat) (v : Word) : State :=
  if a = 0x2006 then s.clearNotices v
  else if a = 0x2008 then s.setEnables v
  else if a = 0x200A then s.setRoutes v
  else if a = 0x200C then s.writeResetReq v
  else s

/-! ### Any address (Table 10-1) -/

/-- A host write of one word: filtered by the region of its address (R178, R179). -/
def State.writeWord (s : State) (a : Nat) (v : Word) : State :=
  if h : 0x1000 ≤ a ∧ a < 0x1800 then s.writeSlot ⟨(a - 0x1000) / 64, by omega⟩ (a % 64) v
  else s.writeRegister a v

end Sys2Proof.Machine
end

