-- ==== Sys2Proof/Machine/HostWrites.lean ====
section
/-! DEFINITION. The meanings of the host's writes to hand words, registers and every other address. A hand
write is taken by R183 whatever the row it is given under; the rows name the cases of R183. -/

namespace Sys2Proof.Machine

/-- ARRIVAL_WHILE_STARTING: a write of FILLED to a hand (R185). -/
def execArrivalWhileStarting (slot : SlotId) (s : State) : Host.Outcome State Fault Refusal :=
  .next (s.handWrite slot filledWord)

/-- ARRIVAL_WHILE_RESET_PENDING: a write of FILLED to a hand (R184). -/
def execArrivalWhileResetPending (slot : SlotId) (s : State) : Host.Outcome State Fault Refusal :=
  .next (s.handWrite slot filledWord)

/-- WITHDRAWAL: a write of FREE to a hand (R183). -/
def execWithdrawal (slot : SlotId) (s : State) : Host.Outcome State Fault Refusal :=
  .next (s.handWrite slot freeWord)

/-- RELEASE: a write of FREE to a hand (R183). -/
def execRelease (slot : SlotId) (s : State) : Host.Outcome State Fault Refusal :=
  .next (s.handWrite slot freeWord)

/-- IGNORED_HAND_WRITE: a write of any value to a hand (R183). -/
def execIgnoredHandWrite (slot : SlotId) (value : Word) (s : State) : Host.Outcome State Fault Refusal :=
  .next (s.handWrite slot value)

/-- HOST_WRITE: a write of one word at any address (R178, R179). -/
def execHostWrite (address : Nat) (value : Word) (s : State) : Host.Outcome State Fault Refusal :=
  .next (s.writeWord (address / 2 * 2) value)

/-- NOTICE_CLEAR (R194). -/
def execNoticeClear (value : Word) (s : State) : Host.Outcome State Fault Refusal := .next (s.clearNotices value)

/-- NOTICE_ENABLE (R195). -/
def execNoticeEnable (value : Word) (s : State) : Host.Outcome State Fault Refusal := .next (s.setEnables value)

/-- NOTICE_ROUTE (R195). -/
def execNoticeRoute (value : Word) (s : State) : Host.Outcome State Fault Refusal := .next (s.setRoutes value)

end Sys2Proof.Machine
end

