-- ==== Sys2Proof/Machine/LineEvents.lean ====
section
/-! DEFINITION. The meanings of the tally link, the settle interval and the power-fail input: TALLY_FRAME,
TALLY_LINK_PAUSE_TIMEOUT, TALLY_FRAME_BROKEN, SETTLE_INTERVAL_EXPIRY, PFW_ACTIVE, PFW_INACTIVE. -/

namespace Sys2Proof.Machine

/-- TALLY_FRAME: a complete frame on the link (R61 to R65). -/
def execTallyFrame (frame : LinkFrame) (s : State) : Host.Outcome State Fault Refusal :=
  .next ((s.takeLinkFrame frame).endEvent s)

/-- TALLY_LINK_PAUSE_TIMEOUT: an incomplete frame is discarded (R61). -/
def execTallyLinkPauseTimeout (s : State) : Host.Outcome State Fault Refusal :=
  .next (s.countTallyError.endQuiet s)

/-- TALLY_FRAME_BROKEN: an incomplete frame is discarded (R61, R212). -/
def execTallyFrameBroken (s : State) : Host.Outcome State Fault Refusal :=
  .next (s.countTallyError.endQuiet s)

/-- SETTLE_INTERVAL_EXPIRY: settling becomes false (R107). -/
def execSettleIntervalExpiry (c : ChanId) (s : State) : Host.Outcome State Fault Refusal :=
  .next (match (s.chan c).settleEnd with
    | some expiry => ((s.atTime expiry).updChan c fun ch => { ch with settleEnd := none }).endQuiet s
    | none => s)

/-- The power-fail input. -/
def State.setPfw (s : State) (active : Bool) : State := s.updOutside fun o => { o with pfw := active }

/-- PFW_ACTIVE (R168). -/
def execPfwActive (s : State) : Host.Outcome State Fault Refusal :=
  .next (if s.outside.pfw then s else ((s.setPfw true).warn).endStore s)

/-- PFW_INACTIVE (R169). -/
def execPfwInactive (s : State) : Host.Outcome State Fault Refusal :=
  .next (if s.outside.pfw then ((s.setPfw false).unwarn).endStore s else s)

end Sys2Proof.Machine
end

