-- ==== Sys2Proof/Machine/Resets.lean ====
section
/-! DEFINITION. The meanings of POWER_ON_RESET, STARTUP_REBUILD_COMPLETE, RESET_REQ and SOFT_RESET. -/

namespace Sys2Proof.Machine

/-- POWER_ON_RESET: the flash operation in flight is cut, and every block takes its reset values (R156,
R197, R198). -/
def execPowerOnReset (s : State) : Host.Outcome State Fault Refusal := .next s.cutFlash.afterReset

/-- STARTUP_REBUILD_COMPLETE (R199). With a soft reset pending the end of the read is where the reset takes
effect (R198). -/
def execStartupRebuildComplete (s : State) : Host.Outcome State Fault Refusal :=
  .next (match s.port.partState with
    | .ready => s
    | .starting => if s.port.resetPending then s.afterReset else s.becomeReady)

/-- RESET_REQ (R198). -/
def execResetReq (value : Word) (s : State) : Host.Outcome State Fault Refusal :=
  .next (if value = 1#16 then s.requestReset else s)

/-- SOFT_RESET: a pending soft reset takes effect once no flash operation is in flight (R197, R198). -/
def execSoftReset (s : State) : Host.Outcome State Fault Refusal :=
  .next (if s.port.resetPending ∧ s.store.op = none then s.afterReset else s)

end Sys2Proof.Machine
end

