-- ==== Sys2Proof/Machine/StoreEvents.lean ====
section
/-! DEFINITION. The meanings of the ends of flash operations: RECORD_PROGRAM, HEADER_PROGRAM, SECTOR_ERASE,
PROFILE_REWRITE, CHECK_STORE_READ, PROFILE_SECTOR_READ. Each acts only where an operation of its kind is in
flight. `readBack` is what the slot reads back where that is not what was written. -/

namespace Sys2Proof.Machine

/-- RECORD_PROGRAM (R161, R162). -/
def execRecordProgram (readBack : Option Block) (s : State) : Host.Outcome State Fault Refusal :=
  .next (match s.store.op with
    | some (.append j slot r) => (s.endAppend j slot r (readBack.getD r.block)).endFlash s
    | _ => s)

/-- HEADER_PROGRAM (R159). -/
def execHeaderProgram (readBack : Option Block) (s : State) : Host.Outcome State Fault Refusal :=
  .next (match s.store.op with
    | some (.header j seq) => (s.endHeader j seq (readBack.getD (headerBlock seq))).endFlash s
    | _ => s)

/-- SECTOR_ERASE (R165, R166). -/
def execSectorErase (left : List (Nat × Byte)) (s : State) : Host.Outcome State Fault Refusal :=
  .next (match s.store.op with
    | some (.erase j) => (s.endErase j left).endFlash s
    | _ => s)

/-- PROFILE_REWRITE (R174). -/
def execProfileRewrite (result : RewriteEnd) (s : State) : Host.Outcome State Fault Refusal :=
  .next (match s.store.op with
    | some (.profileRewrite k c p) => (s.endRewrite k c p result).endFlash s
    | _ => s)

/-- CHECK_STORE_READ (R175). -/
def execCheckStoreRead (s : State) : Host.Outcome State Fault Refusal :=
  .next (match s.store.op with
    | some (.checkRead k first last) => (s.endCheck k first last).endFlash s
    | _ => s)

/-- PROFILE_SECTOR_READ (R207). -/
def execProfileSectorRead (s : State) : Host.Outcome State Fault Refusal :=
  .next (match s.store.op with
    | some (.profileRead k) => (s.endProfileRead k).endFlash s
    | _ => s)

end Sys2Proof.Machine
end

