-- ==== Sys2Proof/Machine/TicketCommands.lean ====
section
/-! DEFINITION. The meanings of the tickets: the host's writes that leave one in a slot, and its arrival. -/

namespace Sys2Proof.Machine

/-- TALLY_POST (R64). -/
def execTallyPost (slot : SlotId) (target : Word) (args : Args) (s : State) : Host.Outcome State Fault Refusal :=
  .next (s.post slot (Kind.code .tallyPost) target args)

/-- PURGE_POST (R75). -/
def execPurgePost (slot : SlotId) (target : Word) (args : Args) (s : State) : Host.Outcome State Fault Refusal :=
  .next (s.post slot (Kind.code .purgePost) target args)

/-- POSTED_REJECT: a kind of the posted range (R187). -/
def execPostedReject (slot : SlotId) (kind target : Word) (args : Args) (s : State) :
    Host.Outcome State Fault Refusal :=
  .next (s.post slot kind target args)

/-- BAD_KIND: a kind of neither range (R186). -/
def execBadKind (slot : SlotId) (kind target : Word) (args : Args) (s : State) :
    Host.Outcome State Fault Refusal :=
  .next (s.post slot kind target args)

/-- SET_PROFILE (R173). -/
def execSetProfile (slot : SlotId) (target : Word) (args : Args) (s : State) : Host.Outcome State Fault Refusal :=
  .next (s.post slot (Kind.code .setProfile) target args)

/-- CHECK_STORE (R175). -/
def execCheckStore (slot : SlotId) (target : Word) (args : Args) (s : State) : Host.Outcome State Fault Refusal :=
  .next (s.post slot (Kind.code .checkStore) target args)

/-- READ_TAG_BLOCK (R150). -/
def execReadTagBlock (slot : SlotId) (target : Word) (args : Args) (s : State) : Host.Outcome State Fault Refusal :=
  .next (s.post slot (Kind.code .readTagBlock) target args)

/-- HISTORY_QUERY (R55). -/
def execHistoryQuery (slot : SlotId) (target : Word) (args : Args) (s : State) : Host.Outcome State Fault Refusal :=
  .next (s.post slot (Kind.code .historyQuery) target args)

/-- FORGET_SERIAL (R56, R57). -/
def execForgetSerial (slot : SlotId) (target : Word) (args : Args) (s : State) : Host.Outcome State Fault Refusal :=
  .next (s.post slot (Kind.code .forgetSerial) target args)

/-- CLEAR_HELD (R133, R190). -/
def execClearHeld (slot : SlotId) (target : Word) (args : Args) (s : State) : Host.Outcome State Fault Refusal :=
  .next (s.post slot (Kind.code .clearHeld) target args)

/-- SWITCH_FEED (R109). -/
def execSwitchFeed (slot : SlotId) (target : Word) (args : Args) (s : State) : Host.Outcome State Fault Refusal :=
  .next (s.post slot (Kind.code .switchFeed) target args)

/-- ENFORCE (R37). -/
def execEnforce (slot : SlotId) (target : Word) (args : Args) (s : State) : Host.Outcome State Fault Refusal :=
  .next (s.post slot (Kind.code .enforce) target args)

/-- CLEAR_COUNTS (R193). -/
def execClearCounts (slot : SlotId) (target : Word) (args : Args) (s : State) : Host.Outcome State Fault Refusal :=
  .next (s.post slot (Kind.code .clearCounts) target args)

/-- A SELF_TEST left in a slot. -/
def State.postTest (s : State) (k : SlotId) (code bay : Byte) : State :=
  s.post k (Kind.code .selfTest) 0#16 (selfTestArgs code bay)

/-- SELF_TEST_CODE_2 (R202, R204). -/
def execSelfTestCode2 (slot : SlotId) (bay : Byte) (s : State) : Host.Outcome State Fault Refusal :=
  .next (s.postTest slot 2#8 bay)

/-- SELF_TEST_CODE_3 (R202, R205). -/
def execSelfTestCode3 (slot : SlotId) (bay : Byte) (s : State) : Host.Outcome State Fault Refusal :=
  .next (s.postTest slot 3#8 bay)

/-- SELF_TEST_CODE_5 (R202, R206). -/
def execSelfTestCode5 (slot : SlotId) (bay : Byte) (s : State) : Host.Outcome State Fault Refusal :=
  .next (s.postTest slot 5#8 bay)

/-- SELF_TEST_CODE_6 (R202, R207). -/
def execSelfTestCode6 (slot : SlotId) (bay : Byte) (s : State) : Host.Outcome State Fault Refusal :=
  .next (s.postTest slot 6#8 bay)

/-- SELF_TEST_CODE_9 (R202, R208). -/
def execSelfTestCode9 (slot : SlotId) (bay : Byte) (s : State) : Host.Outcome State Fault Refusal :=
  .next (s.postTest slot 9#8 bay)

/-- SELF_TEST_BAD_CODE (R202). -/
def execSelfTestBadCode (slot : SlotId) (code bay : Byte) (s : State) : Host.Outcome State Fault Refusal :=
  .next (s.postTest slot code bay)

end Sys2Proof.Machine
end

