-- ==== Sys2Proof/Machine/Dispatch.lean ====
section
/-! DEFINITION. The dispatch: one arm for each command. -/

namespace Sys2Proof.Machine

def exec (i : Instr) (s : State) : Host.Outcome State Fault Refusal :=
  match i with
  | .powerOnReset => Sys2Proof.Machine.execPowerOnReset s
  | .startupRebuildComplete => Sys2Proof.Machine.execStartupRebuildComplete s
  | .presenceActive bay seating => Sys2Proof.Machine.execPresenceActive bay seating s
  | .bayRemoval bay => Sys2Proof.Machine.execBayRemoval bay s
  | .settleTimerExpiry bay => Sys2Proof.Machine.execSettleTimerExpiry bay s
  | .tallyFrame frame => Sys2Proof.Machine.execTallyFrame frame s
  | .tallyLinkPauseTimeout => Sys2Proof.Machine.execTallyLinkPauseTimeout s
  | .tallyFrameBroken => Sys2Proof.Machine.execTallyFrameBroken s
  | .pfwActive => Sys2Proof.Machine.execPfwActive s
  | .pfwInactive => Sys2Proof.Machine.execPfwInactive s
  | .arrivalWhileStarting slot => Sys2Proof.Machine.execArrivalWhileStarting slot s
  | .arrivalWhileResetPending slot => Sys2Proof.Machine.execArrivalWhileResetPending slot s
  | .withdrawal slot => Sys2Proof.Machine.execWithdrawal slot s
  | .release slot => Sys2Proof.Machine.execRelease slot s
  | .ignoredHandWrite slot value => Sys2Proof.Machine.execIgnoredHandWrite slot value s
  | .hostWrite address value => Sys2Proof.Machine.execHostWrite address value s
  | .tallyPost slot target args => Sys2Proof.Machine.execTallyPost slot target args s
  | .purgePost slot target args => Sys2Proof.Machine.execPurgePost slot target args s
  | .postedReject slot kind target args => Sys2Proof.Machine.execPostedReject slot kind target args s
  | .badKind slot kind target args => Sys2Proof.Machine.execBadKind slot kind target args s
  | .setProfile slot target args => Sys2Proof.Machine.execSetProfile slot target args s
  | .checkStore slot target args => Sys2Proof.Machine.execCheckStore slot target args s
  | .readTagBlock slot target args => Sys2Proof.Machine.execReadTagBlock slot target args s
  | .historyQuery slot target args => Sys2Proof.Machine.execHistoryQuery slot target args s
  | .forgetSerial slot target args => Sys2Proof.Machine.execForgetSerial slot target args s
  | .clearHeld slot target args => Sys2Proof.Machine.execClearHeld slot target args s
  | .switchFeed slot target args => Sys2Proof.Machine.execSwitchFeed slot target args s
  | .enforce slot target args => Sys2Proof.Machine.execEnforce slot target args s
  | .clearCounts slot target args => Sys2Proof.Machine.execClearCounts slot target args s
  | .selfTestCode2 slot bay => Sys2Proof.Machine.execSelfTestCode2 slot bay s
  | .selfTestCode3 slot bay => Sys2Proof.Machine.execSelfTestCode3 slot bay s
  | .selfTestCode5 slot bay => Sys2Proof.Machine.execSelfTestCode5 slot bay s
  | .selfTestCode6 slot bay => Sys2Proof.Machine.execSelfTestCode6 slot bay s
  | .selfTestCode9 slot bay => Sys2Proof.Machine.execSelfTestCode9 slot bay s
  | .noticeClear value => Sys2Proof.Machine.execNoticeClear value s
  | .noticeEnable value => Sys2Proof.Machine.execNoticeEnable value s
  | .noticeRoute value => Sys2Proof.Machine.execNoticeRoute value s
  | .resetReq value => Sys2Proof.Machine.execResetReq value s
  | .softReset => Sys2Proof.Machine.execSoftReset s
  | .tagAnswerFrame engine frame time => Sys2Proof.Machine.execTagAnswerFrame engine frame time s
  | .answerWindowTimeout engine time => Sys2Proof.Machine.execAnswerWindowTimeout engine time s
  | .retryGapExpiry engine => Sys2Proof.Machine.execRetryGapExpiry engine s
  | .authComputationComplete => Sys2Proof.Machine.execAuthComputationComplete s
  | .senseTimerExpiry bay => Sys2Proof.Machine.execSenseTimerExpiry bay s
  | .settleIntervalExpiry channel => Sys2Proof.Machine.execSettleIntervalExpiry channel s
  | .recordProgram readBack => Sys2Proof.Machine.execRecordProgram readBack s
  | .headerProgram readBack => Sys2Proof.Machine.execHeaderProgram readBack s
  | .sectorErase left => Sys2Proof.Machine.execSectorErase left s
  | .profileRewrite result => Sys2Proof.Machine.execProfileRewrite result s
  | .checkStoreRead => Sys2Proof.Machine.execCheckStoreRead s
  | .profileSectorRead => Sys2Proof.Machine.execProfileSectorRead s
  | .selfTestBadCode slot code bay => Sys2Proof.Machine.execSelfTestBadCode slot code bay s
  | .tagWorkComplete bay => Sys2Proof.Machine.execTagWorkComplete bay s

end Sys2Proof.Machine
end

