-- ==== Sys2Proof/Machine/Lines.lean ====
section
/-! DEFINITION. The coding of the tally link and of the tag lines: the start pattern, the bits of a byte, what makes a
frame complete and what breaks it, and the commands a run of bits amounts to (R61, R212). -/

namespace Sys2Proof.Machine

/-! ### Sending -/

/-- The start pattern: sixteen 1 bits, then a 0 bit (R212). -/
def startPattern : List Bool := List.replicate 16 true ++ [false]

/-- The eight data bits of a byte, most significant first (R212). -/
def dataBits (b : Byte) : List Bool := [7, 6, 5, 4, 3, 2, 1, 0].map b.getLsbD

/-- The bits of a byte on a line: its data bits, then the closing 0 bit (R212). -/
def byteBits (b : Byte) : List Bool := dataBits b ++ [false]

/-- The bits of a frame on a line, opened by the start pattern (R212). -/
def lineBits (l : List Byte) : List Bool := startPattern ++ l.flatMap byteBits

/-- The bytes of an answer frame: code, length, payload and CRC (R212). -/
def answerBytes (f : AnswerFrame) : List Byte := coveredBytes f ++ beBytes 2 f.crc.toNat

/-- The bits of a command frame on a tag line (R6, R212). -/
def TagCommand.bits (c : TagCommand) : List Bool := lineBits c.frame

/-- The bits of an answer frame on a tag line (R212). -/
def answerBits (f : AnswerFrame) : List Bool := lineBits (answerBytes f)

/-! ### Receiving -/

/-- The part of a frame that has arrived: its whole bytes, and the data bits of the byte under way. -/
structure PartFrame where
  bytes : List Byte
  bits  : List Bool
deriving DecidableEq, Repr

/-- The receiver of a line: how many 1 bits stand together just now, to 16, and the frame under way. -/
structure Receiver where
  ones : Nat
  part : Option PartFrame
deriving DecidableEq, Repr

/-- A receiver with no frame under way and no 1 bit before it. -/
def Receiver.idle : Receiver := { ones := 0, part := none }

/-- What a receiver notices: a frame complete, a frame made incomplete by a bit, and one made incomplete by a pause
of 1 ms (R61, R212). -/
inductive LineEvent where
  | frame (bytes : List Byte)
  | broken
  | paused
deriving DecidableEq, Repr

/-- The byte that eight data bits spell. -/
def byteOfBits (l : List Bool) : Byte := BitVec.ofNat 8 (l.foldl (fun acc d => 2 * acc + d.toNat) 0)

/-- A bit inside a frame: a data bit, or the closing bit of a byte, where a 1 breaks the frame; a frame is complete at
the closing bit of its last byte (R212). -/
def PartFrame.hear (x : PartFrame) (whole : List Byte → Bool) (d : Bool) : Option PartFrame × Option LineEvent :=
  if x.bits.length < 8 then (some { x with bits := x.bits ++ [d] }, none)
  else if d then (none, some .broken)
  else
    let l := x.bytes ++ [byteOfBits x.bits]
    if whole l then (none, some (.frame l)) else (some { bytes := l, bits := [] }, none)

/-- One bit on the line; between frames bits are ignored up to the next start pattern (R212). A new start pattern
inside a frame has broken it at the closing bit that one of its 1 bits stands in for. -/
def Receiver.hear (r : Receiver) (whole : List Byte → Bool) (d : Bool) : Receiver × Option LineEvent :=
  let ones := if d then min 16 (r.ones + 1) else 0
  match r.part with
  | some x => ({ ones := ones, part := (x.hear whole d).1 }, (x.hear whole d).2)
  | none => ({ ones := ones, part := if !d && r.ones == 16 then some { bytes := [], bits := [] } else none }, none)

/-- A run of bits on the line, with what is noticed in order. -/
def Receiver.hearAll (r : Receiver) (whole : List Byte → Bool) : List Bool → Receiver × List LineEvent
  | [] => (r, [])
  | d :: l =>
    let x := r.hear whole d
    let y := x.1.hearAll whole l
    (y.1, x.2.toList ++ y.2)

/-- No clock edge for 1 ms: a frame under way is incomplete (R61, R212). -/
def Receiver.pause (r : Receiver) : Receiver × Option LineEvent :=
  match r.part with
  | some _ => ({ r with part := none }, some .paused)
  | none => (r, none)

/-! ### The tally link (R61, R212) -/

/-- A link frame has all its 15 bytes. -/
def linkWhole (l : List Byte) : Bool := l.length == 15

/-- The command that an event on the link is. -/
def linkCommand : LineEvent → Instr
  | .frame l => .tallyFrame (fitList 15 0#8 l)
  | .broken => .tallyFrameBroken
  | .paused => .tallyLinkPauseTimeout

/-- The commands that a run of bits on the link amounts to. -/
def linkCommands (r : Receiver) (l : List Bool) : List Instr := (r.hearAll linkWhole l).2.map linkCommand

/-- The commands of a run of bits on the link join the queue. -/
def State.hearLink (s : State) (r : Receiver) (l : List Bool) : State :=
  { s with pending := s.pending ++ linkCommands r l }

/-! ### The tag lines (R14, R212) -/

/-- An answer frame has code, length L, L payload bytes and the two bytes of its CRC. -/
def answerWhole : List Byte → Bool
  | _ :: n :: rest => rest.length == n.toNat + 2
  | _ => false

/-- The answer frame that bytes spell. -/
def answerOfBytes (l : List Byte) : AnswerFrame :=
  let n := (byteAt l 1).toNat
  { code := byteAt l 0, payload := (l.drop 2).take n, crc := BitVec.ofNat 16 (fieldAt l (n + 2) 2) }

/-- The answer frame that an event on a tag line is. -/
def answerEvent : LineEvent → Option AnswerFrame
  | .frame l => some (answerOfBytes l)
  | .broken | .paused => none

/-- The answer of an attempt: the first complete frame among the bits of its window, also after one that was left
incomplete; none where no frame completes, which ends in TIMEOUT (R14, R212). -/
def answerHeard (l : List Bool) : Option AnswerFrame :=
  (Receiver.idle.hearAll answerWhole l).2.findSome? answerEvent

/-- The command an answer window brings about: the complete frame, or the window's end. -/
def windowCommand (e : EngId) (time : Nat) (l : List Bool) : Instr :=
  match answerHeard l with
  | some f => .tagAnswerFrame e (.other f) time
  | none => .answerWindowTimeout e time

end Sys2Proof.Machine
end

