-- ==== Sys2Proof/Safety.lean ====
section
/-! DEFINITION. What a sound state is, one predicate for each promise of the manual, and what the end of an
event leaves alone: the terms the statements are made in. -/

namespace Sys2Proof.Machine

/-! ### Promises about every state -/

/-- R81: `book = tag_gauge − pending`, and all three figures 0 while the gauge is not known. The two clauses
on burns are what keeps it: a burn in flight covers pending marks of a bay that is decided on, and only such
a bay holds a burn want (R83, R84). -/
def Bay.Balanced (x : Bay) : Prop :=
  x.tagGauge = x.book + x.pending ∧ (x.gaugeKnown = false → x.tagGauge = 0)
    ∧ (∀ f, x.burnInFlight = some f → f.n ≤ x.pending ∧ x.state.decided = true)
    ∧ (x.wants.burn = true → x.state.decided = true)

/-- R79: while saturated is false, total = charged + residue + unbooked; no figure passes its range. -/
def Channel.Conserved (ch : Channel) : Prop :=
  ch.total ≤ top64 ∧ (ch.saturated = false → ch.total = ch.charged + ch.residue + ch.unbooked)

/-- R96: the open side of a channel is the one whose bay is FEEDING, and no bay feeds a CLOSED channel. -/
def State.ValvesMatch (s : State) : Prop :=
  ∀ b : BayId, (s.bay b).state = .feeding ↔ s.feedingBay (chanOf b) = some b

/-- R40, R58: no two live entries carry one serial, and no more than 256 places are in use. -/
def History.Sound (h : History) : Prop :=
  (h.live.map (·.serial)).Nodup ∧ h.live.length + h.tombs.length ≤ Config.historyPlaces

/-- R185: a slot is in the arrival list at most once, only while its hand is FILLED, and the list is empty
once the part is READY. -/
def State.ArrivalsSound (s : State) : Prop :=
  s.port.arrivals.Nodup ∧ (∀ k ∈ s.port.arrivals, (s.slot k).hand = .filled)
    ∧ (s.port.partState = .ready → s.port.arrivals = [])

/-- R144: an engine's queue holds at most 6 entries. -/
def State.QueuesFit (s : State) : Prop := ∀ e, (s.eng e).queue.length ≤ Config.queueSize

/-- R145: no engine is IDLE with work waiting. -/
def State.EnginesServed (s : State) : Prop := ∀ e, (s.eng e).activity = .idle → s.chooseWork e = none

/-- R180: a host that finds an odd generation word has met a change half made; between events every word is
even. -/
def Generations.Even (g : Generations) : Prop :=
  g.header.getLsbD 0 = false ∧ (∀ c : ChanId, g.channels[c].getLsbD 0 = false)
    ∧ (∀ e : EngId, g.engines[e].getLsbD 0 = false) ∧ ∀ b : BayId, g.bays[b].getLsbD 0 = false

/-- R180: from `s` to `t`, each record whose published content changed has its generation word 2 further on, and each
other record keeps it, but for those that the event changed and changed back or wrote anew, which step as well: the
header where a tally frame was accepted (R78) or a test started and ended (R201), the records of a CLEAR_COUNTS taken
(R193), an engine that ended one transaction and began another (R136), a bay whose sense want was granted (R143), and a
bay that a switch left and that feeds again (R102, R110). -/
def Published (s t : State) : Prop :=
  t.gens.header = stepGeneration (decide (s.headerContent ≠ t.headerContent) || t.acceptedSince s
        || t.clearedSince s || t.testedSince s) s.gens.header
    ∧ (∀ c : ChanId, t.gens.channels[c]
        = stepGeneration (decide (channelContent (s.chan c) ≠ channelContent (t.chan c))
            || t.clearedSince s) s.gens.channels[c])
    ∧ (∀ e : EngId, t.gens.engines[e]
        = stepGeneration (decide (engineContent (s.eng e) s.port.parked[e]
            ≠ engineContent (t.eng e) t.port.parked[e]) || t.clearedSince s
            || (t.eng e).movedOnSince (s.eng e)) s.gens.engines[e])
    ∧ ∀ b : BayId, t.gens.bays[b]
        = stepGeneration (decide (bayContent (s.bay b) ≠ bayContent (t.bay b)) || t.sensedSince s b
            || t.fedAnewSince s b) s.gens.bays[b]

/-! ### What the end of an event leaves alone -/

/-- A bay context but for what a grant changes: the burn in flight with its token, and the sense want. -/
def Bay.settled (x : Bay) : Bay :=
  { x with burnToken := 0#8, burnInFlight := none, wants := { x.wants with sense := false } }

/-- An entry but for journal_due. -/
def Entry.content (e : Entry) : Entry := { e with journalDue := false }

/-- An engine context but for what a grant changes: the transaction, the pointer and head_passes. -/
def Engine.settled (x : Engine) : Engine := { x with activity := .idle, pointer := 0, headPasses := 0 }

/-- The store's figures that only the end of a flash operation, a reset or the power-fail input changes. -/
def Store.settled (x : Store) : Store :=
  { x with op := none, tickets := [], mode := .normal, victim := none, retry := none, changed := false }

/-- The pins, the clock and the draws that the end of an event does not change. -/
def Outside.settled (o : Outside) : Outside := { o with tags := Vector.replicate 24 none, tagDraws := 0 }

/-- The port but for the slots and the notices. -/
def Port.settled (p : Port) : Port := { p with slots := Vector.replicate 32 Slot.default, notices := 0#8 }

/-- What the end of an event leaves of the state the event's own effect made. The end starts tag
transactions and flash operations, orders and counts journal-due items, may begin a waiting period or degrade
the journal, may answer waiting SET_PROFILE tickets, raises notices, and steps generation words; it does
nothing else. -/
structure KeptAtEnd (s t : State) : Prop where
  pending  : t.pending = s.pending
  outside  : t.outside.settled = s.outside.settled
  flash    : t.flash = s.flash
  port     : t.port.settled = s.port.settled
  slots    : ∀ k, (s.slot k).hand ≠ .taken ∨ (∀ x ∈ s.store.tickets, x.slot ≠ k) → t.slot k = s.slot k
  notices  : s.port.notices &&& ~~~t.port.notices = 0#8
  bays     : ∀ b, (t.bay b).settled = (s.bay b).settled
  auth     : t.auth = s.auth
  latch    : t.latch = s.latch
  channels : t.channels = s.channels
  tally    : t.tally = s.tally
  engines  : ∀ e, (t.eng e).settled = (s.eng e).settled
  inFlight : ∀ e, (s.eng e).activity ≠ .idle → t.eng e = s.eng e
  history  : t.history.live.map Entry.content = s.history.live.map Entry.content
  counts   : t.history.useCounter = s.history.useCounter ∧ t.history.evictions = s.history.evictions
    ∧ t.history.untracked = s.history.untracked
  store    : t.store.settled = s.store.settled
  op       : s.store.op ≠ none → t.store.op = s.store.op
  tickets  : ∀ x ∈ t.store.tickets, x ∈ s.store.tickets
  selfTest : t.selfTest = s.selfTest

/-! ### Further promises -/

/-- R117, R118: a sense timer runs, and a sense want stands, only in STANDBY and FEEDING. -/
def Bay.SensedOnlyWhileFit (x : Bay) : Prop :=
  (x.sense.timer.isSome = true ∨ x.wants.sense = true) → x.state.sensed = true

/-- R17, R95, R153, R196: from the end of a reset until the part is READY every bay, channel, engine and
history entry stands at its reset value, the enforcement latch is off, and no test runs. -/
def State.StartsClean (s : State) : Prop :=
  s.port.partState = .starting →
    s.bays = Vector.replicate 24 Bay.default ∧ s.channels = Vector.replicate 12 Channel.default
      ∧ s.engines = Vector.replicate 4 Engine.default ∧ s.auth = { fifo := [], current := none }
      ∧ s.latch = false ∧ s.history = History.default ∧ s.selfTest = SelfTest.default
      ∧ s.store = { Store.default with powerWarning := s.store.powerWarning }

/-- R31, R97, R98: the feed and the bay states follow eligibility. The open side is the FEEDING bay's, a bay that
stands in STANDBY or FEEDING is eligible, a BARRED one is not, a DRAINED one has book 0, and a CLOSED channel has
no eligible bay. -/
def State.FeedSound (s : State) : Prop :=
  s.ValvesMatch ∧ (∀ b : BayId, (s.bay b).state.sensed = true → s.eligible b = true)
    ∧ (∀ b : BayId, s.feedingBay (chanOf b) = none → s.eligible b = false)
    ∧ (∀ b : BayId, (s.bay b).state = .barred → s.eligible b = false)
    ∧ ∀ b : BayId, (s.bay b).state = .drained → (s.bay b).book = 0

/-- The states from RECONCILING onward, in which a bay can hold a link to a history entry. -/
def BayState.linkable : BayState → Bool
  | .reconciling | .standby | .feeding | .barred | .drained | .fault => true
  | .empty | .settling | .identifying | .challenging => false

/-- R41: the entry of an installed cartridge has the book of its bay, and bay and entry name each other. -/
def State.EntriesFollow (s : State) : Prop :=
  (∀ (b : BayId) (serial : Serial), (s.bay b).entry = some serial →
      (s.bay b).state.linkable = true
        ∧ ∃ e, s.entryOf serial = some e ∧ e.installedBay = some b ∧ e.book = (s.bay b).book)
    ∧ ∀ e ∈ s.history.live, ∀ b : BayId, e.installedBay = some b → (s.bay b).entry = some e.serial

/-! ### What a command leaves behind -/

/-- `t` is `u` but for the generation words. -/
def SameButGens (u t : State) : Prop := t = { u with gens := t.gens }

/-- The state right after a reset of `s`: reset values everywhere, the generation words among them, the queue, the flash
and what stands outside the resets apart; a power-fail warning that is active is taken up at once, which the header
shows under one pair (R169, R181, R197). -/
def ClearedFrom (s t : State) : Prop :=
  t = { State.reset with
        pending := s.pending, outside := t.outside, flash := t.flash
        port := { Port.default with notices := if s.outside.pfw then Notice.mask .power else 0#8 }
        store := { Store.default with powerWarning := s.outside.pfw }
        gens := { State.reset.gens with header := if s.outside.pfw then 2#16 else 0#16 } }

/-- An arrival at this slot is a taking: READY, no soft reset pending, the hand FREE (R184). -/
def State.Takes (s : State) (k : SlotId) : Prop :=
  s.port.partState = .ready ∧ s.port.resetPending = false ∧ (s.slot k).hand = .free

/-- The slot as the host has left its request in it, with a hand, a status and an answer area. -/
def requestSlot (hand : Hand) (kind target : Word) (a : Args) (status : Word) (area : Vector Byte 30) : Slot :=
  { hand := hand, kind := kind, target := target, args := a, status := status, answer := area, copy := none }

/-- The slot answered: request as posted, the answer's status and area, ANSWER raised (R188). -/
def State.leftAnswered (s : State) (k : SlotId) (kind target : Word) (a : Args) (r : Answer) : State :=
  (s.updSlot k fun _ => requestSlot .answered kind target a r.word r.area).raise .answer

/-- The slot TAKEN: request as posted, status NONE, answer area zero, the port's copy (R182). -/
def State.leftTaken (s : State) (k : SlotId) (kind target : Word) (a : Args) (bay : Option BayId)
    (result : Option Answer) : State :=
  s.updSlot k fun _ =>
    { requestSlot .taken kind target a 0#16 (Vector.replicate 30 0#8) with
      copy := some { kind := kind, target := target, args := a, bay := bay, result := result } }

/-- The slot of a posted ticket freed again (R187). -/
def State.leftFree (s : State) (k : SlotId) (kind target : Word) (a : Args) : State :=
  s.updSlot k fun _ => requestSlot .free kind target a 0#16 (Vector.replicate 30 0#8)

/-- The slot with a request the host wrote and a hand of its own; status and answer area as they were. -/
def State.leftFilled (s : State) (k : SlotId) (kind target : Word) (a : Args) : State :=
  s.updSlot k fun x => { x with hand := .filled, kind := kind, target := target, args := a }

/-- ignored_hand_writes one higher, saturating. -/
def State.ignoredOne (s : State) : State :=
  s.updPort fun p => { p with ignoredHandWrites := min 65535 (p.ignoredHandWrites + 1) }

/-- posted_rejects one higher, saturating. -/
def State.rejectedOne (s : State) : State :=
  s.updPort fun p => { p with postedRejects := min 65535 (p.postedRejects + 1) }

/-- A ticket is ahead of any newcomer for a bay, and its result is not ready (R189). -/
def State.Waits (s : State) (b : BayId) : Prop :=
  ∃ (h : SlotId) (rest : List SlotId) (t : Taken), s.port.bayOrder[b] = h :: rest ∧ (s.slot h).hand = .taken
    ∧ (s.slot h).copy = some t ∧ t.kind ≠ Kind.clearHeld.code ∧ t.result = none

/-- A slot joins the tail of a bay's order list. -/
def State.inOrder (s : State) (b : BayId) (k : SlotId) : State := s.setOrder b (s.port.bayOrder[b] ++ [k])

/-- The slot, kind, target and arguments a ticket command leaves. -/
def ticketOf : Instr → Option (SlotId × Word × Word × Args)
  | .tallyPost k t a => some (k, 0x01#16, t, a)
  | .purgePost k t a => some (k, 0x02#16, t, a)
  | .postedReject k kind t a => some (k, kind, t, a)
  | .badKind k kind t a => some (k, kind, t, a)
  | .setProfile k t a => some (k, 0x10#16, t, a)
  | .checkStore k t a => some (k, 0x11#16, t, a)
  | .readTagBlock k t a => some (k, 0x12#16, t, a)
  | .historyQuery k t a => some (k, 0x13#16, t, a)
  | .forgetSerial k t a => some (k, 0x14#16, t, a)
  | .clearHeld k t a => some (k, 0x15#16, t, a)
  | .switchFeed k t a => some (k, 0x16#16, t, a)
  | .enforce k t a => some (k, 0x17#16, t, a)
  | .clearCounts k t a => some (k, 0x19#16, t, a)
  | .selfTestCode2 k b => some (k, 0x18#16, 0#16, selfTestArgs 2#8 b)
  | .selfTestCode3 k b => some (k, 0x18#16, 0#16, selfTestArgs 3#8 b)
  | .selfTestCode5 k b => some (k, 0x18#16, 0#16, selfTestArgs 5#8 b)
  | .selfTestCode6 k b => some (k, 0x18#16, 0#16, selfTestArgs 6#8 b)
  | .selfTestCode9 k b => some (k, 0x18#16, 0#16, selfTestArgs 9#8 b)
  | .selfTestBadCode k code b => some (k, 0x18#16, 0#16, selfTestArgs code b)
  | .powerOnReset | .startupRebuildComplete | .presenceActive _ _ | .bayRemoval _ | .settleTimerExpiry _
  | .tallyFrame _ | .tallyLinkPauseTimeout | .tallyFrameBroken | .pfwActive | .pfwInactive
  | .arrivalWhileStarting _ | .arrivalWhileResetPending _ | .withdrawal _ | .release _
  | .ignoredHandWrite _ _ | .hostWrite _ _ | .noticeClear _ | .noticeEnable _ | .noticeRoute _
  | .resetReq _ | .softReset | .tagAnswerFrame _ _ _ | .answerWindowTimeout _ _ | .retryGapExpiry _
  | .authComputationComplete | .senseTimerExpiry _ | .settleIntervalExpiry _ | .recordProgram _
  | .headerProgram _ | .sectorErase _ | .profileRewrite _ | .checkStoreRead | .profileSectorRead
  | .tagWorkComplete _ => none

/-- The addresses a flash operation changes: base and size; none for a read (R156). -/
def FlashOp.span : FlashOp → Nat × Nat
  | .append j slot _ => (slotBase j slot, 32)
  | .header j _ => (slotBase j 0, 32)
  | .erase j => (sectorBase (secNumber j), 4096)
  | .profileRewrite _ _ _ => (0, 4096)
  | .checkRead _ _ _ | .profileRead _ => (0, 0)

/-- A command is the end of the flash operation in flight, with the flash as the operation leaves it: what a program's
slot reads back, an erased sector but for the bytes left, a rewrite whole or as its step left it; a read changes nothing
(R156). -/
inductive State.EndsFlash (s : State) : Instr → Memory → Prop
  | append (j : SecId) (slot : Nat) (r : JournalRecord) (back : Option Block)
      (op : s.store.op = some (.append j slot r)) :
      s.EndsFlash (.recordProgram back) (s.flash.writeRun (slotBase j slot) (back.getD r.block).toList)
  | header (j : SecId) (seq : Nat) (back : Option Block) (op : s.store.op = some (.header j seq)) :
      s.EndsFlash (.headerProgram back) (s.flash.writeRun (slotBase j 0) (back.getD (headerBlock seq)).toList)
  | erase (j : SecId) (left : List (Nat × Byte)) (op : s.store.op = some (.erase j)) :
      s.EndsFlash (.sectorErase left)
        ((s.flash.erase (sectorBase (secNumber j)) 4096).scatter (sectorBase (secNumber j)) 4096 left)
  | rewrite (k : SlotId) (c : ChanId) (p : Profile) (result : RewriteEnd)
      (op : s.store.op = some (.profileRewrite k c p)) :
      s.EndsFlash (.profileRewrite result) (s.rewriteResult c p result)
  | check (k : SlotId) (first last : Nat) (op : s.store.op = some (.checkRead k first last)) :
      s.EndsFlash .checkStoreRead s.flash
  | profiles (k : SlotId) (op : s.store.op = some (.profileRead k)) : s.EndsFlash .profileSectorRead s.flash

/-- Every byte of the flash outside `size` bytes from `base` reads as before. -/
def FlashKept (s t : State) (base size : Nat) : Prop :=
  ∀ a, a < base ∨ base + size ≤ a → t.flash.read a = s.flash.read a

/-- A notice kind is pending. -/
def State.notified (s : State) (n : Notice) : Bool := s.port.notices.getLsbD n.bit

/-- The journal has just been degraded: STORE is raised, there is no victim, and the history table has emptied its FIFO,
its due marks and its held places (R54, R167). -/
structure State.Degrades (t : State) : Prop where
  mode    : t.store.mode = .degraded
  noticed : t.notified .store = true
  victim  : t.store.victim = none
  fifo    : t.history.fifo = []
  tombs   : t.history.tombs = []
  due     : ∀ e ∈ t.history.live, e.journalDue = false

/-- A reclaim has started: its victim is the FULL sector with the lowest sector_seq, and every entry whose latest
record lies in it is journal-due (R164). -/
def State.Reclaims (t : State) : Prop :=
  ∃ v, t.store.victim = some v ∧ t.store.sectors[v].state = .full
    ∧ (∀ j : SecId, t.store.sectors[j].state = .full →
        t.store.sectors[v].seq.getD 0 ≤ t.store.sectors[j].seq.getD 0)
    ∧ ∀ e ∈ t.history.live, e.journalLocation.map (·.sector) = some v → e.journalDue = true

/-- The number of journal sectors other than one that are in a state. -/
def State.othersIn (s : State) (j : SecId) (st : SectorState) : Nat :=
  ((s.sectorsIn st).filter fun x => decide (x ≠ j)).length

/-- Sector `j` apart, no slot can be had: no other sector is ACTIVE with a free slot and none is ERASED (R163). -/
def State.NoSlotBeside (s : State) (j : SecId) : Prop :=
  ∀ x : SecId, x ≠ j → s.store.sectors[x].state ≠ .erased
    ∧ (s.store.sectors[x].state = .active → 127 < s.store.sectors[x].nextSlot)

/-- The flash idle again after a record program, its slot reading `b` and used up; the last slot leaves its sector FULL
(R159, R161, R162). -/
def State.programmed (s : State) (j : SecId) (slot : Nat) (b : Block) : State :=
  { s with
    flash := s.flash.writeRun (slotBase j slot) b.toList
    store := { s.store with
      op := none
      sectors := updAt s.store.sectors j fun x =>
        { x with nextSlot := x.nextSlot + 1, state := if x.nextSlot = 127 then .full else x.state } } }

/-- The history with a record as the latest of its entry (R161 step 2). -/
def History.located (h : History) (j : SecId) (slot : Nat) (r : JournalRecord) : History :=
  { h with live := h.live.map fun x =>
      if x.serial = r.serial then { x with journalLocation := some ⟨j, slot⟩, journalSeq := r.seq } else x }

/-- A record's number spent: next_journal_seq one higher (R160). -/
def State.numbered (s : State) : State :=
  s.updStore fun x => { x with nextJournalSeq := x.nextJournalSeq + 1 }

/-- The whole marks a volume added to the residue amounts to at a bay (R72 step 2). -/
def State.marksOf (s : State) (c : ChanId) (b : BayId) (v : Nat) : Nat :=
  ((s.chan c).residue + v) / (s.bay b).markSize

/-- The history after a bay's book has become `book`: its entry follows (R41). -/
def History.follow (h : History) (entry : Option Serial) (book : Nat) : History :=
  { h with live := h.live.map fun e => if some e.serial = entry then { e with book := book } else e }

/-- The history after the entry of a bay has taken DEPLETED_SEEN (R90). -/
def History.showsDepleted (h : History) (entry : Option Serial) : History :=
  { h with live := h.live.map fun e =>
      if some e.serial = entry then { e with seen := e.seen ||| 0b000001#6 } else e }

/-- A ticket operation for a bay that waits at its engine, queued or parked (R144, R191). -/
def State.TagWorkOf (s : State) (b : BayId) (q : QueueEntry) : Prop :=
  q.bay = b ∧ (q ∈ (s.eng (engOf b)).queue ∨ q ∈ s.port.parked[engOf b])

/-- The slot of a ticket that is alone in the order list of a bay, with its result still to come (R189). -/
def State.AloneAt (s : State) (b : BayId) (k : SlotId) (kind : Word) : Prop :=
  (s.slot k).hand = .taken ∧ s.port.bayOrder[b] = [k]
    ∧ ∃ tk : Taken, (s.slot k).copy = some tk ∧ tk.kind = kind ∧ tk.bay = some b

/-- The self-test record of a test that has ended (R203). -/
def SelfTest.ended (x : SelfTest) (result : Nat) (cause : FailCause) : SelfTest :=
  { x with running := false, result := result, failCause := cause, slot := none }

/-! ### A bay begins feeding -/

/-- The settle_end a start of the settle interval gives (R106). -/
def settleFrom (now : Nat) (p : Profile) : Option Nat :=
  if p.settleInterval = 0 then none else some (now + p.settleInterval * 2000000)

/-- A bay has begun feeding its channel at a residue: FEEDING with its valve open and a cause; the whole marks the
residue amounts to have passed from book to pending, the rest stays residue, and the channel settles (R76, R98).
`s` gives the bay's figures and the profile as they stood before. -/
structure State.FeedsFrom (s t : State) (b : BayId) (cause : FeedCause) (residue : Nat) : Prop where
  open'   : t.feedingBay (chanOf b) = some b ∧ (t.bay b).state = .feeding
  reasons : (t.chan (chanOf b)).feedCause = cause ∧ (t.chan (chanOf b)).closedReason = .none
  book    : (t.bay b).book = (s.bay b).book - residue / (s.bay b).markSize
  pending : (t.bay b).pending = (s.bay b).pending + residue / (s.bay b).markSize
  left    : (t.chan (chanOf b)).residue = residue % (s.bay b).markSize
  settles : ∀ p, s.profileOf b = some p → (t.chan (chanOf b)).settleEnd = settleFrom s.outside.now p
  noticed : t.notified .channel = true

/-- The feeding bay stopped feeding at an event of its own: the channel passes to the twin where that is eligible and
closes otherwise, with the cause, its residue kept (R98, R102 to R104). The marks the residue brings leave the twin's
book above 0. -/
def State.PassesFeed (s t : State) (b : BayId) (cause : FeedCause) (reason : ClosedReason) : Prop :=
  (s.eligible (twinOf b) = false →
      t.feedingBay (chanOf b) = none ∧ (t.chan (chanOf b)).closedReason = reason
        ∧ (t.chan (chanOf b)).feedCause = cause ∧ (t.chan (chanOf b)).residue = (s.chan (chanOf b)).residue
        ∧ t.notified .channel = true)
    ∧ (s.eligible (twinOf b) = true → s.feedingBay (chanOf b) = some b →
        (s.chan (chanOf b)).residue / (s.bay (twinOf b)).markSize < (s.bay (twinOf b)).book →
        s.FeedsFrom t (twinOf b) cause (s.chan (chanOf b)).residue)

/-! ### A held flag sets -/

/-- alert_select of a bay's channel holds a kind; an unset profile's holds all five (R116). -/
def State.alerts (s : State) (b : BayId) (k : HeldKind) : Bool :=
  (s.profileOf b).all fun p => hasKind p.alertSelect k

/-- A held flag of a decided bay has gone from clear to set, and no other flag has changed. The bay keeps its snapshot
or takes `snap` (R131); ALERT is raised where the kind is selected (R130); verdict and reason become `new` where the
consequence is stronger, and the entry takes them and the seen flags (R52, R126); under the latch a kind other than
LEAK_SENSE bars an eligible bay with reason HELD, and the feed leaves it (R103), while in other cases the state stands;
and under the latch a verdict that becomes REFILLED raises the REFILL_MARK write want (R38). -/
structure State.FlagSets (s t : State) (b : BayId) (k : HeldKind) (snap : Snapshot)
    (new : Option (Verdict × VerdictReason)) (seen : SeenSet) : Prop where
  held     : ∀ k', hasKind (t.bay b).sense.held k' = (hasKind (s.bay b).sense.held k' || decide (k' = k))
  snapshot : (t.bay b).sense.snapshot = some ((s.bay b).sense.snapshot.getD snap)
  alert    : t.notified .alert = (s.notified .alert || s.alerts b k)
  verdict  : ((t.bay b).verdict, (t.bay b).verdictReason) = new.getD ((s.bay b).verdict, (s.bay b).verdictReason)
  entry    : ∀ (serial : Serial) (h : Entry), (s.bay b).entry = some serial → s.entryOf serial = some h →
    ∃ x, t.entryOf serial = some x ∧ x.verdict = (new.map (·.1)).getD h.verdict ∧ x.seen = h.seen ||| seen
      ∧ (t.store.mode ≠ .degraded → new ≠ none ∨ h.seen ||| seen ≠ h.seen → x.journalDue = true)
  bars     : s.latch = true → k ≠ .leakSense → (s.bay b).state.sensed = true → s.eligible b = true →
    (t.bay b).state = .barred ∧ (t.bay b).barReason = .held
      ∧ ((s.bay b).state = .feeding → s.PassesFeed t b .barred .barred)
  stands   : s.latch = false ∨ k = .leakSense →
    ((s.bay b).state = .barred → s.eligible b = false ∧ ((s.bay b).gaugeKnown = true → (s.bay b).book ≠ 0)) →
    ((s.bay b).state.sensed = true → s.eligible b = true) → (t.bay b).state = (s.bay b).state
  marks    : s.latch = true → new.map (·.1) = some .refilled → (s.bay b).authenticated = true →
    (s.bay b).tagRefillMark = false → (t.bay b).wants.refillMark = true

/-- What the feed selector does with a bay that becomes eligible at the event from `s` to `t`, beside a twin that
is not eligible or is feeding: it opens a CLOSED channel with it (R97), and switches an open one to it where the
threshold is met (R101); otherwise the bay stands by and the channel stays as it was. -/
def State.TakesUpEligible (s t : State) (b : BayId) : Prop :=
  (s.chan (chanOf b)).residue / (s.bay b).markSize < (s.bay b).book →
    (s.feedingBay (chanOf b) = none → s.eligible (twinOf b) = false →
      s.FeedsFrom t b .opened (s.chan (chanOf b)).residue)
    ∧ (s.feedingBay (chanOf b) = some (twinOf b) → (s.bay (twinOf b)).state = .feeding →
      if 0 < (s.bay (twinOf b)).book ∧ (s.bay (twinOf b)).book ≤ s.switchMarks (chanOf b)
          ∧ s.switchMarks (chanOf b) < (s.bay b).book then
        s.FeedsFrom t b .threshold (s.chan (chanOf b)).residue ∧ (t.bay (twinOf b)).state = .standby
      else (t.bay b).state = .standby ∧ t.chan (chanOf b) = s.chan (chanOf b)
        ∧ (t.bay b).book = (s.bay b).book ∧ (t.bay b).pending = (s.bay b).pending)

/-! ### The records as the host reads them -/

/-- The byte at an address: bits 15 to 8 of its word at an even one, bits 7 to 0 at an odd one (R211). -/
def State.hostByte (s : State) (a : Nat) : Byte :=
  let w := s.hostRead (a / 2 * 2)
  if a % 2 = 0 then w.extractLsb' 8 8 else w.extractLsb' 0 8

/-- The value of `n` bytes from an address, most significant first (R211). -/
def State.hostNum (s : State) (a n : Nat) : Nat := ofBytes ((List.range n).map fun i => s.hostByte (a + i))

/-- One line of a table of section 12.2: offset, size in bytes, value. A value is taken in as many bytes. -/
abbrev Row := Nat × Nat × Nat

/-- The record at an address reads as a table has it. -/
def State.Shows (s : State) (base : Nat) (table : List Row) : Prop :=
  ∀ r ∈ table, s.hostNum (base + r.1) r.2.1 = r.2.2 % 256 ^ r.2.1

/-- The code of a name: its place in the line of Table 12-1, counted from 0. -/
def codeIn {α : Type} [DecidableEq α] (names : List α) (x : α) : Nat := names.idxOf x

/-- A bay number, 0xFF where absent (R211). -/
def bayNumber (b : Option BayId) : Nat := (b.map (·.val)).getD 0xFF

/-- store_op (Table 12-1). -/
def Store.opNumber (x : Store) : Nat :=
  match x.op with
  | none => 0
  | some (.append _ _ _) => 1
  | some (.header _ _) => 2
  | some (.erase _) => 3
  | some (.profileRewrite _ _ _) => 4
  | some (.checkRead _ _ _) | some (.profileRead _) => 5

/-- The lines of a journal sector: state, referenced, sector_seq. -/
def State.sectorTable (s : State) (j : SecId) : List Row :=
  [ (48 + 6 * j.val, 1, codeIn [.erased, .active, .full, .dirty, .retired] s.store.sectors[j].state)
  , (49 + 6 * j.val, 1, s.history.live.countP fun e => decide (e.journalLocation.map (·.sector) = some j))
  , (50 + 6 * j.val, 4, s.store.sectors[j].seq.getD 0) ]

/-- Table 12-2, the header at READY, but for active_sector and next_slot. -/
def State.headerTable (s : State) : List Row :=
  [ (0, 2, s.gens.header.toNat), (2, 1, codeIn [.starting, .ready] s.port.partState)
  , (3, 1, s.port.resetPending.toNat + 2 * s.latch.toNat + 4 * s.store.powerWarning.toNat)
  , (4, 1, s.port.arrivals.length), (5, 1, ((List.finRange 4).map fun e => s.port.parked[e].length).sum)
  , (6, 1, s.auth.fifo.length + s.auth.current.isSome.toNat), (7, 1, s.store.tickets.length)
  , (8, 2, s.port.ignoredHandWrites), (10, 2, s.port.postedRejects), (12, 2, s.tally.tallyCrcErrors)
  , (14, 2, s.tally.strayTallies), (16, 2, s.history.live.length), (18, 2, s.history.tombs.length)
  , (20, 2, s.history.fifo.length), (22, 2, s.history.evictions), (24, 2, s.history.untracked)
  , (26, 1, s.store.opNumber), (27, 1, codeIn [.normal, .waiting, .degraded] s.store.mode)
  , (28, 1, codeIn [.good, .damaged] s.store.profileState), (31, 1, (s.store.victim.map (·.val + 1)).getD 0)
  , (32, 4, s.store.nextJournalSeq), (36, 2, s.store.programFailures), (38, 2, s.store.eraseFailures)
  , (40, 2, s.store.rebuildRejects), (42, 6, 0), (96, 1, s.selfTest.running.toNat), (97, 1, s.selfTest.code)
  , (98, 1, bayNumber s.selfTest.bay), (99, 1, s.selfTest.result)
  , (100, 1, codeIn [.none, .mismatch, .discarded] s.selfTest.failCause), (101, 3, 0), (152, 104, 0) ]
  ++ (List.finRange 8).flatMap s.sectorTable
  ++ (List.finRange 12).flatMap fun c =>
    [ (104 + 4 * c.val, 1, (s.chan c).lastTemp), (105 + 4 * c.val, 1, 0)
    , (106 + 4 * c.val, 2, (s.chan c).lastFactor) ]

/-- The feed code: feed_cause of an open channel, closed_reason of a CLOSED one (Table 12-3). A CLOSED channel has a
reason and an open one a cause; for those that have none the model shows 7 and 0. -/
def Channel.feedNumber (ch : Channel) : Nat :=
  if ch.feedState = .closed then
    if ch.closedReason = .none then 7
    else codeIn [.unset, .empty, .drained, .barred, .fault, .removed] ch.closedReason
  else if ch.feedCause = .none then 0
  else codeIn [.opened, .threshold, .drained, .barred, .fault, .removed, .ticket] ch.feedCause

/-- Table 12-3, the record of a channel; the figures in µL are floors of 10,000,000 units of 0.1 pL (R78). -/
def channelTable (g : Word) (ch : Channel) : List Row :=
  [ (0, 2, g.toNat)
  , (2, 1, 64 * codeIn [.closed, .openA, .openB] ch.feedState + 8 * ch.feedNumber + 4 * ch.settleEnd.isSome.toNat
      + 2 * ch.saturated.toNat + ch.seqStarted.toNat)
  , (3, 1, 4 * (ch.total / 10000000 / 2 ^ 40 % 2) + 2 * (ch.charged / 10000000 / 2 ^ 40 % 2)
      + ch.unbooked / 10000000 / 2 ^ 40 % 2)
  , (4, 5, ch.residue), (9, 5, ch.total / 10000000), (14, 5, ch.charged / 10000000), (19, 5, ch.unbooked / 10000000)
  , (24, 2, ch.lastSeq.toNat), (26, 2, ch.gapCount), (28, 2, ch.duplicateCount), (30, 2, ch.skippedSamples) ]

/-- current_op (Table 12-1). -/
def TagCommand.number : TagCommand → Nat
  | .readBlock _ => 1
  | .challenge _ => 2
  | .burn _ _ => 3
  | .setFlag _ => 4
  | .readSense => 5

/-- engine_state, current_op, current_bay, current_origin and attempts, with no bay where IDLE (R211). -/
def Activity.table (x : Activity) : List Row :=
  match x with
  | .idle => [(2, 1, 0), (3, 1, 0), (4, 1, 0xFF), (5, 1, 0), (6, 1, 0)]
  | .attempt t | .gap t _ =>
    [ (2, 1, match x with | .gap _ _ => 2 | _ => 1), (3, 1, t.command.number), (4, 1, t.bay.val)
    , (5, 1, 1 + codeIn [.insertion, .burn, .depletedWrite, .refillMarkWrite, .sense, .ticket, .selfTest] t.origin)
    , (6, 1, t.attempts) ]

/-- Table 12-4, the record of an engine; free_entries counts the places left of 6. -/
def engineTable (g : Word) (x : Engine) (parked : Nat) : List Row :=
  [ (0, 2, g.toNat), (7, 1, 6 - x.queue.length), (8, 1, parked), (9, 1, x.headPasses), (10, 2, x.retryTally.toNat)
  , (12, 1, x.rollover.toNat), (13, 1, bayNumber x.lastDiscardBay), (14, 2, x.discardCount)
  , (16, 1, codeIn [.none, .failures, .busyLimit] x.lastDiscardCause), (17, 15, 0) ]
  ++ x.activity.table

/-- The identity of a bay record, all 0 where absent (R211). -/
def identityTable (i : Option Identity) : List Row :=
  match i with
  | none => [(8, 18, 0)]
  | some i =>
    [ (8, 8, i.serial.toNat), (16, 2, i.inkType), (18, 2, i.capacityMarks), (20, 2, i.markVolume)
    , (22, 4, i.lotCode.toNat) ]

/-- A signed figure in 16 bits, two's complement, 0 where absent (R211). -/
def signedNumber (d : Option Int) : Nat := (d.getD 0 % 65536).toNat

/-- The incident snapshot of a bay record, all 0 where absent (R211). -/
def snapshotTable (x : Option Snapshot) : List Row :=
  match x with
  | none => [(45, 13, 0)]
  | some x =>
    [ (45, 1, 1 + codeIn [.gaugeRise, .flagConflict, .refillSense, .leakSense, .burnMismatch] x.kind)
    , (46, 1, x.estimate.isSome.toNat + 2 * x.discrepancy.isSome.toNat), (47, 1, 0), (48, 2, x.book)
    , (50, 2, x.tagGauge), (52, 2, x.pending), (54, 2, x.estimate.getD 0), (56, 2, signedNumber x.discrepancy) ]

/-- Table 12-5, the record of a bay. -/
def bayTable (g : Word) (x : Bay) : List Row :=
  [ (0, 2, g.toNat)
  , (2, 1, codeIn [.empty, .settling, .identifying, .challenging, .reconciling, .standby, .feeding, .barred, .drained
      , .fault] x.state)
  , (3, 1, codeIn [.none, .genuine, .foreign, .refilled, .unread] x.verdict)
  , (4, 1, codeIn [.none, .tagMark, .flagConflict, .gaugeRise, .history, .refillSense, .identityCrc, .gaugeCrc
      , .response, .burnMismatch] x.verdictReason)
  , (5, 1, codeIn [.none, .channelUnset, .inkMismatch, .noGauge, .foreign, .refilled, .held] x.barReason)
  , (6, 1, x.identity.isSome.toNat + 2 * x.gaugeKnown.toNat + 4 * x.tagDepleted.toNat + 8 * x.tagRefillMark.toNat
      + 16 * x.authenticated.toNat + 32 * x.sense.liveRefill.toNat + 64 * x.sense.liveLeak.toNat
      + 128 * x.sense.snapshot.isSome.toNat)
  , (7, 1, x.wants.insertion.isSome.toNat + 2 * x.wants.burn.toNat + 4 * x.wants.depleted.toNat
      + 8 * x.wants.refillMark.toNat + 16 * x.wants.sense.toNat)
  , (26, 2, x.tagGauge), (28, 2, x.pending), (30, 2, x.book), (32, 1, x.burnToken.toNat), (33, 1, x.sense.held.toNat)
  , (34, 1, (x.sense.lastReading.map BitVec.toNat).getD 0), (35, 1, x.sense.lastReading.isSome.toNat)
  , (36, 2, x.sense.lastEstimate.getD 0), (38, 2, signedNumber x.sense.lastDiscrepancy)
  , (40, 1, codeIn [.none, .pos, .neg, .neutral] x.sense.lastClass)
  , (41, 1, codeIn [.none, .sensor, .settling, .uncalibrated] x.sense.lastDiscard), (42, 1, x.sense.windowCount)
  , (43, 1, x.sense.posCount), (44, 1, x.sense.negCount), (58, 6, 0) ]
  ++ identityTable x.identity ++ snapshotTable x.sense.snapshot

/-- Section 12.3, a ticket slot. -/
def slotTable (x : Slot) : List Row :=
  [ (0, 2, codeIn [.free, .filled, .taken, .answered] x.hand), (2, 2, x.kind.toNat), (4, 2, x.target.toNat)
  , (32, 2, x.status.toNat) ]
  ++ ((List.finRange 26).map fun i => (6 + i.val, 1, x.args[i].toNat))
  ++ (List.finRange 30).map fun i => (34 + i.val, 1, x.answer[i].toNat)

/-! ### What an engine grants -/

/-- The `k`-th bay in the order of a search: from the bay after the pointer round to the pointer's own (R146). -/
def State.searched (u : State) (e : EngId) (k : Nat) : BayId :=
  bayAt e ⟨((u.eng e).pointer.val + k) % 6, by omega⟩

/-- The first bay of an engine, in the order of a search, of which something holds (R146). -/
def State.FirstBay (u : State) (e : EngId) (has : Bay → Prop) (b : BayId) : Prop :=
  ∃ k, 1 ≤ k ∧ k ≤ 6 ∧ b = u.searched e k ∧ has (u.bay b) ∧ ∀ j, 1 ≤ j → j < k → ¬ has (u.bay (u.searched e j))

/-- Nothing of the kind holds of any of the engine's six bays. -/
def State.NoBay (u : State) (e : EngId) (has : Bay → Prop) : Prop := ∀ k : Fin 6, ¬ has (u.bay (bayAt e k))

/-- A bay holds an insertion step want: class 1. -/
def Bay.HasStep (x : Bay) : Prop := x.wants.insertion ≠ none

/-- A bay holds a DEPLETED write, a REFILL_MARK write or a burn want: class 2. -/
def Bay.HasAccount (x : Bay) : Prop := x.wants.depleted = true ∨ x.wants.refillMark = true ∨ x.wants.burn = true

/-- A bay holds a sense want: class 4. -/
def Bay.HasSense (x : Bay) : Prop := x.wants.sense = true

/-- The queue's head has been passed over by 4 grants (R147). -/
def Engine.HeadDue (x : Engine) : Prop := x.queue ≠ [] ∧ 4 ≤ x.headPasses

/-- What an IDLE engine grants: the head that is due, or else the first class that has work (R146, R147). -/
inductive State.Grants (u : State) (e : EngId) : Work → Prop
  | due (q : QueueEntry) (rest : List QueueEntry) (head : (u.eng e).queue = q :: rest)
      (passes : 4 ≤ (u.eng e).headPasses) : u.Grants e (.head q)
  | insertion (b : BayId) (st : InsertionStep) (notDue : ¬ (u.eng e).HeadDue) (first : u.FirstBay e Bay.HasStep b)
      (step : (u.bay b).wants.insertion = some st) : u.Grants e (.insertion b st)
  | account (b : BayId) (notDue : ¬ (u.eng e).HeadDue) (noStep : u.NoBay e Bay.HasStep)
      (first : u.FirstBay e Bay.HasAccount b) : u.Grants e (.account b)
  | head (q : QueueEntry) (rest : List QueueEntry) (noStep : u.NoBay e Bay.HasStep)
      (noAccount : u.NoBay e Bay.HasAccount) (head : (u.eng e).queue = q :: rest) : u.Grants e (.head q)
  | sense (b : BayId) (noStep : u.NoBay e Bay.HasStep) (noAccount : u.NoBay e Bay.HasAccount)
      (empty : (u.eng e).queue = []) (first : u.FirstBay e Bay.HasSense b) : u.Grants e (.sense b)

/-- Engine `e` has begun a transaction for a bay, its first attempt sent at `first`, and its pointer is the bay
(R136, R146). -/
def State.Begun (t : State) (e : EngId) (b : BayId) (o : Origin) (c : TagCommand) (first : Nat) : Prop :=
  (t.eng e).activity = .attempt
      { bay := b, origin := o, command := c, attempts := 1, failureRun := 0, firstAttempt := first }
    ∧ (t.eng e).pointer = placeOf b

/-- head_passes after a grant of class 1 or 2 (R147). -/
def Engine.passedOver (x : Engine) : Nat := if x.queue = [] then x.headPasses else x.headPasses + 1

/-- A BURN granted: n the pending marks, at most 16, with the bay's token, which steps; the burn in flight keeps n and
the gauge (R13, R84). -/
def State.BurnBegun (u t : State) (e : EngId) (b : BayId) (first : Nat) : Prop :=
  t.Begun e b .burn (.burn (min (u.bay b).pending 16) (u.bay b).burnToken) first
    ∧ (t.bay b).burnToken = (u.bay b).burnToken + 1#8
    ∧ (t.bay b).burnInFlight = some ⟨min (u.bay b).pending 16, (u.bay b).tagGauge⟩

/-- What a grant starts (R148), from the state `u` in which it is made. -/
def State.Starts (u t : State) (e : EngId) (first : Nat) : Work → Prop
  | .insertion b st =>
    (t.eng e).headPasses = (u.eng e).passedOver
      ∧ (st = .readIdentity → t.Begun e b .insertion (.readBlock 0) first)
      ∧ (st = .readGauge → t.Begun e b .insertion (.readBlock 1) first)
      ∧ (∀ c, st = .challenge → (u.bay b).challenge = some c → t.Begun e b .insertion (.challenge c) first)
  | .account b =>
    (t.eng e).headPasses = (u.eng e).passedOver
      ∧ ((u.bay b).wants.depleted = true → t.Begun e b .depletedWrite (.setFlag .depleted) first)
      ∧ ((u.bay b).wants.depleted = false → (u.bay b).wants.refillMark = true →
          t.Begun e b .refillMarkWrite (.setFlag .refillMark) first)
      ∧ ((u.bay b).wants.depleted = false → (u.bay b).wants.refillMark = false → u.BurnBegun t e b first)
  | .head q =>
    (t.eng e).headPasses = (u.eng e).headPasses ∧ (t.eng e).queue = (u.eng e).queue
      ∧ t.Begun e q.bay (if q.selfTest then .selfTest else .ticket) (.readBlock q.block) first
  | .sense b =>
    (t.eng e).headPasses = (u.eng e).headPasses ∧ t.Begun e b .sense .readSense first
      ∧ (t.bay b).wants.sense = false

/-- Engine `e`, IDLE in `u`, has granted as R146 and R147 order and started what it granted; with no work waiting it has
stayed IDLE (R145). -/
def State.Arbitrated (u t : State) (e : EngId) (first : Nat) : Prop :=
  (∀ w, u.Grants e w → u.Starts t e first w)
    ∧ ((u.eng e).queue = [] → u.NoBay e Bay.HasStep → u.NoBay e Bay.HasAccount → u.NoBay e Bay.HasSense →
        (t.eng e).activity = .idle)

/-! ### The last answer of an insertion -/

/-- A command brings together the tag's response and the expected one of a CHALLENGING bay: the ACK to its CHALLENGE
where the computation has ended, or the computation's end where the ACK has come. With it go the instant after the
command and the two responses (R25). -/
inductive State.ResponsesMeet (s : State) (b : BayId) : Instr → Nat → Bytes16 → Bytes16 → Prop
  | answered (e : EngId) (time : Nat) (rec : Reception) (tr : Transaction) (c resp expected : Bytes16)
      (f : AnswerFrame) (attempt : (s.eng e).activity = .attempt tr) (bay : tr.bay = b)
      (origin : tr.origin = .insertion) (command : tr.command = .challenge c)
      (received : s.received b rec = some f) (ack : classify tr.command f = .ack (.response resp))
      (computed : (s.bay b).expectedResponse = some expected) :
      s.ResponsesMeet b (.tagAnswerFrame e rec time) (max s.outside.now time) resp expected
  | computed (r : AuthRequest) (resp : Bytes16) (current : s.auth.current = some (r, false))
      (origin : r.origin = some b) (answered : (s.bay b).tagResponse = some resp) :
      s.ResponsesMeet b .authComputationComplete s.outside.now resp
        (Config.keyedResponse r.serial r.inkType r.challenge)

/-- The book and the pending that a reconciliation gives a bay (R43 to R46). -/
def State.ReconcilesTo (s : State) (b : BayId) (id : Identity) (book pending : Nat) : Prop :=
  (∀ h : Entry, s.entryOf id.serial = some h → h.installedBay = none →
      ((s.bay b).tagGauge < h.book → book = (s.bay b).tagGauge ∧ pending = 0)
      ∧ (h.book ≤ (s.bay b).tagGauge → (s.bay b).tagGauge ≤ h.book + h.owed →
          book = h.book ∧ pending = (s.bay b).tagGauge - h.book)
      ∧ (h.book + h.owed < (s.bay b).tagGauge → book = (s.bay b).tagGauge ∧ pending = 0))
    ∧ (∀ h : Entry, s.entryOf id.serial = some h → h.installedBay ≠ none →
        book = (s.bay b).tagGauge ∧ pending = 0)
    ∧ (s.entryOf id.serial = none → book = (s.bay b).tagGauge ∧ pending = 0)

/-- Nothing that a reconciliation finds bars the bay under the latch: the verdict is GENUINE and no flag that bars is
held or fires (R30, R47). -/
def State.ReconcilesClean (s : State) (b : BayId) (id : Identity) : Prop :=
  (s.bay b).sense.held &&& 0b10111#5 = 0#5 ∧ (s.bay b).tagRefillMark = false
    ∧ ((s.bay b).tagDepleted = false ∨ (s.bay b).tagGauge = 0)
    ∧ ∀ h : Entry, s.entryOf id.serial = some h →
        h.installedBay = none ∧ h.verdict = .genuine ∧ (s.bay b).tagGauge ≤ h.book + h.owed

/-- The CHALLENGE's ACK that engine `e` receives carries the response a CHALLENGING bay expects, its gauge being
known, so that its reconciliation follows at once (R25, R27); the residue is below one mark of the bay. -/
structure State.AboutToReconcile (s : State) (e : EngId) (rec : Reception) (b : BayId) (id : Identity) : Prop where
  answer   : ∃ (tr : Transaction) (c resp : Bytes16) (f : AnswerFrame), (s.eng e).activity = .attempt tr
    ∧ tr.bay = b ∧ tr.origin = .insertion ∧ tr.command = .challenge c ∧ s.received b rec = some f
    ∧ classify tr.command f = .ack (.response resp) ∧ (s.bay b).expectedResponse = some resp
  state    : (s.bay b).state = .challenging
  gauge    : (s.bay b).gaugeKnown = true
  identity : (s.bay b).identity = some id
  history  : s.history.Sound
  residue  : (s.chan (chanOf b)).residue < (s.bay b).markSize

/-- A bay's figures after a reconciliation without an entry to compare with: the gauge is its book (R43 to R45). -/
def State.BooksGauge (s t : State) (b : BayId) (entry : Option Serial) : Prop :=
  (t.bay b).authenticated = true ∧ (t.bay b).entry = entry ∧ (t.bay b).book = (s.bay b).tagGauge
    ∧ (t.bay b).pending = 0

/-- The verdict of a bay whose serial has no entry: by the tag's mark and flags alone (R47). -/
def State.JudgedByTag (s t : State) (b : BayId) : Prop :=
  ((s.bay b).tagRefillMark = true → (t.bay b).verdict = .refilled ∧ (t.bay b).verdictReason = .tagMark)
    ∧ ((s.bay b).tagRefillMark = false → (s.bay b).flagConflict = false → (t.bay b).verdict = .genuine)

/-- The entry made for the cartridge of a bay (R44, R48). -/
def State.EntryMade (t : State) (b : BayId) (id : Identity) : Prop :=
  ∃ x, t.entryOf id.serial = some x ∧ x.installedBay = some b ∧ x.lastBay = b ∧ x.owed = 0
    ∧ x.inkType = id.inkType

/-! ### The flash as the rebuild reads it -/

/-- A slot 1 to 127 of a journal sector whose header carries sector_seq `sec` holds a good record (R171). -/
def Memory.Holds (m : Memory) (j : SecId) (sec slot : Nat) (r : JournalRecord) : Prop :=
  m.classify j = .headed sec ∧ 1 ≤ slot ∧ slot ≤ 127 ∧ goodRecord (m.slot (slotBase j slot)) = some r

/-- A record is the one the rebuild keeps of its serial: the highest journal_seq, then the highest sector_seq,
then the highest slot (R172 step 1). -/
def Memory.Latest (m : Memory) (j : SecId) (sec slot : Nat) (r : JournalRecord) : Prop :=
  m.Holds j sec slot r ∧ ∀ j' sec' slot' r', m.Holds j' sec' slot' r' → r'.serial = r.serial →
    (j' = j ∧ slot' = slot) ∨ r'.seq < r.seq
      ∨ (r'.seq = r.seq ∧ (sec' < sec ∨ (sec' = sec ∧ slot' < slot)))

/-- The serials whose kept record has a journal_seq above `seq`, tombstones left out. -/
def Memory.keptAbove (m : Memory) (seq : Nat) : Nat :=
  ((keptRecords m.allRecords).filter fun f => decide (seq < f.record.seq)).length

/-- The entry of a kept record, as the rebuild makes it (R40, R172 step 4). -/
def JournalRecord.becomes (r : JournalRecord) (j : SecId) (slot : Nat) (e : Entry) : Prop :=
  e.serial = r.serial ∧ e.inkType = r.inkType ∧ e.book = r.book ∧ e.owed = r.owed ∧ e.verdict = r.verdict
    ∧ e.seen = r.seen ∧ e.lastBay.val = r.lastBay ∧ e.installedBay = none
    ∧ e.journalLocation = some ⟨j, slot⟩ ∧ e.journalSeq = r.seq ∧ e.journalDue = false

/-- A headed sector's context after the rebuild: next_slot one past its highest slot that is not blank, ACTIVE
where its sector_seq is the highest and a slot is left, FULL otherwise (R172). -/
def Memory.Resumes (m : Memory) (j : SecId) (seq : Nat) (x : Sector) : Prop :=
  x.seq = some seq ∧ 1 ≤ x.nextSlot ∧ x.nextSlot ≤ 128
    ∧ (∀ slot, x.nextSlot ≤ slot → slot ≤ 127 → m.blank (slotBase j slot) 32 = true)
    ∧ (1 < x.nextSlot → m.blank (slotBase j (x.nextSlot - 1)) 32 = false)
    ∧ ((∀ j' seq', j' ≠ j → m.classify j' = .headed seq' → seq' < seq) → x.nextSlot ≤ 127 → x.state = .active)
    ∧ ((∃ j' seq', m.classify j' = .headed seq' ∧ seq < seq') ∨ x.nextSlot = 128 → x.state = .full)

/-- A next sequence number: one more than the highest of those read, 1 where none is read (R172). -/
def NextAfter (read : Nat → Prop) (next : Nat) : Prop :=
  (∀ n, read n → n < next) ∧ (next = 1 ∨ ∃ n, read n ∧ n + 1 = next)

/-! ### Volumes brought to a channel -/

/-- The channel after an accepted frame: its sequence state and temperature figures (R65, R67). -/
def Channel.afterFrame (ch : Channel) (p : Profile) (t : TallyContent) : Channel :=
  { ch with
    gapCount := min 65535 (ch.gapCount + if ch.seqStarted then (t.seq - ch.lastSeq - 1#16).toNat else 0)
    lastSeq := t.seq, seqStarted := true
    lastTemp := max 10 (min 160 t.temp)
    lastFactor := factorOf p.tempCoeff (max 10 (min 160 t.temp)) }

/-- The volume of a frame under a profile (R68, R69). -/
def volumeOf (p : Profile) (t : TallyContent) : Nat :=
  let f := factorOf p.tempCoeff (max 10 (min 160 t.temp))
  t.nSmall * adjusted p.vSmall f + t.nMedium * adjusted p.vMedium f + t.nLarge * adjusted p.vLarge f

/-- A frame is neither stray nor a duplicate (R63, R65). -/
def Channel.accepts (ch : Channel) (source : TallySource) (t : TallyContent) (p : Profile) : Prop :=
  ch.profile = some p ∧ p.tallySource = source ∧ ¬ (ch.seqStarted = true ∧ t.seq = ch.lastSeq)

/-- The three commands that bring a volume to a channel: an accepted link frame, an accepted TALLY_POST, a
PURGE_POST. With each go the volume, the channel's settle_end once it is done, and the state the command
makes before the volume is charged. -/
inductive Brings (s : State) : Instr → ChanId → Nat → Option Nat → State → Prop
  | frame (f : LinkFrame) (c : ChanId) (p : Profile) (ready : s.port.partState = .ready)
      (good : linkCrcGood f = true) (chan : (linkContent f).channel = c.val)
      (accepted : (s.chan c).accepts .link (linkContent f) p) :
      Brings s (.tallyFrame f) c (volumeOf p (linkContent f)) (s.chan c).settleEnd
        (s.updChan c fun ch => ch.afterFrame p (linkContent f))
  | post (k : SlotId) (target : Word) (a : Args) (t : TallyContent) (c : ChanId) (p : Profile)
      (takes : s.Takes k) (inRange : postContent target a = some t) (chan : t.channel = c.val)
      (accepted : (s.chan c).accepts .ticket t p) :
      Brings s (.tallyPost k target a) c (volumeOf p t) (s.chan c).settleEnd
        ((s.leftFree k 0x01#16 target a).updChan c fun ch => ch.afterFrame p t)
  | purge (k : SlotId) (target : Word) (a : Args) (c : ChanId) (p : Profile) (takes : s.Takes k)
      (chan : target.toNat = c.val) (isSet : (s.chan c).profile = some p) (some' : argNum a 0 2 ≠ 0) :
      Brings s (.purgePost k target a) c (argNum a 0 2 * 10000000) (settleFrom s.outside.now p)
        (s.leftFree k 0x02#16 target a)

end Sys2Proof.Machine
end

