-- ==== Sys2Proof/Certificates/Slice0/Obligations.lean ====
section
/-! DEFINITION. The statements for the provers. -/

open Sys2Proof Sys2Proof.Machine

/-! ### The queue, the reset, and promises at reset -/

/-- A step carries out the command at the front of the queue with the rest of the queue left; with no command
waiting the part idles (the model's own rule, log entry 1). -/
def Obligations.StepRunsFrontCommand : Prop :=
  (∀ (c : Instr) (rest : List Instr) (s : State),
    step { s with pending := c :: rest } = exec c { s with pending := rest })
  ∧ ∀ s : State, s.pending = [] → step s = .next s

/-- What the manual says every block holds after a reset, and that every word of the exchange memory reads
zero then (R17, R36, R40, R95, R153, R195 to R197). -/
def Obligations.ResetValues : Prop :=
  ((∀ b : BayId, (State.reset.bay b).state = .empty ∧ (State.reset.bay b).verdict = .none
        ∧ (State.reset.bay b).identity = none ∧ (State.reset.bay b).entry = none
        ∧ (State.reset.bay b).wants = Wants.none ∧ (State.reset.bay b).burnToken = 0#8
        ∧ (State.reset.bay b).gaugeKnown = false ∧ (State.reset.bay b).tagGauge = 0
        ∧ (State.reset.bay b).pending = 0 ∧ (State.reset.bay b).book = 0
        ∧ (State.reset.bay b).sense = Sense.default)
    ∧ State.reset.latch = false ∧ State.reset.auth.fifo = [] ∧ State.reset.auth.current = none
    ∧ State.reset.history.live = [] ∧ State.reset.history.tombs = [] ∧ State.reset.history.fifo = []
    ∧ State.reset.history.useCounter = 0
    ∧ (∀ c : ChanId, (State.reset.chan c).profile = none ∧ (State.reset.chan c).feedState = .closed
        ∧ (State.reset.chan c).total = 0 ∧ (State.reset.chan c).skippedSamples = 0
        ∧ State.reset.feedA c = false ∧ State.reset.feedB c = false)
    ∧ (∀ e : EngId, (State.reset.eng e).activity = .idle ∧ (State.reset.eng e).queue = [])
    ∧ (∀ k : SlotId, (State.reset.slot k).hand = .free)
    ∧ State.reset.port.partState = .starting ∧ State.reset.port.resetPending = false
    ∧ State.reset.port.notices = 0#8 ∧ State.reset.port.enables = 0#8 ∧ State.reset.port.routes = 0#8
    ∧ State.reset.port.line0 = false ∧ State.reset.port.line1 = false
    ∧ State.reset.selfTest.running = false)
  ∧ (∀ a : Nat, a < 0x2000 → State.reset.hostRead a = 0#16)

/-- The promises of this file's invariants hold right after reset. -/
def Obligations.ResetIsSound : Prop :=
  (∀ b, (State.reset.bay b).Balanced) ∧ (∀ b, (State.reset.bay b).SensedOnlyWhileFit)
  ∧ (∀ c, (State.reset.chan c).Conserved) ∧ State.reset.FeedSound ∧ State.reset.history.Sound
  ∧ State.reset.EntriesFollow ∧ State.reset.ArrivalsSound ∧ State.reset.QueuesFit
  ∧ State.reset.EnginesServed ∧ State.reset.StartsClean ∧ State.reset.flash.wf = true
  ∧ State.reset.gens.Even

/-! ### Arithmetic -/

/-- R67, R68: T is temp held within 10 to 160, F is `4096 + k × (T − 50)` held within 2048 to 6144, and the
adjusted drop volume is `v × F / 4096` to the nearest integer, an exact half rounded up, at most 1535. -/
def Obligations.FactorAndRounding : Prop :=
  (∀ v f : Nat, adjusted v f = (v * f + 2048) / 4096
      ∧ 2 * 4096 * adjusted v f ≤ 2 * (v * f) + 4096 ∧ 2 * (v * f) < 2 * 4096 * adjusted v f + 4096
      ∧ (v ≤ 1023 → 2048 ≤ f → f ≤ 6144 → adjusted v f ≤ 1535)
      ∧ adjusted 0 f = 0)
  ∧ (∀ (k : Int) (temp : Nat),
      (10 ≤ temp → temp ≤ 160 → clampTemp temp = temp) ∧ (temp < 10 → clampTemp temp = 10)
      ∧ (160 < temp → clampTemp temp = 160)
      ∧ 2048 ≤ factorOf k (clampTemp temp) ∧ factorOf k (clampTemp temp) ≤ 6144
      ∧ (2048 ≤ 4096 + k * ((clampTemp temp : Int) - 50) → 4096 + k * ((clampTemp temp : Int) - 50) ≤ 6144 →
          (factorOf k (clampTemp temp) : Int) = 4096 + k * ((clampTemp temp : Int) - 50))
      ∧ (4096 + k * ((clampTemp temp : Int) - 50) < 2048 → factorOf k (clampTemp temp) = 2048)
      ∧ (6144 < 4096 + k * ((clampTemp temp : Int) - 50) → factorOf k (clampTemp temp) = 6144))

/-- R121: the estimate is the floor of the exact quotient, toward the lower integer, held within 0 to C. -/
def Obligations.EstimateIsClampedFloor : Prop :=
  ∀ reading sEmpty sFull capacity : Nat, sFull ≠ sEmpty →
    ∃ q : Int,
      (sEmpty < sFull →
        q * ((sFull : Int) - sEmpty) ≤ ((reading : Int) - sEmpty) * capacity
          ∧ ((reading : Int) - sEmpty) * capacity < (q + 1) * ((sFull : Int) - sEmpty))
      ∧ (sFull < sEmpty →
        q * ((sEmpty : Int) - sFull) ≤ ((sEmpty : Int) - reading) * capacity
          ∧ ((sEmpty : Int) - reading) * capacity < (q + 1) * ((sEmpty : Int) - sFull))
      ∧ (q < 0 → estimateOf reading sEmpty sFull capacity = 0)
      ∧ ((capacity : Int) < q → estimateOf reading sEmpty sFull capacity = capacity)
      ∧ (0 ≤ q → q ≤ capacity → (estimateOf reading sEmpty sFull capacity : Int) = q)

/-! ### Formats -/

/-- Content of 30 bytes with its CRC appended is CRC-good, and reads back as that content (R1). -/
def Obligations.SealedBlocksAreGood : Prop :=
  ∀ content : List Byte, content.length = 30 →
    crcGood (Machine.sealed content) = true ∧ contentOf (Machine.sealed content) = content

/-- The 32-byte blocks of a sector header, a journal record and a profile record are read as the header, record
and profile they were made of, for every value of their fields (R160, R170, R171, R213). It speaks of blocks, not
of the flash they are stored in. -/
def Obligations.FlashRecordsRoundTrip : Prop :=
  ((∀ seq : Nat, 1 ≤ seq → seq ≤ top32 → headerSeq (headerBlock seq) = some seq)
    ∧ ∀ r : JournalRecord, 1 ≤ r.seq → r.seq ≤ top32 → r.verdict ≠ .unread →
        (if r.verdict = .none then r.inkType = 0 ∧ r.book = 0 ∧ r.owed = 0 ∧ r.seen = 0#6 ∧ r.lastBay = 0
          else 1 ≤ r.inkType ∧ r.inkType ≤ 65535 ∧ r.book ≤ 4095 ∧ r.owed ≤ 4095 ∧ r.lastBay < 24) →
        goodRecord r.block = some r)
  ∧ (∀ (c : ChanId) (p : Profile), 1 ≤ p.inkType → p.inkType ≤ 65535 → -64 ≤ p.tempCoeff → p.tempCoeff ≤ 63 →
      p.vSmall ≤ 1023 → p.vMedium ≤ 1023 → p.vLarge ≤ 1023 → p.switchMarks ≤ 4095 → p.lowMarks ≤ 4095 →
      p.settleInterval ≤ 15 → (p.sensePeriod = 0 ∨ 5 ≤ p.sensePeriod) → p.sensePeriod ≤ 255 →
      p.sEmpty ≤ 255 → p.sFull ≤ 255 → 1 ≤ p.tolerance → p.tolerance ≤ 1023 → 4 ≤ p.window → p.window ≤ 32 →
      judgeProfileSlot c (profileRecord c p) = .good p)

/-- What a tag sends back is classified as R14 says, for each command and each way R7 to R12 let the tag answer:
the ACK with the payload of its command, where it does the work within the attempt, where its stored response or
its burn memory gives the answer, and where the flag is set already; BUSY where it goes on working, with the work
it goes on with; REFUSED to a BURN past its gauge; and BUSY to every command while it works (R212). A repeated
token burns no further marks. The bits of an answer frame on the line are heard as that frame, alone and after the
beginning of another frame that it breaks off; without its last bit, or with a 1 for it, no frame is complete
(R212). -/
def Obligations.ReadyTagAnswersAreUnderstood : Prop :=
  (∀ f : AnswerFrame, f.payload.length ≤ 255 →
    answerHeard (answerBits f) = some f
    ∧ (∀ (g : AnswerFrame) (n : Nat), g.payload.length ≤ 255 → n < (answerBits g).length →
        answerHeard ((answerBits g).take n ++ answerBits f) = some f)
    ∧ (∀ n, n < (answerBits f).length → answerHeard ((answerBits f).take n) = none)
    ∧ answerHeard ((answerBits f).dropLast ++ [true]) = none)
  ∧ ∀ t : Tag,
    (∀ b : Fin 4, (t.hearRead b).reply.map (classify (.readBlock b)) = some (.ack (.block (t.block b)))
        ∧ (t.hearRead b).cartridge = t.cartridge
        ∧ (t.hearRead b).burnMemory = if b = 0 then none else t.burnMemory)
    ∧ (∀ c : Bytes16, (∀ r, t.stored ≠ some (c, r)) →
        (t.hearChallenge c true).reply.map (classify (.challenge c))
          = some (.ack (.response (keyRespond t.cartridge.key c)))
        ∧ (t.hearChallenge c true).stored = some (c, keyRespond t.cartridge.key c)
        ∧ (t.hearChallenge c false).reply.map (classify (.challenge c)) = some .busy
        ∧ (t.hearChallenge c false).work = some (.responding c) ∧ (t.hearChallenge c false).stored = none)
    ∧ (∀ (c r : Bytes16) (atOnce : Bool), t.stored = some (c, r) →
        (t.hearChallenge c atOnce).reply.map (classify (.challenge c)) = some (.ack (.response r))
        ∧ (t.hearChallenge c atOnce).stored = t.stored ∧ (t.hearChallenge c atOnce).work = t.work)
    ∧ (∀ (n : Nat) (token : Byte), (∀ g, t.burnMemory ≠ some (token, g)) → n ≤ t.gauge →
        (t.hearBurn n token true).reply.map (classify (.burn n token)) = some (.ack (.burned (t.gauge - n)))
        ∧ (t.hearBurn n token true).gauge = t.gauge - n
        ∧ ((t.hearBurn n token true).hearBurn n token true).gauge = t.gauge - n
        ∧ (t.hearBurn n token false).reply.map (classify (.burn n token)) = some .busy
        ∧ (t.hearBurn n token false).work = some (.burning n token)
        ∧ (t.hearBurn n token false).gauge = t.gauge
        ∧ (t.hearBurn n token false).burnMemory = some (token, t.gauge - n))
    ∧ (∀ (n : Nat) (token : Byte), (∀ g, t.burnMemory ≠ some (token, g)) → t.gauge < n → ∀ atOnce,
        (t.hearBurn n token atOnce).reply.map (classify (.burn n token)) = some .refused
        ∧ (t.hearBurn n token atOnce).gauge = t.gauge)
    ∧ (∀ (n g : Nat) (token : Byte) (atOnce : Bool), t.burnMemory = some (token, g) → g < 65536 →
        (t.hearBurn n token atOnce).reply.map (classify (.burn n token)) = some (.ack (.burned g))
        ∧ (t.hearBurn n token atOnce).cartridge = t.cartridge ∧ (t.hearBurn n token atOnce).work = t.work)
    ∧ (∀ f : TagFlag, (t.hearSetFlag f true).reply.map (classify (.setFlag f)) = some (.ack .flagSet)
        ∧ (t.hearSetFlag f true).hasFlag f = true ∧ (t.hearSetFlag f true).gauge = t.gauge
        ∧ (t.hasFlag f = true →
            (t.hearSetFlag f false).reply.map (classify (.setFlag f)) = some (.ack .flagSet)
            ∧ (t.hearSetFlag f false).cartridge = t.cartridge ∧ (t.hearSetFlag f false).work = t.work)
        ∧ (t.hasFlag f = false →
            (t.hearSetFlag f false).reply.map (classify (.setFlag f)) = some .busy
            ∧ (t.hearSetFlag f false).cartridge = t.cartridge
            ∧ (t.hearSetFlag f false).work = some (.writing f)))
    ∧ (∀ (reading : Byte) (ok : Bool),
        (t.hearSense true reading ok).reply.map (classify .readSense) = some (.ack (.level reading ok))
        ∧ (t.hearSense false reading ok).reply.map (classify .readSense) = some .busy
        ∧ (t.hearSense false reading ok).work = some .measuring)
    ∧ (∀ (c : TagCommand) (atOnce : Bool) (reading : Byte) (ok : Bool), t.work ≠ none →
        (t.hear c atOnce reading ok).reply.map (classify c) = some .busy
        ∧ (t.hear c atOnce reading ok).work = t.work ∧ (t.hear c atOnce reading ok).cartridge = t.cartridge)

/-! ### Invariants -/

/-- R81: the book of every bay is its tag_gauge less its pending, after every command, and all three are 0
while gauge_known is false, as it is after every reset. -/
def Obligations.BooksStayBalanced : Prop :=
  (∀ (c : Instr) (s t : State), (∀ b, (s.bay b).Balanced) → exec c s = .next t → ∀ b, (t.bay b).Balanced)
  ∧ (∀ x : Bay, x.Balanced → x.pending ≤ x.tagGauge ∧ x.book = x.tagGauge - x.pending
      ∧ (x.gaugeKnown = false → x.tagGauge = 0 ∧ x.pending = 0 ∧ x.book = 0))
  ∧ ∀ (s : State) (b : BayId), (s.afterReset.bay b).Balanced ∧ (s.afterReset.bay b).gaugeKnown = false

/-- R79: after every command, total = charged + residue + unbooked on every channel while its saturated is false, the
exemption R79 itself makes, and no total passes its range. -/
def Obligations.VolumesStayConserved : Prop :=
  ∀ (c : Instr) (s t : State), (∀ x, (s.chan x).Conserved) → exec c s = .next t → ∀ x, (t.chan x).Conserved

/-- R96: the valve that is open is always the one of the bay that is FEEDING. -/
def Obligations.ValvesFollowTheFeedingBay : Prop :=
  ∀ (c : Instr) (s t : State), s.ValvesMatch → exec c s = .next t →
    t.ValvesMatch ∧ ∀ x : ChanId, ¬ (t.feedA x = true ∧ t.feedB x = true)

/-- R31, R97, R98: after every command a CLOSED channel has no eligible bay, every bay that stands in STANDBY or
FEEDING is eligible, no BARRED bay is, and every DRAINED bay has book 0. -/
def Obligations.FeedStaysSound : Prop :=
  ∀ (c : Instr) (s t : State), s.FeedSound → s.StartsClean → exec c s = .next t → t.FeedSound

/-- R40: no two live entries carry one serial, and no more than 256 places are in use, after every command. -/
def Obligations.HistoryStaysSound : Prop :=
  ∀ (c : Instr) (s t : State), s.history.Sound → exec c s = .next t → t.history.Sound

/-- R41: the entry of an installed cartridge has the book of its bay, after every command. -/
def Obligations.EntriesFollowTheirBays : Prop :=
  ∀ (c : Instr) (s t : State), s.history.Sound → s.StartsClean → s.EntriesFollow → exec c s = .next t →
    t.EntriesFollow

/-- R185: the arrival list holds each slot once and only while it is FILLED, and nothing once READY. -/
def Obligations.ArrivalListStaysSound : Prop :=
  ∀ (c : Instr) (s t : State), s.ArrivalsSound → exec c s = .next t → t.ArrivalsSound

/-- R144, R145: after every command no engine is IDLE with work waiting, and no queue passes 6 entries. What an engine
grants follows R146 to R148: a head passed over 4 times first, then insertion steps, flag writes and burns, the head,
sense reads, the bays of a class round from the pointer; a BURN carries n, the pending marks up to 16, and the bay's
token, which steps (R13, R84). It is stated at two events: the ACK to a READ_SENSE of a bay that is no longer sensed,
which changes nothing but the engine, and a sense timer that expires beside an IDLE engine. -/
def Obligations.EnginesStaySound : Prop :=
  (∀ (c : Instr) (s t : State), s.EnginesServed → exec c s = .next t → t.EnginesServed)
  ∧ (∀ (c : Instr) (s t : State), s.QueuesFit → exec c s = .next t → t.QueuesFit)
  ∧ (∀ (e : EngId) (time : Nat) (rec : Reception) (f : AnswerFrame) (tr : Transaction) (p : Payload) (s : State),
      (s.eng e).activity = .attempt tr → tr.origin = .sense → s.received tr.bay rec = some f →
      classify tr.command f = .ack p → (s.bay tr.bay).state.sensed = false →
      ∃ t, exec (.tagAnswerFrame e rec time) s = .next t
        ∧ ((s.atTime time).updEng e fun x => { x with activity := .idle }).Arbitrated t e (max s.outside.now time))
  ∧ (∀ (b : BayId) (expiry : Nat) (s : State), (s.bay b).sense.timer = some expiry →
      (s.eng (engOf b)).activity = .idle →
      ∃ t first, exec (.senseTimerExpiry b) s = .next t ∧ max s.outside.now expiry ≤ first
        ∧ ((s.atTime expiry).updBay b fun x =>
            { x with sense := { x.sense with timer := none }, wants := { x.wants with sense := true } }).Arbitrated t
            (engOf b) first)

/-- R117, R118: sense timers run and sense wants stand only in STANDBY and FEEDING. -/
def Obligations.SensingStaysWithFitBays : Prop :=
  ∀ (c : Instr) (s t : State), (∀ b, (s.bay b).SensedOnlyWhileFit) → exec c s = .next t →
    ∀ b, (t.bay b).SensedOnlyWhileFit

/-- While STARTING the bays, the channels, the engines, the authentication engine, the latch, the history table,
the self-test record and the store controller keep their reset values, whatever commands come (R17, R95, R196); for
the store's figures that the rebuild sets these are the model's choice (log entry 5). It does not speak of the
exchange port and the two tally counters, which commands change while STARTING. -/
def Obligations.StartingKeepsResetValues : Prop :=
  ∀ (c : Instr) (s t : State), s.StartsClean → exec c s = .next t → t.StartsClean

/-- R180: a command that is no reset and no start-up publishes what it changed: each record whose content differs
after it has its generation word 2 further on, and no other, but for the header, whose word an accepted frame
always takes 2 further on, its temperature and factor changed or not (R78), and the header, channel and engine records
of a CLEAR_COUNTS, whose counters may have stood at 0 (R193); so do the header of a test that starts and ends at its
taking (R201), an engine that ends one transaction and begins another (R136), a bay whose sense want is granted as it
is raised (R143), and a bay that a switch leaves and that feeds again (R102, R110), whose fields come back to the values
they had; and every command leaves the words even. That no other
change comes back within an event, and that a field written with the value it held is no change, is the model's reading
of R180 (log entry 16). -/
def Obligations.ChangesArePublished : Prop :=
  (∀ (c : Instr) (s t : State), c ≠ .powerOnReset → c ≠ .startupRebuildComplete → c ≠ .softReset →
      exec c s = .next t → Published s t ∨ ∃ u : State, t = u.afterReset)
  ∧ (∀ (c : Instr) (s t : State), s.gens.Even → exec c s = .next t → t.gens.Even)
  ∧ (∀ (s u : State) (cmd : Instr) (c : ChanId) (v : Nat) (e : Option Nat), Brings s cmd c v e u →
      (∀ k target a, cmd ≠ .purgePost k target a) →
      ∃ t, exec cmd s = .next t ∧ t.gens.header = s.gens.header + 2#16)

/-- R36: the enforcement latch is off after a reset, ENFORCE turns it on, once on it stays on until the next
reset, and the header shows it. -/
def Obligations.LatchStaysOnUntilReset : Prop :=
  (∀ s : State, s.afterReset.latch = false)
  ∧ (∀ (k : SlotId) (target : Word) (a : Args) (s : State), s.Takes k →
      ∃ t, exec (.enforce k target a) s = .next t ∧ t.latch = true)
  ∧ (∀ (c : Instr) (s t : State), s.latch = true → exec c s = .next t →
      t.latch = true ∨ ∃ u : State, t = u.afterReset)
  ∧ ∀ s : State, (s.hostRead 2).getLsbD 1 = s.latch

/-- The model's own form (log entries 1 and 3): every command answers with a next state and leaves the queue of
waiting commands and the canonical form of the flash; a completion with nothing of its kind in flight changes
nothing. -/
def Obligations.CommandsCompleteInForm : Prop :=
  (∀ (c : Instr) (s : State), ∃ t, exec c s = .next t ∧ t.pending = s.pending)
  ∧ (∀ (c : Instr) (s t : State), s.flash.wf = true → exec c s = .next t → t.flash.wf = true)
  ∧ (∀ s : State,
      (∀ x, (∀ j k r, s.store.op ≠ some (.append j k r)) → exec (.recordProgram x) s = .next s)
      ∧ (∀ x, (∀ j k, s.store.op ≠ some (.header j k)) → exec (.headerProgram x) s = .next s)
      ∧ (∀ x, (∀ j, s.store.op ≠ some (.erase j)) → exec (.sectorErase x) s = .next s)
      ∧ (∀ x, (∀ k c p, s.store.op ≠ some (.profileRewrite k c p)) → exec (.profileRewrite x) s = .next s)
      ∧ ((∀ k m n, s.store.op ≠ some (.checkRead k m n)) → exec .checkStoreRead s = .next s)
      ∧ ((∀ k, s.store.op ≠ some (.profileRead k)) → exec .profileSectorRead s = .next s)
      ∧ (s.port.partState = .ready → exec .startupRebuildComplete s = .next s)
      ∧ (s.auth.current = none → exec .authComputationComplete s = .next s))

/-! ### The tally link and volumes -/

/-- R61 to R63, R65: link frames that are not accepted. An incomplete one counts one CRC error. A complete one
is stray while STARTING; with a bad CRC it counts a CRC error; for no channel, an unset one or one fed by
tickets it is stray; repeating last_seq it is a duplicate. Nothing else of the part changes for it. What the bits of the
link amount to (R212): the start pattern and 15 bytes of eight data bits and a closing 0 are a frame, complete at the
last bit; a 1 for a closing bit, a new start pattern and a pause break one that has begun; no nine 1 bits stand together
inside a frame. -/
def Obligations.LinkFramesTurnedAway : Prop :=
  (∀ c : Instr, c = .tallyLinkPauseTimeout ∨ c = .tallyFrameBroken → ∀ s : State, ∃ t, exec c s = .next t
      ∧ SameButGens { s with tally := { s.tally with tallyCrcErrors := min 65535 (s.tally.tallyCrcErrors + 1) } } t)
  ∧ (∀ (f : LinkFrame) (s : State), ∃ t, exec (.tallyFrame f) s = .next t
      ∧ (s.port.partState = .starting →
          KeptAtEnd { s with tally := { s.tally with strayTallies := min 65535 (s.tally.strayTallies + 1) } } t)
      ∧ (s.port.partState = .ready → linkCrcGood f = false →
          KeptAtEnd { s with tally :=
            { s.tally with tallyCrcErrors := min 65535 (s.tally.tallyCrcErrors + 1) } } t)
      ∧ (s.port.partState = .ready → linkCrcGood f = true →
          (∀ (c : ChanId) (p : Profile), (linkContent f).channel = c.val → (s.chan c).profile = some p →
            p.tallySource ≠ .link) →
          KeptAtEnd { s with tally := { s.tally with strayTallies := min 65535 (s.tally.strayTallies + 1) } } t)
      ∧ (∀ (c : ChanId) (p : Profile), s.port.partState = .ready → linkCrcGood f = true →
          (linkContent f).channel = c.val → (s.chan c).profile = some p → p.tallySource = .link →
          (s.chan c).seqStarted = true → (linkContent f).seq = (s.chan c).lastSeq →
          KeptAtEnd (s.updChan c fun ch =>
            { ch with duplicateCount := min 65535 (ch.duplicateCount + 1) }) t))
  ∧ (∀ (r : Receiver) (f : LinkFrame), r.part = none →
      linkCommands r (lineBits f.toList) = [.tallyFrame f]
      ∧ (r.hearAll linkWhole (lineBits f.toList)).1 = Receiver.idle
      ∧ (∀ n, n < (lineBits f.toList).length → linkCommands r ((lineBits f.toList).take n) = [])
      ∧ (∀ (n : Nat) (d : Byte), n < 15 →
          linkCommands r (lineBits (f.toList.take n) ++ dataBits d ++ [true]) = [.tallyFrameBroken])
      ∧ (∀ (n : Nat) (g : LinkFrame), 17 ≤ n → n < (lineBits f.toList).length →
          linkCommands r ((lineBits f.toList).take n ++ lineBits g.toList) = [.tallyFrameBroken, .tallyFrame g]
          ∧ ((r.hearAll linkWhole ((lineBits f.toList).take n)).1.pause).2.map linkCommand
              = some .tallyLinkPauseTimeout))
  ∧ (∀ l : List Byte, ¬ List.replicate 9 true <:+: l.flatMap byteBits)

/-- R70, R71, R75: on a CLOSED channel the whole volume of a frame, a TALLY_POST or a purge is added to total
and to unbooked, and nothing is charged; a purge starts the settle interval. A sum past the largest value leaves
total at it and sets saturated, whatever the feed. -/
def Obligations.VolumeWithoutFeedIsUnbooked : Prop :=
  (∀ (s u : State) (cmd : Instr) (c : ChanId) (v : Nat) (e : Option Nat), Brings s cmd c v e u →
      s.feedingBay c = none → (s.chan c).total + v < top64 → (s.chan c).unbooked + v < top64 →
      ∃ t, exec cmd s = .next t
        ∧ KeptAtEnd (u.updChan c fun ch =>
            { ch with total := ch.total + v, unbooked := ch.unbooked + v, settleEnd := e }) t)
  ∧ (∀ (s u : State) (cmd : Instr) (c : ChanId) (v : Nat) (e : Option Nat), Brings s cmd c v e u →
      top64 < (s.chan c).total + v →
      ∃ t, exec cmd s = .next t ∧ (t.chan c).total = top64 ∧ (t.chan c).saturated = true)

/-- R72, R73: the feeding bay is charged the whole marks that residue and volume amount to, where its book
stays above 0 and its twin cannot take over: book falls and pending grows by them, the history entry follows,
the burn want is raised for a GENUINE or REFILLED bay, and LEVEL where low_marks is crossed. The entry becomes
journal-due, its RECORD item joining the FIFO unless it waits there, where floor(book / 16) falls (R49, R50), and is as
due as before where it does not and nothing else waits. Where the record of
that entry is being written meanwhile, the change is remembered for its completion (R49, R162; see the statement of
the record programs). -/
def Obligations.FeedingBayIsCharged : Prop :=
  ∀ (s u : State) (cmd : Instr) (c : ChanId) (v : Nat) (e : Option Nat) (b : BayId) (n : Nat),
    Brings s cmd c v e u → s.feedingBay c = some b → (s.bay b).state = .feeding →
    0 < (s.bay b).markSize → n = ((s.chan c).residue + v) / (s.bay b).markSize → n < (s.bay b).book →
    s.eligible (twinOf b) = false → (s.chan c).total + v < top64 →
    (s.chan c).charged + n * (s.bay b).markSize ≤ top64 → (s.chan c).unbooked < top64 →
    ∃ t, exec cmd s = .next t
      ∧ KeptAtEnd { ((u.updChan c fun ch =>
          { ch with total := ch.total + v, residue := (ch.residue + v) % (s.bay b).markSize
                    charged := ch.charged + n * (s.bay b).markSize, settleEnd := e }).updBay b fun x =>
          { x with book := x.book - n, pending := x.pending + n
                   wants := { x.wants with burn := x.wants.burn || (decide (0 < n) && x.verdict.burns) } })
          with history := if n = 0 then s.history
            else s.history.follow (s.bay b).entry ((s.bay b).book - n) } t
      ∧ (∀ p, (s.chan c).profile = some p → 0 < n → p.lowMarks < (s.bay b).book →
          (s.bay b).book - n ≤ p.lowMarks → t.notified .level = true)
      ∧ (∀ (serial : Serial) (h : Entry) (j : SecId) (slot : Nat) (r : JournalRecord),
          (s.bay b).entry = some serial → s.entryOf serial = some h → h.installedBay = some b → 0 < n →
          s.store.op = some (.append j slot r) → r.serial = serial → t.store.mode ≠ .degraded →
          t.store.changed = true)
      ∧ (∀ (serial : Serial) (h : Entry), (s.bay b).entry = some serial → s.entryOf serial = some h → 0 < n →
          ∃ x, t.entryOf serial = some x ∧ x.book = (s.bay b).book - n
            ∧ (((s.bay b).book - n) / 16 < (s.bay b).book / 16 → t.store.mode ≠ .degraded →
                x.journalDue = true ∧ (h.journalDue = false → ⟨serial, false⟩ ∈ t.history.fifo))
            ∧ (((s.bay b).book - n) / 16 = (s.bay b).book / 16 → s.store.mode = .normal →
                s.history.fifo = [] → s.history.joining = [] →
                x.journalDue = h.journalDue ∧ t.history.fifo = []))

/-- R72, R73, R102: a charge of at least the whole book drains the feeding bay; with no eligible twin the
channel closes with reason DRAINED, and the marks past the book become unbooked volume. -/
def Obligations.FeedingBayDrains : Prop :=
  ∀ (s u : State) (cmd : Instr) (c : ChanId) (v : Nat) (e : Option Nat) (b : BayId) (n : Nat),
    Brings s cmd c v e u → s.feedingBay c = some b → (s.bay b).state = .feeding →
    0 < (s.bay b).markSize → n = ((s.chan c).residue + v) / (s.bay b).markSize →
    0 < (s.bay b).book → (s.bay b).book ≤ n → s.eligible (twinOf b) = false →
    (s.chan c).total + v < top64 → (s.chan c).charged + (s.bay b).book * (s.bay b).markSize ≤ top64 →
    (s.chan c).unbooked + (n - (s.bay b).book) * (s.bay b).markSize < top64 →
    ∃ t, exec cmd s = .next t
      ∧ (t.bay b).state = .drained ∧ (t.bay b).book = 0 ∧ (t.bay b).pending = (s.bay b).pending + (s.bay b).book
      ∧ (t.bay b).tagGauge = (s.bay b).tagGauge
      ∧ t.feedingBay c = none ∧ (t.chan c).closedReason = .drained ∧ (t.chan c).feedCause = .drained
      ∧ (t.chan c).residue = ((s.chan c).residue + v) % (s.bay b).markSize
      ∧ (t.chan c).charged = (s.chan c).charged + (s.bay b).book * (s.bay b).markSize
      ∧ (t.chan c).unbooked = (s.chan c).unbooked + (n - (s.bay b).book) * (s.bay b).markSize
      ∧ (t.chan c).settleEnd = e
      ∧ t.notified .level = true ∧ t.notified .bay = true ∧ t.notified .channel = true
      ∧ (∀ b', b' ≠ b → (t.bay b').settled = (s.bay b').settled) ∧ (∀ c', c' ≠ c → t.chan c' = s.chan c')
      ∧ t.flash = s.flash ∧ t.latch = s.latch ∧ t.auth = s.auth

/-- R98 to R102: a charge that drains the feeding bay, or brings its book to or below switch_marks beside a
fuller eligible twin, passes the channel to the twin with cause DRAINED or THRESHOLD; the whole marks the residue
amounts to at the twin are taken from its book (R76). A bay that becomes eligible is taken up the same way: one that
CLEAR_HELD leaves no bar for, and one whose insertion ends with a mismatch or with a reconciliation, at the CHALLENGE's
ACK or at the computation's end, open a CLOSED channel with cause OPENED (R97), and take over from a feeding twin where
the threshold is met (R101). The marks the residue brings leave a book above 0. An insertion that ends without an
identity (R23) or without a gauge leaves the bay BARRED or DRAINED and its channel as it was. -/
def Obligations.ChargesSwitchTheFeed : Prop :=
  (∀ (s u : State) (cmd : Instr) (c : ChanId) (v : Nat) (e : Option Nat) (b : BayId) (n r : Nat) (p : Profile),
    Brings s cmd c v e u → s.feedingBay c = some b → (s.bay b).state = .feeding →
    (s.chan c).profile = some p → 0 < (s.bay b).markSize →
    n = ((s.chan c).residue + v) / (s.bay b).markSize → 0 < n → s.eligible (twinOf b) = true →
    r = ((s.chan c).residue + v) % (s.bay b).markSize →
    r / (s.bay (twinOf b)).markSize < (s.bay (twinOf b)).book → 0 < (s.bay b).book →
    ∃ t, exec cmd s = .next t
      ∧ ((s.bay b).book ≤ n → s.FeedsFrom t (twinOf b) .drained r ∧ (t.bay b).state = .drained ∧ (t.bay b).book = 0)
      ∧ (n < (s.bay b).book → (s.bay b).book - n ≤ p.switchMarks → p.switchMarks < (s.bay (twinOf b)).book →
          s.FeedsFrom t (twinOf b) .threshold r ∧ (t.bay b).state = .standby ∧ (t.bay b).book = (s.bay b).book - n))
  ∧ (∀ (k : SlotId) (target : Word) (a : Args) (b : BayId) (set : HeldSet) (s : State), s.Takes k →
    target.toNat = b.val → (argByte a 0).toNat = set.toNat → s.port.bayOrder[b] = [] →
    (s.bay b).state = .barred → (s.bay b).sense.held &&& set ≠ 0#5 →
    barReasonFor s.latch (s.profileOf b) { s.bay b with
      sense := { (s.bay b).sense with held := (s.bay b).sense.held &&& ~~~set } } = .none →
    ∃ t, exec (.clearHeld k target a) s = .next t ∧ s.TakesUpEligible t b)
  ∧ (∀ (cmd : Instr) (now : Nat) (b : BayId) (resp expected : Bytes16) (s : State),
    s.ResponsesMeet b cmd now resp expected → (s.bay b).state = .challenging →
    (resp ≠ expected → barReasonFor s.latch (s.profileOf b) { s.bay b with verdict := .foreign } = .none →
      ∃ t, exec cmd s = .next t ∧ (s.atTime now).TakesUpEligible t b)
    ∧ (∀ (id : Identity) (p : Profile) (book pending : Nat), resp = expected → (s.bay b).gaugeKnown = true →
        (s.bay b).identity = some id → s.profileOf b = some p → p.inkType = id.inkType →
        s.ReconcilesTo b id book pending → s.latch = false ∨ s.ReconcilesClean b id →
        ∃ t, exec cmd s = .next t
          ∧ ((s.atTime now).updBay b fun x => { x with book := book, pending := pending }).TakesUpEligible t b)
    ∧ (resp = expected → (s.bay b).gaugeKnown = false →
        ∃ t, exec cmd s = .next t ∧ (t.bay b).state = .barred ∧ t.channels = s.channels))
  ∧ ∀ (e : EngId) (time : Nat) (rec : Reception) (f : AnswerFrame) (tr : Transaction) (blk : Block) (s : State),
    (s.eng e).activity = .attempt tr → tr.origin = .insertion → tr.command = .readBlock 1 →
    (s.bay tr.bay).state = .identifying → (s.bay tr.bay).identity = none → (s.bay tr.bay).gaugeKnown = false →
    s.received tr.bay rec = some f → classify tr.command f = .ack (.block blk) →
    ∃ t, exec (.tagAnswerFrame e rec time) s = .next t ∧ t.channels = s.channels
      ∧ (t.bay tr.bay).verdict = (s.bay tr.bay).verdict ∧ t.eligible tr.bay = false
      ∧ (∀ g, gaugeOf 4095 blk = some g →
          (t.bay tr.bay).state = (if g.gauge = 0 then .drained else .barred) ∧ (t.bay tr.bay).gaugeKnown = true
          ∧ (t.bay tr.bay).tagGauge = g.gauge ∧ (t.bay tr.bay).book = g.gauge ∧ (t.bay tr.bay).pending = 0)
      ∧ (gaugeOf 4095 blk = none → (t.bay tr.bay).state = .barred ∧ (t.bay tr.bay).gaugeKnown = false)

/-- R63, R64, R75, R186, R187, R202: a posted ticket whose kind or arguments the owning rule rejects is freed
without effect and counted; a TALLY_POST for no channel, an unset one or one fed by the link is stray; a ticket
of no kind is answered BAD_KIND, and a SELF_TEST whose code names no test BAD_ARGUMENT. -/
def Obligations.TicketsTurnedAway : Prop :=
  (∀ (k : SlotId) (target : Word) (a : Args) (s : State), s.Takes k →
      (postContent target a = none → ∃ t, exec (.tallyPost k target a) s = .next t
        ∧ KeptAtEnd (s.leftFree k 0x01#16 target a).rejectedOne t)
      ∧ (11 < target.toNat ∨ argNum a 0 2 = 0
          ∨ (∃ c : ChanId, target.toNat = c.val ∧ (s.chan c).profile = none) →
        ∃ t, exec (.purgePost k target a) s = .next t
          ∧ KeptAtEnd (s.leftFree k 0x02#16 target a).rejectedOne t)
      ∧ ∀ kind : Word, 3 ≤ kind.toNat → kind.toNat ≤ 15 → ∃ t, exec (.postedReject k kind target a) s = .next t
          ∧ SameButGens (s.leftFree k kind target a).rejectedOne t)
  ∧ (∀ (k : SlotId) (target : Word) (a : Args) (x : TallyContent) (s : State), s.Takes k →
      postContent target a = some x →
      (∀ (c : ChanId) (p : Profile), x.channel = c.val → (s.chan c).profile = some p → p.tallySource ≠ .ticket) →
      ∃ t, exec (.tallyPost k target a) s = .next t
        ∧ KeptAtEnd { s.leftFree k 0x01#16 target a with
            tally := { s.tally with strayTallies := min 65535 (s.tally.strayTallies + 1) } } t)
  ∧ (∀ (k : SlotId) (s : State), s.Takes k →
      (∀ (kind target : Word) (a : Args), kind.toNat = 0 ∨ 0x19 < kind.toNat →
        ∃ t, exec (.badKind k kind target a) s = .next t
          ∧ SameButGens (s.leftAnswered k kind target a (plainAnswer .badKind)) t)
      ∧ ∀ code bay : Byte, code.toNat ∉ [2, 3, 5, 6, 9] → ∃ t, exec (.selfTestBadCode k code bay) s = .next t
          ∧ KeptAtEnd (s.leftAnswered k 0x18#16 0#16 (selfTestArgs code bay) (plainAnswer .badArgument)) t)

/-! ### Tickets and hand words -/

/-- R179, R182 to R185, R187, R188: a ticket taken at READY leaves its slot FREE when it is a posted one, and
TAKEN or ANSWERED otherwise. In a TAKEN or ANSWERED slot the request is discarded and the hand write counted; in
a FILLED one the request is written and the hand write counted; in a FREE one the hand becomes FILLED, and the
slot joins the arrival list while STARTING and no list while a soft reset is pending. -/
def Obligations.TicketsMoveTheirSlot : Prop :=
  (∀ (c : Instr) (k : SlotId) (kind target : Word) (a : Args) (s : State),
      ticketOf c = some (k, kind, target, a) → s.Takes k →
      ∃ t, exec c s = .next t
        ∧ (1 ≤ kind.toNat → kind.toNat ≤ 15 → (t.slot k).hand = .free)
        ∧ (kind.toNat = 0 ∨ 15 < kind.toNat → (t.slot k).hand = .taken ∨ (t.slot k).hand = .answered))
  ∧ (∀ (c : Instr) (k : SlotId) (kind target : Word) (a : Args) (s : State),
      ticketOf c = some (k, kind, target, a) →
      ∃ t, exec c s = .next t
        ∧ ((s.slot k).hand = .taken ∨ (s.slot k).hand = .answered → SameButGens s.ignoredOne t)
        ∧ ((s.slot k).hand = .filled → SameButGens (s.leftFilled k kind target a).ignoredOne t)
        ∧ ((s.slot k).hand = .free → s.port.resetPending = true →
            SameButGens (s.leftFilled k kind target a) t)
        ∧ ((s.slot k).hand = .free → s.port.resetPending = false → s.port.partState = .starting →
            SameButGens ((s.leftFilled k kind target a).updPort fun p =>
              { p with arrivals := p.arrivals ++ [k] }) t))

/-- R183 to R185: what each write to a hand word does, by the hand before and the value (log entry 11). -/
def Obligations.HandWritesFollowTheTable : Prop :=
  ∀ (k : SlotId) (s : State),
    ((s.slot k).hand = .free → s.port.resetPending = false → s.port.partState = .starting →
      ∃ t, exec (.arrivalWhileStarting k) s = .next t
        ∧ SameButGens ((s.updSlot k fun x => { x with hand := .filled }).updPort fun p =>
            { p with arrivals := p.arrivals ++ [k] }) t)
    ∧ ((s.slot k).hand = .free → s.port.resetPending = true →
      exec (.arrivalWhileResetPending k) s = .next (s.updSlot k fun x => { x with hand := .filled }))
    ∧ ((s.slot k).hand = .filled → ∃ t, exec (.withdrawal k) s = .next t
        ∧ SameButGens ((s.updSlot k fun x => { x with hand := .free }).updPort fun p =>
            { p with arrivals := p.arrivals.filter fun x => x != k }) t)
    ∧ ((s.slot k).hand = .answered →
      exec (.release k) s = .next (s.updSlot k fun x => { x with hand := .free }))
    ∧ ∀ v : Word, ¬ ((s.slot k).hand = .free ∧ v = 1#16) →
        ¬ (((s.slot k).hand = .filled ∨ (s.slot k).hand = .answered) ∧ v = 0#16) →
        ∃ t, exec (.ignoredHandWrite k v) s = .next t ∧ SameButGens s.ignoredOne t

/-- R179: a host write of one word. Writes to records, to status words and answer areas, to unused addresses and
to read-only registers are discarded and change nothing; one to a hand word is the hand write of that slot; one
to the request area changes that word alone while the hand is FREE or FILLED and is discarded otherwise. One to
NOTICE_CLEAR, NOTICE_ENABLE, NOTICE_ROUTE or RESET_REQ is the row of that register with the word written (R194, R195,
R198). -/
def Obligations.HostWritesAreFiltered : Prop :=
  ∀ (a : Nat) (v : Word) (s : State), a % 2 = 0 → a < 0x4000 →
    (a < 0x1000 ∨ (0x1000 ≤ a ∧ a < 0x1800 ∧ 32 ≤ a % 64) ∨ (0x1800 ≤ a ∧ a ≤ 0x2004) ∨ 0x200C < a →
      exec (.hostWrite a v) s = .next s)
    ∧ (∀ k : SlotId, k.val = (a - 0x1000) / 64 → 0x1000 ≤ a → a < 0x1800 → a % 64 = 0 →
        exec (.hostWrite a v) s = exec (.ignoredHandWrite k v) s)
    ∧ (a = 0x2006 → exec (.hostWrite a v) s = exec (.noticeClear v) s)
    ∧ (a = 0x2008 → exec (.hostWrite a v) s = exec (.noticeEnable v) s)
    ∧ (a = 0x200A → exec (.hostWrite a v) s = exec (.noticeRoute v) s)
    ∧ (a = 0x200C → exec (.hostWrite a v) s = exec (.resetReq v) s)
    ∧ ∀ k : SlotId, k.val = (a - 0x1000) / 64 → 0x1000 ≤ a → a < 0x1800 → 2 ≤ a % 64 → a % 64 < 32 →
        (((s.slot k).hand = .taken ∨ (s.slot k).hand = .answered) → exec (.hostWrite a v) s = .next s)
        ∧ (((s.slot k).hand = .free ∨ (s.slot k).hand = .filled) →
            ∃ t, exec (.hostWrite a v) s = .next t ∧ t.hostRead a = v
              ∧ (∀ a', a' % 2 = 0 → a' ≠ a → t.hostRead a' = s.hostRead a')
              ∧ ∃ f : Slot → Slot, t = s.updSlot k f)

/-- R55: a HISTORY_QUERY is answered at its taking with the live entry's content, owed being the installed
bay's pending, or NOT_FOUND; it changes nothing but its slot. -/
def Obligations.HistoryQueryAnswersTheEntry : Prop :=
  ∀ (k : SlotId) (target : Word) (a : Args) (s : State), s.Takes k →
    ∃ (t : State) (r : Answer), exec (.historyQuery k target a) s = .next t
      ∧ SameButGens (s.leftAnswered k 0x13#16 target a r) t ∧ r.high = 0#8
      ∧ ((∀ e ∈ s.history.live, e.serial ≠ argSerial a) → r = plainAnswer .notFound)
      ∧ ∀ e, s.entryOf (argSerial a) = some e → r.status = .done
          ∧ fieldAt r.area.toList 0 8 = e.serial.toNat
          ∧ (e.inkType < 65536 → fieldAt r.area.toList 8 2 = e.inkType)
          ∧ (e.book < 65536 → fieldAt r.area.toList 10 2 = e.book)
          ∧ (e.installedBay = none → e.owed < 65536 → fieldAt r.area.toList 12 2 = e.owed)
          ∧ (∀ b, e.installedBay = some b → (s.bay b).pending < 65536 →
              fieldAt r.area.toList 12 2 = (s.bay b).pending)
          ∧ byteAt r.area.toList 14 = e.verdict.code
          ∧ byteAt r.area.toList 15 = e.seen.setWidth 8
          ∧ (byteAt r.area.toList 16).toNat = (match e.installedBay with | some b => b.val | none => 255)
          ∧ (byteAt r.area.toList 17).toNat = e.lastBay.val
          ∧ (e.useStamp ≤ top32 → fieldAt r.area.toList 18 4 = e.useStamp)
          ∧ (byteAt r.area.toList 22 = 1#8 ↔ e.journalDue = true)
          ∧ (e.journalLocation = none → byteAt r.area.toList 23 = 0#8 ∧ byteAt r.area.toList 24 = 0#8)
          ∧ (∀ l, e.journalLocation = some l → (byteAt r.area.toList 23).toNat = l.sector.val + 1
              ∧ (l.slot < 256 → (byteAt r.area.toList 24).toNat = l.slot))
          ∧ (e.journalSeq ≤ top32 → fieldAt r.area.toList 25 4 = e.journalSeq)

/-- R56, R57: FORGET_SERIAL is answered by the first of its conditions that holds, whatever its target; DONE removes the
entry, and its place is held for a tombstone unless the journal is degraded: its waiting item becomes the tombstone
item in place, or the tombstone item joins the tail. That it joins at the taking, ahead of the items that become due
at the same event, is the model's reading (log entry 27). -/
def Obligations.ForgetSerialFollowsItsConditions : Prop :=
  ∀ (k : SlotId) (target : Word) (a : Args) (s : State), s.Takes k →
    ∃ t, exec (.forgetSerial k target a) s = .next t
      ∧ (s.latch = true → KeptAtEnd (s.leftAnswered k 0x14#16 target a (plainAnswer .enforced)) t)
      ∧ (s.latch = false → s.entryOf (argSerial a) = none →
          KeptAtEnd (s.leftAnswered k 0x14#16 target a (plainAnswer .notFound)) t)
      ∧ ∀ e, s.latch = false → s.entryOf (argSerial a) = some e →
          (e.installedBay ≠ none →
            KeptAtEnd (s.leftAnswered k 0x14#16 target a (plainAnswer .installed)) t)
          ∧ (e.installedBay = none →
            KeptAtEnd { s.leftAnswered k 0x14#16 target a (plainAnswer .done) with
              history := { s.history with live := s.history.live.filter fun x => x.serial != argSerial a } } t
            ∧ t.entryOf (argSerial a) = none
            ∧ (t.store.mode ≠ .degraded → argSerial a ∈ t.history.tombs
                ∧ (e.journalDue = true → (s.history.turnItem (argSerial a) true).fifo <+: t.history.fifo)
                ∧ (e.journalDue = false → s.history.fifo ++ [⟨argSerial a, true⟩] <+: t.history.fifo)))

/-- R37: ENFORCE taken with the latch on changes nothing and is answered DONE with was_on; taken with it off
it turns it on, bars every decided bay that a condition under the latch fails, and raises the REFILL_MARK
write want of every authenticated REFILLED bay whose tag lacks the mark. A feeding bay that is barred is cut: its channel
passes to a twin that stands by and is eligible under the latch, and closes with reason BARRED beside one that is not
(R103); of two twins one at most feeds (ValvesFollowTheFeedingBay). -/
def Obligations.EnforceTurnsTheLatchOn : Prop :=
  ∀ (k : SlotId) (target : Word) (a : Args) (s : State), s.Takes k →
    ∃ t, exec (.enforce k target a) s = .next t ∧ t.latch = true
      ∧ (s.latch = true → KeptAtEnd (s.leftAnswered k 0x17#16 target a (answerOf .done [1#8])) t)
      ∧ (s.latch = false → t.slot k = requestSlot .answered 0x17#16 target a 0x0001#16 (fitList 30 0#8 [0#8]))
      ∧ ∀ b : BayId, (s.bay b).state.decided = true → s.latch = false →
          ((s.bay b).state ≠ .drained → barReasonFor true (s.profileOf b) (s.bay b) ≠ .none →
            ((s.bay b).gaugeKnown = true → (s.bay b).book ≠ 0) →
            (t.bay b).state = .barred
              ∧ (t.bay b).barReason = barReasonFor true (s.profileOf b) (s.bay b)
              ∧ ((s.bay b).state = .feeding →
                  ({ s with latch := true } : State).eligible (twinOf b) = true → (s.bay (twinOf b)).state = .standby →
                  ({ s with latch := true } : State).PassesFeed t b .barred .barred)
              ∧ ((s.bay b).state = .feeding → ({ s with latch := true } : State).eligible (twinOf b) = false →
                  (s.bay (twinOf b)).state ≠ .feeding →
                  ({ s with latch := true } : State).PassesFeed t b .barred .barred))
          ∧ ((s.bay b).verdict = .refilled → (s.bay b).authenticated = true →
              (s.bay b).tagRefillMark = false → (t.bay b).wants.refillMark = true)

/-- R193: CLEAR_COUNTS zeroes the counters of its table, is answered DONE, and changes nothing else; each
record whose counters it zeroes, the header, every channel record and every engine record, is updated under one
generation pair, whether or not the counters stood at 0. -/
def Obligations.ClearCountsZeroesItsCounters : Prop :=
  ∀ (k : SlotId) (target : Word) (a : Args) (s : State), s.Takes k →
    ∃ t, exec (.clearCounts k target a) s = .next t ∧ Published s t
      ∧ t.gens.header = s.gens.header + 2#16
      ∧ (∀ c : ChanId, t.gens.channels[c] = s.gens.channels[c] + 2#16)
      ∧ (∀ e : EngId, t.gens.engines[e] = s.gens.engines[e] + 2#16)
      ∧ t.gens.bays = s.gens.bays
      ∧ SameButGens
          { s.leftAnswered k 0x19#16 target a (plainAnswer .done) with
            channels := mapAll s.channels fun _ ch =>
              { ch with gapCount := 0, duplicateCount := 0, skippedSamples := 0 }
            engines := mapAll s.engines fun _ x =>
              { x with retryTally := 0#16, rollover := false, discardCount := 0, lastDiscardBay := none
                       lastDiscardCause := .none }
            tally := { tallyCrcErrors := 0, strayTallies := 0 }
            port := { (s.leftAnswered k 0x19#16 target a (plainAnswer .done)).port with
              ignoredHandWrites := 0, postedRejects := 0 } } t

/-- R168, R173, R175: SET_PROFILE and CHECK_STORE are decided by the first condition that holds; one that joins
the store ticket list reaches an idle flash at once, and waits behind an operation in flight. The sectors of a
CHECK_STORE run from first to `min(first + count, 8)`. -/
def Obligations.StoreTicketsFollowTheirConditions : Prop :=
  (∀ (k : SlotId) (target : Word) (a : Args) (s : State), s.Takes k →
      ∃ t, exec (.setProfile k target a) s = .next t
        ∧ (11 < target.toNat ∨ decodeProfile (a.toList.take 22) = none →
            KeptAtEnd (s.leftAnswered k 0x10#16 target a (plainAnswer .badArgument)) t)
        ∧ ∀ (c : ChanId) (p : Profile), target.toNat = c.val → decodeProfile (a.toList.take 22) = some p →
            (s.store.powerWarning = true →
              KeptAtEnd (s.leftAnswered k 0x10#16 target a (plainAnswer .powerWarning)) t)
            ∧ (s.store.powerWarning = false → (s.chan c).profile.map (·.inkType) ≠ some p.inkType →
                ((s.bay (bayA c)).state ≠ .empty ∨ (s.bay (bayB c)).state ≠ .empty) →
                KeptAtEnd (s.leftAnswered k 0x10#16 target a (plainAnswer .channelOccupied)) t)
            ∧ (s.store.powerWarning = false →
                ((s.chan c).profile.map (·.inkType) = some p.inkType
                  ∨ ((s.bay (bayA c)).state = .empty ∧ (s.bay (bayB c)).state = .empty)) →
                KeptAtEnd ((s.leftTaken k 0x10#16 target a none none).joinStore (.setProfile k c p)) t
                ∧ (s.store.op ≠ none → t.store.tickets = s.store.tickets ++ [.setProfile k c p])
                ∧ (s.store.op = none → s.store.tickets = [] → t.store.op = some (.profileRewrite k c p))))
  ∧ (∀ (k : SlotId) (target : Word) (a : Args) (s : State), s.Takes k →
      ∃ t, exec (.checkStore k target a) s = .next t
        ∧ (8 < argNum a 0 2 → KeptAtEnd (s.leftAnswered k 0x11#16 target a (plainAnswer .badArgument)) t)
        ∧ (argNum a 0 2 ≤ 8 →
            KeptAtEnd ((s.leftTaken k 0x11#16 target a none none).joinStore
              (.checkStore k (argNum a 0 2) (min (argNum a 0 2 + argNum a 2 2) 8))) t
            ∧ (s.store.op ≠ none → t.store.tickets
                = s.store.tickets ++ [.checkStore k (argNum a 0 2) (min (argNum a 0 2 + argNum a 2 2) 8)])
            ∧ (s.store.op = none → s.store.tickets = [] → s.store.powerWarning = false →
                t.store.op = some (.checkRead k (argNum a 0 2) (min (argNum a 0 2 + argNum a 2 2) 8)))))

/-- R150, R189: READ_TAG_BLOCK for no bay or, at its turn, for no block or an EMPTY or SETTLING bay is
answered at its taking; behind a waiting ticket of the bay its result is held; any other joins its engine's
queue, or is parked where the queue is full. -/
def Obligations.ReadTagBlockFollowsItsConditions : Prop :=
  ∀ (k : SlotId) (target : Word) (a : Args) (s : State), s.Takes k →
    ∃ t, exec (.readTagBlock k target a) s = .next t
      ∧ (23 < target.toNat → KeptAtEnd (s.leftAnswered k 0x12#16 target a (plainAnswer .badArgument)) t)
      ∧ ∀ b : BayId, target.toNat = b.val →
          (s.port.bayOrder[b] = [] → 3 < (argByte a 0).toNat →
            KeptAtEnd (s.leftAnswered k 0x12#16 target a (plainAnswer .badArgument)) t)
          ∧ (s.port.bayOrder[b] = [] → (argByte a 0).toNat ≤ 3 →
              ((s.bay b).state = .empty ∨ (s.bay b).state = .settling) →
              KeptAtEnd (s.leftAnswered k 0x12#16 target a (plainAnswer .bayEmpty)) t)
          ∧ (s.Waits b → 3 < (argByte a 0).toNat →
              KeptAtEnd ((s.leftTaken k 0x12#16 target a (some b) (some (plainAnswer .badArgument))).inOrder
                b k) t)
          ∧ ∀ n : Fin 4, (argByte a 0).toNat = n.val → (s.bay b).state ≠ .empty →
              (s.bay b).state ≠ .settling →
              ((s.eng (engOf b)).queue.length < 6 →
                KeptAtEnd (((s.leftTaken k 0x12#16 target a (some b) none).inOrder b k).updEng (engOf b)
                  fun x => { x with queue := x.queue ++ [QueueEntry.mk k false b n none] }) t)
              ∧ (6 ≤ (s.eng (engOf b)).queue.length →
                KeptAtEnd (((s.leftTaken k 0x12#16 target a (some b) none).inOrder b k).updPort fun p =>
                  { p with parked := updAt p.parked (engOf b) fun l => l ++ [QueueEntry.mk k false b n none] }) t)

/-- R133, R134, R190: CLEAR_HELD at its turn. It is refused without a bay, without a kind or for an EMPTY bay;
otherwise the named held flags clear, the window counts return to 0 with the live flags kept, the snapshot
goes with the last flag, the verdict stays, and the answer carries what is left; where no flag was set nothing
more happens. Behind a waiting ticket of its bay it waits. -/
def Obligations.ClearHeldIsCarriedOutAtItsTurn : Prop :=
  ∀ (k : SlotId) (target : Word) (a : Args) (s : State), s.Takes k →
    ∃ t, exec (.clearHeld k target a) s = .next t
      ∧ (23 < target.toNat → KeptAtEnd (s.leftAnswered k 0x15#16 target a (plainAnswer .badArgument)) t)
      ∧ ∀ b : BayId, target.toNat = b.val →
          (s.Waits b → KeptAtEnd ((s.leftTaken k 0x15#16 target a (some b) none).inOrder b k) t)
          ∧ (s.port.bayOrder[b] = [] → (argByte a 0 = 0#8 ∨ 31 < (argByte a 0).toNat) →
              KeptAtEnd (s.leftAnswered k 0x15#16 target a (plainAnswer .badArgument)) t)
          ∧ ∀ set : HeldSet, set ≠ 0#5 → (argByte a 0).toNat = set.toNat → s.port.bayOrder[b] = [] →
              ((s.bay b).state = .empty → (t.slot k).hand = .answered ∧ (t.slot k).status = 0x0005#16)
              ∧ ((s.bay b).state ≠ .empty →
                  (t.slot k).hand = .answered ∧ (t.slot k).status = 0x0001#16
                  ∧ byteAt (t.slot k).answer.toList 0 = ((s.bay b).sense.held &&& ~~~set).setWidth 8
                  ∧ (t.bay b).sense.held = (s.bay b).sense.held &&& ~~~set
                  ∧ (t.bay b).sense.windowCount = 0 ∧ (t.bay b).sense.posCount = 0
                  ∧ (t.bay b).sense.negCount = 0
                  ∧ (t.bay b).sense.liveRefill = (s.bay b).sense.liveRefill
                  ∧ (t.bay b).sense.liveLeak = (s.bay b).sense.liveLeak
                  ∧ (t.bay b).sense.snapshot
                      = (if (s.bay b).sense.held &&& ~~~set = 0#5 then none else (s.bay b).sense.snapshot)
                  ∧ (t.bay b).verdict = (s.bay b).verdict
                  ∧ (t.bay b).verdictReason = (s.bay b).verdictReason)
              ∧ ((s.bay b).state ≠ .empty → (s.bay b).sense.held &&& set = 0#5 →
                  KeptAtEnd ((s.leftAnswered k 0x15#16 target a
                    (answerOf .done [(s.bay b).sense.held.setWidth 8,
                      boolByte (s.bay b).sense.liveRefill ||| (boolByte (s.bay b).sense.liveLeak <<< 1),
                      boolByte ((s.bay b).sense.snapshot.isSome && decide ((s.bay b).sense.held ≠ 0#5))])).updBay
                    b fun x => { x with sense := { x.sense with
                      windowCount := 0, posCount := 0, negCount := 0
                      snapshot := if x.sense.held = 0#5 then none else x.sense.snapshot } }) t)

/-- R109, R110: SWITCH_FEED is answered by the first condition that holds. For an eligible side the channel
switches to it with cause TICKET, where the residue is below one mark of the new bay; in every case the answer
carries feed_state and closed_reason as they stand afterwards. Where the conversion at the new bay drains it, or leaves
it at or below switch_marks with the twin above them, the channel is back on the first bay at the same event, with
feed_cause DRAINED or THRESHOLD, the ticket still answered DONE (R102, R110); the first bay, which stood by in between,
then has its generation word stepped, its fields as they were or not (R180; log entry 16). -/
def Obligations.SwitchFeedFollowsItsConditions : Prop :=
  ∀ (k : SlotId) (target : Word) (a : Args) (s : State), s.Takes k →
    ∃ t, exec (.switchFeed k target a) s = .next t
      ∧ (11 < target.toNat ∨ 1 < (argByte a 0).toNat →
          KeptAtEnd (s.leftAnswered k 0x16#16 target a (plainAnswer .badArgument)) t)
      ∧ ∀ (c : ChanId) (b : BayId), target.toNat = c.val →
          (argByte a 0 = 0#8 ∧ b = bayA c ∨ argByte a 0 = 1#8 ∧ b = bayB c) →
          (s.feedingBay c = some b → KeptAtEnd (s.leftAnswered k 0x16#16 target a
              (answerOf .done [natByte (s.chan c).feedState.code, natByte (s.chan c).closedReason.code])) t)
          ∧ (s.feedingBay c ≠ some b → s.eligible b = false →
              KeptAtEnd (s.leftAnswered k 0x16#16 target a (answerOf .notEligible
                [natByte (s.chan c).feedState.code, natByte (s.chan c).closedReason.code])) t)
          ∧ (s.feedingBay c ≠ some b → s.eligible b = true →
              t.slot k = requestSlot .answered 0x16#16 target a 0x0001#16
                (fitList 30 0#8 [natByte (t.chan c).feedState.code, natByte (t.chan c).closedReason.code]))
          ∧ (s.feedingBay c = some (twinOf b) → (s.bay (twinOf b)).state = .feeding → s.eligible b = true →
              (s.chan c).residue < (s.bay b).markSize →
              t.feedingBay c = some b ∧ (t.bay b).state = .feeding ∧ (t.bay (twinOf b)).state = .standby
                ∧ (t.chan c).feedCause = .ticket ∧ (t.chan c).closedReason = .none
                ∧ (t.bay b).book = (s.bay b).book ∧ (t.chan c).residue = (s.chan c).residue
                ∧ (∀ b', b' ≠ b → b' ≠ twinOf b → (t.bay b').settled = (s.bay b').settled)
                ∧ ∀ c', c' ≠ c → t.chan c' = s.chan c')
          ∧ (∀ n, s.feedingBay c = some (twinOf b) → (s.bay (twinOf b)).state = .feeding →
              s.eligible b = true → s.eligible (twinOf b) = true → 0 < (s.bay b).markSize →
              n = (s.chan c).residue / (s.bay b).markSize → 0 < n →
              (s.chan c).residue % (s.bay b).markSize < (s.bay (twinOf b)).markSize →
              0 < (s.bay b).book →
              ((s.bay b).book ≤ n →
                (t.bay b).state = .drained ∧ (t.bay b).book = 0 ∧ (t.chan c).feedCause = .drained)
              ∧ (n < (s.bay b).book → (s.bay b).book - n ≤ s.switchMarks c →
                  s.switchMarks c < (s.bay (twinOf b)).book →
                  (t.bay b).state = .standby ∧ (t.bay b).book = (s.bay b).book - n
                    ∧ (t.chan c).feedCause = .threshold)
              ∧ ((s.bay b).book ≤ n
                  ∨ (s.bay b).book - n ≤ s.switchMarks c ∧ s.switchMarks c < (s.bay (twinOf b)).book →
                  t.feedingBay c = some (twinOf b) ∧ (t.bay (twinOf b)).state = .feeding
                    ∧ (t.bay (twinOf b)).book = (s.bay (twinOf b)).book
                    ∧ (t.slot k).status = 0x0001#16
                    ∧ t.gens.bays[twinOf b] = s.gens.bays[twinOf b] + 2#16))

/-! ### Self-tests -/

/-- R203 to R205: self-test code 2 computes V on its fixed inputs and finds the built-in value; code 3 ends with
five POS and one NEG sample, live REFILL_SENSE set and LEAK_SENSE clear. Both end at their taking, and the header shows the record under a
generation pair, whatever it held (R180, R201). -/
def Obligations.KnownAnswerSelfTestsPass : Prop :=
  (swathVolume 16777215 1000000 3 27 65 1023 (factorOf (-32) (clampTemp 200)) = 267882546
    ∧ ∀ (k : SlotId) (bay : Byte) (s : State), s.Takes k → s.selfTest.running = false →
        ∃ t, exec (.selfTestCode2 k bay) s = .next t
          ∧ KeptAtEnd { s.leftAnswered k 0x18#16 0#16 (selfTestArgs 2#8 bay)
              (answerOf .done ([2#8, 2#8, 0#8, 0#8] ++ beBytes 8 267882546)) with
              selfTest := { running := false, code := 2, bay := none, result := 2, failCause := .none
                            slot := none } } t
          ∧ t.notified .test = true ∧ t.gens.header = s.gens.header + 2#16)
  ∧ (∀ (k : SlotId) (bay : Byte) (s : State), s.Takes k → s.selfTest.running = false →
      ∃ t, exec (.selfTestCode3 k bay) s = .next t
        ∧ KeptAtEnd { s.leftAnswered k 0x18#16 0#16 (selfTestArgs 3#8 bay)
            (answerOf .done [3#8, 3#8, 0#8, 0#8, 5#8, 1#8, 1#8]) with
            selfTest := { running := false, code := 3, bay := none, result := 3, failCause := .none
                          slot := none } } t
        ∧ t.notified .test = true ∧ t.gens.header = s.gens.header + 2#16)

/-- R202, R203, R206, R207: codes 5 and 6 start a test that runs on: code 5 puts its fused request behind the
authentication engine's others, code 6 joins the store ticket list as a read of sector 0. A SELF_TEST of code 2,
3, 5 or 6 taken while a test runs is answered BUSY and leaves the record. -/
def Obligations.SelfTestsStartOrAreRefused : Prop :=
  (∀ (k : SlotId) (bay : Byte) (s : State), s.Takes k → s.selfTest.running = false →
      (∃ t, exec (.selfTestCode5 k bay) s = .next t
        ∧ KeptAtEnd { s.leftTaken k 0x18#16 0#16 (selfTestArgs 5#8 bay) none none with
            selfTest := { running := true, code := 5, bay := none, result := 0, failCause := .none
                          slot := some k }
            auth := t.auth } t
        ∧ (s.auth.current = none → s.auth.fifo = [] →
            t.auth = { fifo := [], current := some (codeFiveRequest, false) })
        ∧ (s.auth.current ≠ none →
            t.auth = { s.auth with fifo := s.auth.fifo ++ [codeFiveRequest] }))
      ∧ ∃ t, exec (.selfTestCode6 k bay) s = .next t
        ∧ KeptAtEnd ({ s.leftTaken k 0x18#16 0#16 (selfTestArgs 6#8 bay) none none with
            selfTest := { running := true, code := 6, bay := none, result := 0, failCause := .none
                          slot := some k } }.joinStore (.selfTest k)) t
        ∧ (s.store.op ≠ none → t.store.tickets = s.store.tickets ++ [.selfTest k])
        ∧ (s.store.op = none → s.store.tickets = [] → s.store.powerWarning = false →
            t.store.op = some (.profileRead k)))
  ∧ (∀ (k : SlotId) (bay code : Byte) (cmd : Instr) (s : State), s.Takes k → s.selfTest.running = true →
      (code = 2#8 ∧ cmd = .selfTestCode2 k bay ∨ code = 3#8 ∧ cmd = .selfTestCode3 k bay
        ∨ code = 5#8 ∧ cmd = .selfTestCode5 k bay ∨ code = 6#8 ∧ cmd = .selfTestCode6 k bay) →
      ∃ t, exec cmd s = .next t
        ∧ KeptAtEnd (s.leftAnswered k 0x18#16 0#16 (selfTestArgs code bay) (plainAnswer .busy)) t)

/-- R202, R208: self-test code 9 for no bay is answered BAD_ARGUMENT; at its turn it is BUSY while a test runs
and BAY_EMPTY for an EMPTY or SETTLING bay; otherwise the test starts and its entry joins the engine's queue,
or is parked. -/
def Obligations.LoopSelfTestFollowsItsConditions : Prop :=
  ∀ (k : SlotId) (bay : Byte) (s : State), s.Takes k →
    ∃ t, exec (.selfTestCode9 k bay) s = .next t
      ∧ (23 < bay.toNat → KeptAtEnd (s.leftAnswered k 0x18#16 0#16 (selfTestArgs 9#8 bay)
          (plainAnswer .badArgument)) t)
      ∧ ∀ b : BayId, bay.toNat = b.val →
          (s.port.bayOrder[b] = [] → s.selfTest.running = true → KeptAtEnd
              (s.leftAnswered k 0x18#16 0#16 (selfTestArgs 9#8 bay) (plainAnswer .busy)) t)
          ∧ (s.port.bayOrder[b] = [] → s.selfTest.running = false →
              ((s.bay b).state = .empty ∨ (s.bay b).state = .settling) → KeptAtEnd
              (s.leftAnswered k 0x18#16 0#16 (selfTestArgs 9#8 bay) (plainAnswer .bayEmpty)) t)
          ∧ (s.selfTest.running = false → (s.bay b).state ≠ .empty → (s.bay b).state ≠ .settling →
              ((s.eng (engOf b)).queue.length < 6 →
                KeptAtEnd ({ (s.leftTaken k 0x18#16 0#16 (selfTestArgs 9#8 bay) (some b) none).inOrder b k with
                    selfTest := { running := true, code := 9, bay := some b, result := 0, failCause := .none
                                  slot := some k } }.updEng (engOf b)
                  fun x => { x with queue := x.queue ++ [QueueEntry.mk k true b 0 none] }) t)
              ∧ (6 ≤ (s.eng (engOf b)).queue.length →
                KeptAtEnd ({ (s.leftTaken k 0x18#16 0#16 (selfTestArgs 9#8 bay) (some b) none).inOrder b k with
                    selfTest := { running := true, code := 9, bay := some b, result := 0, failCause := .none
                                  slot := some k } }.updPort fun p =>
                  { p with parked := updAt p.parked (engOf b) fun l => l ++ [QueueEntry.mk k true b 0 none] }) t))

/-! ### Notices, resets, start-up, the power-fail warning -/

/-- R195: NOTICE_ENABLE and NOTICE_ROUTE take their new value at the write and read back what they hold; the
lines follow from pending, enabled and routed kinds in any state; after a reset no kind is enabled and every
kind goes to line 0, and both lines stay inactive until the host writes an enable. With it go the write to
NOTICE_CLEAR and what else the host reads: PART_ID, PART_STATE, NOTICE and the two registers that read 0 (R194, R196); at
READY every word of the header and of the channel, engine and bay records, and at any time of the ticket slots, as
Tables 12-1 to 12-5 and section 12.3 lay them out in R211's order, but for next_slot where no sector is ACTIVE
(log entry 20); and 0 where no word is. -/
def Obligations.NoticeRegistersAndLines : Prop :=
  (∀ s : State, s.afterReset.port.enables = 0#8 ∧ s.afterReset.port.routes = 0#8)
  ∧ (∀ (c : Instr) (s t : State), (∀ v, c ≠ .noticeEnable v) → (∀ a v, c ≠ .hostWrite a v) →
      s.port.enables = 0#8 → exec c s = .next t → t.port.line0 = false ∧ t.port.line1 = false)
  ∧ ∀ (v : Word) (s : State),
    exec (.noticeClear v) s
        = .next (s.updPort fun p => { p with notices := p.notices &&& ~~~(v.setWidth 8) })
    ∧ exec (.noticeEnable v) s = .next (s.updPort fun p => { p with enables := v.setWidth 8 })
    ∧ exec (.noticeRoute v) s = .next (s.updPort fun p => { p with routes := v.setWidth 8 })
    ∧ s.hostRead 0x2008 = s.port.enables.setWidth 16 ∧ s.hostRead 0x200A = s.port.routes.setWidth 16
    ∧ (s.port.line0 = true ↔ ∃ n : Notice, s.notified n = true ∧ s.port.enables.getLsbD n.bit = true
        ∧ s.port.routes.getLsbD n.bit = false)
    ∧ (s.port.line1 = true ↔ ∃ n : Notice, s.notified n = true ∧ s.port.enables.getLsbD n.bit = true
        ∧ s.port.routes.getLsbD n.bit = true)
    ∧ s.hostRead 0x2000 = 0x4811#16 ∧ s.hostRead 0x2004 = s.port.notices.setWidth 16
    ∧ s.hostRead 0x2002 = (if s.port.partState = .ready then 1#16 else 0#16)
    ∧ s.hostRead 0x2006 = 0#16 ∧ s.hostRead 0x200C = 0#16
    ∧ (∀ n : Notice, n.bit = codeIn [.answer, .bay, .alert, .level, .channel, .store, .test, .power] n)
    ∧ (s.port.partState = .ready →
        s.Shows 0 s.headerTable
        ∧ (∀ j : SecId, s.store.sectors[j].state = .active → (∀ i : SecId, i ≠ j → s.store.sectors[i].state ≠ .active) →
            s.Shows 0 [(29, 1, j.val + 1), (30, 1, s.store.sectors[j].nextSlot)])
        ∧ ((∀ i : SecId, s.store.sectors[i].state ≠ .active) → s.Shows 0 [(29, 1, 0)])
        ∧ (∀ c : ChanId, s.Shows (0x100 + 32 * c.val) (channelTable s.gens.channels[c] (s.chan c)))
        ∧ (∀ e : EngId, s.Shows (0x280 + 32 * e.val)
            (engineTable s.gens.engines[e] (s.eng e) s.port.parked[e].length))
        ∧ ∀ b : BayId, s.Shows (0x300 + 64 * b.val) (bayTable s.gens.bays[b] (s.bay b)))
    ∧ (∀ k : SlotId, s.Shows (0x1000 + 64 * k.val) (slotTable (s.slot k)))
    ∧ (∀ a : Nat, 0x900 ≤ a → a < 0x1000 ∨ 0x1800 ≤ a ∧ a < 0x2000 ∨ 0x200C < a → s.hostRead a = 0#16)

/-- R156, R197, R198: 0x0001 to RESET_REQ takes effect at once with no flash operation in flight at READY, and
otherwise sets reset_pending; a pending one takes effect once none is in flight; other values and repeated
requests change nothing. A power-on reset cuts the operation in flight, and no byte outside its span changes. At
the effect every block is at its reset values, every generation word 0 and, where PFW is inactive, every word of the
exchange memory; PFW found active shows in the header, under one pair (R169, R181). The seated tags keep what they hold.
The event that ends the flash operation in flight is the effect of a pending reset, the flash as the operation left it;
so is the end of the start-up read, by the model's reading (log entry 15). SOFT_RESET with none pending or an operation
in flight does nothing (log entries 3 and 15). -/
def Obligations.ResetsClearThePart : Prop :=
  (∀ (v : Word) (s : State),
      (v ≠ 1#16 ∨ s.port.resetPending = true → exec (.resetReq v) s = .next s)
      ∧ (s.port.resetPending = false → s.port.partState = .ready → s.store.op = none →
          ∃ t, exec (.resetReq 1#16) s = .next t ∧ ClearedFrom s t ∧ t.outside = s.outside ∧ t.flash = s.flash)
      ∧ (s.port.resetPending = false → s.port.partState = .starting ∨ s.store.op ≠ none →
          ∃ t, exec (.resetReq 1#16) s = .next t
            ∧ SameButGens (s.updPort fun p => { p with resetPending := true }) t)
      ∧ (s.port.resetPending = true → s.store.op = none →
          ∃ t, exec .softReset s = .next t ∧ ClearedFrom s t ∧ t.outside = s.outside ∧ t.flash = s.flash)
      ∧ (s.port.resetPending = false ∨ s.store.op ≠ none → exec .softReset s = .next s)
      ∧ (s.port.resetPending = true → s.port.partState = .starting →
          ∃ t, exec .startupRebuildComplete s = .next t ∧ ClearedFrom s t ∧ t.outside = s.outside
            ∧ t.flash = s.flash)
      ∧ (s.outside.pfw = false → ∀ a : Nat, a < 0x2000 → s.afterReset.hostRead a = 0#16))
  ∧ (∀ (c : Instr) (m : Memory) (s : State), s.EndsFlash c m → s.port.resetPending = true →
      s.port.partState = .ready →
      ∃ t, exec c s = .next t ∧ ClearedFrom s t ∧ t.outside.settled = s.outside.settled ∧ t.flash = m)
  ∧ (∀ s : State, ∃ t, exec .powerOnReset s = .next t ∧ ClearedFrom s t
      ∧ t.outside = { s.outside with cutDraws := s.outside.cutDraws + 1 }
      ∧ (s.store.op = none → t.flash = s.flash)
      ∧ ∀ op, s.store.op = some op → FlashKept s t op.span.1 op.span.2)

/-- R95, R170, R181, R185, R199: when the rebuild completes the part is READY, each channel holds the profile
its slot of sector 0 carries, every listed ticket has been taken, each bay whose presence input is active has
entered SETTLING with 200 ms, and STORE is raised where a slot is damaged. Where no ticket is listed, the history
table is what the journal gives: of each serial the latest good record, unless that is a tombstone, and of those the
256 with the highest journal_seq, with use stamps in the order of journal_seq (R42, R171, R172). The sector contexts,
the next sequence numbers and rebuild_rejects follow the flash; a highest sequence number that is the largest value
leaves the journal degraded, at once by the model's reading of R160 (log entry 18). A listed SET_PROFILE, where it is
the one listed ticket and PFW is inactive, finds every bay EMPTY at its taking, and by the model's choice its rewrite
begins within the event, before the presence inputs are read and ahead of a DIRTY sector's erase (log entry 41; R157,
R174). -/
def Obligations.RebuildMakesThePartReady : Prop :=
  ∀ s : State, s.port.partState = .starting → s.port.resetPending = false → s.StartsClean →
    ∃ t, exec .startupRebuildComplete s = .next t ∧ t.port.partState = .ready ∧ t.port.arrivals = []
      ∧ (∀ k ∈ s.port.arrivals, (t.slot k).hand ≠ .filled)
      ∧ (∀ c : ChanId, (t.chan c).profile = (s.flash.judge c).profile ∧ (t.chan c).feedState = .closed
          ∧ (t.chan c).closedReason = (if (s.flash.judge c).profile.isSome then .empty else .unset))
      ∧ (∀ b : BayId, (s.outside.presence[b] = true → (t.bay b).state = .settling
            ∧ (t.bay b).settleTimer = some (s.outside.now + 200000))
          ∧ (s.outside.presence[b] = false → (t.bay b).state = .empty))
      ∧ ((∃ c : ChanId, (s.flash.judge c).code = 2#8) →
          t.store.profileState = .damaged ∧ t.notified .store = true)
      ∧ ((∀ c : ChanId, (s.flash.judge c).code ≠ 2#8) → t.store.profileState = .good)
      ∧ t.flash = s.flash ∧ t.outside.presence = s.outside.presence
      ∧ (∀ (k : SlotId) (c : ChanId) (p : Profile), s.port.arrivals = [k] → (s.slot k).kind = 0x10#16 →
          (s.slot k).target.toNat = c.val → decodeProfile ((s.slot k).args.toList.take 22) = some p →
          s.store.powerWarning = false →
          t.store.op = some (.profileRewrite k c p) ∧ (t.slot k).hand = .taken)
      ∧ (s.port.arrivals = [] →
          (∀ serial : Serial, (∀ j sec slot r, s.flash.Holds j sec slot r → r.serial ≠ serial) →
            t.entryOf serial = none)
          ∧ (∀ j sec slot r, s.flash.Latest j sec slot r →
              (r.verdict = .none → t.entryOf r.serial = none)
              ∧ (r.verdict ≠ .none → s.flash.keptAbove r.seq < 256 →
                  (∀ f ∈ keptRecords s.flash.allRecords, f.record.seq = r.seq → f.record.serial = r.serial) →
                  ∃ x, t.entryOf r.serial = some x ∧ r.becomes j slot x)
              ∧ (r.verdict ≠ .none → 256 ≤ s.flash.keptAbove r.seq → t.entryOf r.serial = none))
          ∧ t.history.live.length = min 256 (keptRecords s.flash.allRecords).length
          ∧ t.history.useCounter = t.history.live.length ∧ t.history.tombs = [] ∧ t.history.fifo = []
          ∧ (∀ x ∈ t.history.live, 1 ≤ x.useStamp ∧ x.useStamp ≤ t.history.live.length)
          ∧ (∀ x ∈ t.history.live, ∀ y ∈ t.history.live, x.journalSeq < y.journalSeq → x.useStamp < y.useStamp)
          ∧ (∀ j : SecId, match s.flash.classify j with
              | .erased => t.store.sectors[j] = { state := .erased, seq := none, nextSlot := 0 }
              | .dirty => t.store.sectors[j] = { state := .dirty, seq := none, nextSlot := 0 }
              | .headed seq => s.flash.Resumes j seq t.store.sectors[j])
          ∧ t.store.rebuildRejects = s.flash.rejects
          ∧ ((∀ j sec slot r, s.flash.Holds j sec slot r → r.seq < top32) →
              (∀ j sec, s.flash.classify j = .headed sec → sec < top32) →
              t.store.mode = .normal
              ∧ NextAfter (fun n => ∃ j sec slot r, s.flash.Holds j sec slot r ∧ r.seq = n) t.store.nextJournalSeq
              ∧ NextAfter (fun n => ∃ j, s.flash.classify j = .headed n) t.store.nextSectorSeq)
          ∧ ((∃ j sec slot r, s.flash.Holds j sec slot r ∧ r.seq = top32)
                ∨ (∃ j, s.flash.classify j = .headed top32) →
              t.store.mode = .degraded ∧ t.notified .store = true))

/-- R53, R168, R169: PFW becoming active answers the waiting SET_PROFILE tickets POWER_WARNING, makes every
installed entry journal-due, raises POWER and shows power_warning; becoming inactive it clears power_warning. Where no
slot can be had for the items that join, the appends begin to wait, with STORE raised (R163).
An input that does not change does nothing (log entry 3). -/
def Obligations.PowerWarningComesAndGoes : Prop :=
  ∀ s : State,
    (s.outside.pfw = true → exec .pfwActive s = .next s)
    ∧ (s.outside.pfw = false → ∃ t, exec .pfwActive s = .next t
        ∧ KeptAtEnd (((s.setPfw true).raise .power).updStore fun x => { x with powerWarning := true }) t
        ∧ t.notified .power = true ∧ (∀ x ∈ t.store.tickets, x.isRewrite = false)
        ∧ (∀ x ∈ s.store.tickets, x.isRewrite = true → (s.slot x.slot).hand = .taken →
            (t.slot x.slot).hand = .answered ∧ (t.slot x.slot).status = 0x000E#16)
        ∧ (s.history.Sound → t.store.mode ≠ .degraded →
            ∀ e ∈ t.history.live, e.installedBay ≠ none → e.journalDue = true)
        ∧ (∀ (e : Entry) (j : SecId), e ∈ s.history.live → e.installedBay ≠ none → e.journalDue = false →
            s.history.Sound → s.store.mode = .normal → s.store.sectors[j].state = .dirty → s.NoSlotBeside j →
            t.store.mode = .waiting ∧ t.notified .store = true ∧ ⟨e.serial, false⟩ ∈ t.history.fifo))
    ∧ (s.outside.pfw = true → ∃ t, exec .pfwInactive s = .next t
        ∧ KeptAtEnd ((s.setPfw false).updStore fun x => { x with powerWarning := false }) t)
    ∧ (s.outside.pfw = false → exec .pfwInactive s = .next s)

/-! ### Bays -/

/-- R18 to R20, R107, R117, R118: at READY an EMPTY bay whose presence input becomes active enters SETTLING with
200 ms; at any other time only the input and the seated tag change. A cartridge pulled out earlier that is seated
again is the one seated (R5); where no such cartridge is named nothing happens (log entries 3 and 24). An expired settle timer leads to IDENTIFYING
and the want for READ_BLOCK 0; an expired sense timer leaves a sense want, which a busy engine leaves waiting and which
the bay's record shows under a generation pair, granted at once or not (R143, R180); an
expired settle interval ends settling. A timer that does not run does not
expire (log entry 3). -/
def Obligations.PresenceAndTimers : Prop :=
  (∀ (b : BayId) (x : Seating) (s : State),
      (∀ c : Cartridge, s.seatingOf x = some c →
        (s.outside.presence[b] = false → s.port.partState = .ready → (s.bay b).state = .empty →
          ∃ t, exec (.presenceActive b x) s = .next t
            ∧ SameButGens ((((s.takeUpPulled x).seat b c).updBay b fun y =>
                { y with state := .settling, settleTimer := some (s.outside.now + 200000) }).raise .bay) t)
        ∧ (s.outside.presence[b] = false → s.port.partState = .starting ∨ (s.bay b).state ≠ .empty →
            exec (.presenceActive b x) s = .next ((s.takeUpPulled x).seat b c)))
      ∧ (s.outside.presence[b] = true ∨ s.seatingOf x = none → exec (.presenceActive b x) s = .next s)
      ∧ (∀ c : Cartridge, s.seatingOf (.other c) = some c)
      ∧ (∀ i : Nat, s.seatingOf (.pulled i) = s.outside.pulled[i]?)
      ∧ ∀ expiry, (s.bay b).state = .settling → (s.bay b).settleTimer = some expiry →
          ∃ t, exec (.settleTimerExpiry b) s = .next t
            ∧ KeptAtEnd (((s.atTime expiry).updBay b fun x =>
                { x with state := .identifying, settleTimer := none
                         wants := { x.wants with insertion := some .readIdentity } }).raise .bay) t)
  ∧ (∀ (b : BayId) (c : ChanId) (s : State),
      (∀ expiry, (s.bay b).sense.timer = some expiry →
        ∃ t, exec (.senseTimerExpiry b) s = .next t
          ∧ KeptAtEnd ((s.atTime expiry).updBay b fun x =>
              { x with sense := { x.sense with timer := none }, wants := { x.wants with sense := true } }) t
          ∧ ((s.eng (engOf b)).activity ≠ .idle → (t.bay b).wants.sense = true)
          ∧ ((s.eng (engOf b)).activity = .idle → (t.eng (engOf b)).activity ≠ .idle)
          ∧ ((s.bay b).wants.sense = false → t.gens.bays[b] = s.gens.bays[b] + 2#16))
      ∧ ((s.bay b).sense.timer = none → exec (.senseTimerExpiry b) s = .next s)
      ∧ (∀ expiry, (s.chan c).settleEnd = some expiry →
          ∃ t, exec (.settleIntervalExpiry c) s = .next t
            ∧ SameButGens ((s.atTime expiry).updChan c fun ch => { ch with settleEnd := none }) t)
      ∧ ((s.chan c).settleEnd = none → exec (.settleIntervalExpiry c) s = .next s))

/-- R34, R51: a removal empties the bay's context but for burn_token, drops its engine work and its
authentication request, writes book and owed to its history entry, and closes the channel it fed where the
twin is not eligible. Other bays stand as they were. A transaction for the bay in flight is aborted and neither
counted nor classified, one for another bay goes on; the ticket operations of the bay, and the tickets of its order
list once all have their results, are answered, BAY_EMPTIED for the reads, and a code 9 test among them ends with
result 0 (R149, R209). A place that is empty already is not removed (log entry 3). -/
def Obligations.RemovalEmptiesTheBay : Prop :=
  ∀ (b : BayId) (s : State),
    (s.outside.presence[b] = false → exec (.bayRemoval b) s = .next s)
    ∧ (s.outside.presence[b] = true → (s.bay b).state = .empty → exec (.bayRemoval b) s = .next (s.unseat b))
    ∧ (s.outside.presence[b] = true → (s.bay b).state ≠ .empty →
        ∃ t, exec (.bayRemoval b) s = .next t
          ∧ t.bay b = { Bay.default with burnToken := (s.bay b).burnToken }
          ∧ t.outside.presence[b] = false ∧ t.outside.tags[b] = none ∧ t.notified .bay = true
          ∧ (∀ q ∈ (t.eng (engOf b)).queue, q.bay ≠ b) ∧ (∀ q ∈ t.port.parked[engOf b], q.bay ≠ b)
          ∧ (∀ tr : Transaction, ((t.eng (engOf b)).activity = .attempt tr
              ∨ ∃ ends, (t.eng (engOf b)).activity = .gap tr ends) → tr.bay ≠ b)
          ∧ (∀ tr : Transaction, tr.bay ≠ b → ((s.eng (engOf b)).activity = .attempt tr
              ∨ ∃ ends, (s.eng (engOf b)).activity = .gap tr ends) →
              (t.eng (engOf b)).activity = (s.eng (engOf b)).activity)
          ∧ (t.eng (engOf b)).discardCount = (s.eng (engOf b)).discardCount
          ∧ (t.eng (engOf b)).retryTally = (s.eng (engOf b)).retryTally
          ∧ ((∃ q, s.TagWorkOf b q ∧ q.selfTest = true) →
              t.selfTest = s.selfTest.ended 0 .none ∧ t.notified .test = true)
          ∧ ((∀ k ∈ s.port.bayOrder[b], (s.slot k).hand = .taken ∧ ∃ tk : Taken, (s.slot k).copy = some tk
                ∧ (tk.kind = 0x15#16 ∨ tk.result ≠ none ∨ ∃ q, s.TagWorkOf b q ∧ q.slot = k)) →
              t.port.bayOrder[b] = []
              ∧ ∀ k ∈ s.port.bayOrder[b], (t.slot k).hand = .answered
                ∧ ∀ q, s.TagWorkOf b q → q.slot = k → (s.slot k).copy.map (·.kind) ≠ some 0x15#16 →
                  (t.slot k).status = 0x0006#16 ∧ (t.slot k).answer = fitList 30 0#8 [])
          ∧ (∀ r ∈ t.auth.fifo, r.origin ≠ some b)
          ∧ (∀ (r : AuthRequest) (w : Bool), s.auth.current = some (r, w) → r.origin = some b →
              t.auth.current = some (r, true))
          ∧ t.flash = s.flash ∧ t.latch = s.latch
          ∧ ((s.bay b).state ≠ .feeding ∨ s.eligible (twinOf b) = false →
              (∀ b', b' ≠ b → (t.bay b').settled = (s.bay b').settled)
              ∧ t.history.live.map Entry.content = s.history.live.map fun e =>
                  if some e.serial = (s.bay b).entry then
                    { e with book := (s.bay b).book, owed := (s.bay b).pending, installedBay := none
                             journalDue := false }
                  else { e with journalDue := false })
          ∧ ((s.bay b).state = .feeding → s.eligible (twinOf b) = false →
              t.feedingBay (chanOf b) = none ∧ (t.chan (chanOf b)).closedReason = .removed
                ∧ (t.chan (chanOf b)).feedCause = .removed
                ∧ (t.chan (chanOf b)).residue = (s.chan (chanOf b)).residue)
          ∧ ((s.bay b).state = .feeding → s.eligible (twinOf b) = true → s.feedingBay (chanOf b) = some b →
              (s.chan (chanOf b)).residue < (s.bay (twinOf b)).markSize →
              t.feedingBay (chanOf b) = some (twinOf b) ∧ (t.bay (twinOf b)).state = .feeding
                ∧ (t.chan (chanOf b)).feedCause = .removed))

/-- R24 to R26: a computation that completes. A withdrawn request's result is discarded; the result for a
CHALLENGING bay without its tag's response is kept; one that differs from the response gives FOREIGN with
reason RESPONSE. The oldest waiting request begins. The result of a code 5 test ends it, a pass where it is the
fused result and a fail with MISMATCH where it is not, and answers its ticket; no bay changes (R206). -/
def Obligations.AuthenticationResultsReachTheirBay : Prop :=
  ∀ (r : AuthRequest) (w : Bool) (s : State), s.auth.current = some (r, w) →
    ∃ t, exec .authComputationComplete s = .next t
      ∧ (w = true → s.auth.fifo = [] →
          KeptAtEnd { s with auth := { fifo := [], current := none } } t)
      ∧ (∀ (x : AuthRequest) (rest : List AuthRequest), w = true → s.auth.fifo = x :: rest →
          KeptAtEnd { s with auth := { fifo := rest, current := some (x, false) } } t)
      ∧ (∀ b : BayId, w = false → r.origin = some b → (s.bay b).state = .challenging →
          ((s.bay b).tagResponse = none → s.auth.fifo = [] →
            KeptAtEnd ({ s with auth := { fifo := [], current := none } }.updBay b fun x =>
              { x with expectedResponse := some (Config.keyedResponse r.serial r.inkType r.challenge) }) t)
          ∧ (∀ resp, (s.bay b).tagResponse = some resp →
              resp ≠ Config.keyedResponse r.serial r.inkType r.challenge →
              (t.bay b).verdict = .foreign ∧ (t.bay b).verdictReason = .response
                ∧ (t.bay b).state.decided = true ∧ (t.bay b).authenticated = (s.bay b).authenticated
                ∧ (t.bay b).tagResponse = none ∧ (t.bay b).expectedResponse = none)
          ∧ (∀ resp, (s.bay b).tagResponse = some resp →
              resp = Config.keyedResponse r.serial r.inkType r.challenge →
              (t.bay b).authenticated = true ∧ (t.bay b).state.decided = true))
      ∧ (∀ k : SlotId, w = false → r.origin = none → s.selfTest.slot = some k → (s.slot k).hand = .taken →
          t.notified .test = true ∧ (t.slot k).hand = .answered ∧ (t.slot k).status = 0x0001#16
          ∧ (∀ b, (t.bay b).settled = (s.bay b).settled)
          ∧ (Config.keyedResponse r.serial r.inkType r.challenge = Config.fusedExpected →
              t.selfTest = s.selfTest.ended s.selfTest.code .none
              ∧ (t.slot k).answer = fitList 30 0#8 [natByte s.selfTest.code, natByte s.selfTest.code, 0#8])
          ∧ (Config.keyedResponse r.serial r.inkType r.challenge ≠ Config.fusedExpected →
              t.selfTest = s.selfTest.ended 15 .mismatch
              ∧ (t.slot k).answer = fitList 30 0#8 [natByte s.selfTest.code, 15#8, 1#8]))

/-- R3, R5, R9, R11: a working tag that finishes has its marks burned or its flag set, with gauge and flags
rewritten under a good CRC, or its response stored; its other blocks, the other tags and the part are
untouched. With no tag seated nothing happens (log entry 3). A removal that cuts the work short leaves the pulled
cartridge (log entry 24) with its block 1 torn, or with the gauge k lower for a k of 0 to n, or with the flag as it
was or set; any other work leaves its blocks alone, and no removal touches the other blocks. -/
def Obligations.TagsFinishTheirWork : Prop :=
  (∀ (b : BayId) (s : State) (x : Tag), s.outside.presence[b] = true → s.outside.tags[b] = some x →
    ∃ t c, exec (.bayRemoval b) s = .next t
      ∧ t.outside.pulled = c :: s.outside.pulled ∧ t.outside.tags[b] = none
      ∧ c.block0 = x.cartridge.block0 ∧ c.block2 = x.cartridge.block2 ∧ c.block3 = x.cartridge.block3
      ∧ c.key = x.cartridge.key
      ∧ (∀ n token, x.work = some (.burning n token) → crcGood c.block1 = true →
          (∃ k, k ≤ n ∧ (Tag.fresh c).gauge = x.gauge - k) ∧ (Tag.fresh c).flags = x.flags)
      ∧ (∀ f, x.work = some (.writing f) → crcGood c.block1 = true → (Tag.fresh c).gauge = x.gauge
          ∧ ((Tag.fresh c).flags = x.flags ∨ (Tag.fresh c).flags = x.flags ||| f.bit))
      ∧ ((∀ n token, x.work ≠ some (.burning n token)) → (∀ f, x.work ≠ some (.writing f)) → c = x.cartridge))
  ∧ ∀ (b : BayId) (s : State), ∃ t, exec (.tagWorkComplete b) s = .next t
    ∧ t = { s with outside := { s.outside with tags := t.outside.tags } }
    ∧ (∀ b' : BayId, b' ≠ b → t.outside.tags[b'] = s.outside.tags[b'])
    ∧ (s.outside.tags[b] = none → t.outside.tags[b] = none)
    ∧ ∀ x, s.outside.tags[b] = some x → ∃ y, t.outside.tags[b] = some y ∧ y.work = none
        ∧ y.cartridge.block0 = x.cartridge.block0 ∧ y.cartridge.block2 = x.cartridge.block2
        ∧ y.cartridge.block3 = x.cartridge.block3 ∧ y.cartridge.key = x.cartridge.key
        ∧ (∀ n token, x.work = some (.burning n token) → y.gauge = x.gauge - n ∧ y.flags = x.flags
            ∧ crcGood y.cartridge.block1 = true)
        ∧ (∀ f, x.work = some (.writing f) → y.hasFlag f = true ∧ y.gauge = x.gauge
            ∧ crcGood y.cartridge.block1 = true)
        ∧ (∀ c, x.work = some (.responding c) →
            y.stored = some (c, keyRespond x.cartridge.key c) ∧ y.cartridge = x.cartridge)
        ∧ (x.work = some .measuring ∨ x.work = none → y = { x with work := none })

/-! ### Tag bus engines -/

/-- R137, R139 to R141: a failed attempt with fewer than 32 failures in a row, and a BUSY answer less than 100 ms
after the first attempt, lead to a gap of 1 ms; BUSY begins the failures anew. At the end of the gap the next
attempt is sent and counted; retry_tally wraps and sets rollover. With no attempt on the line, or no frame sent,
or no gap, nothing happens (log entry 3). -/
def Obligations.FailedAttemptsAreRetried : Prop :=
  (∀ (e : EngId) (time : Nat) (s : State),
      (∀ tr, (s.eng e).activity = .attempt tr →
        (tr.failureRun + 1 < 32 → ∃ t, exec (.answerWindowTimeout e time) s = .next t
          ∧ KeptAtEnd ((s.atTime time).updEng e fun x =>
              { x with activity := Activity.gap { tr with failureRun := tr.failureRun + 1 } (max s.outside.now time + 1000) }) t)
        ∧ (∀ (r : Reception) (f : AnswerFrame), s.received tr.bay r = some f →
            (classify tr.command f = .crcBad → tr.failureRun + 1 < 32 →
              ∃ t, exec (.tagAnswerFrame e r time) s = .next t
                ∧ KeptAtEnd ((s.atTime time).updEng e fun x =>
                    { x with activity := Activity.gap { tr with failureRun := tr.failureRun + 1 } (max s.outside.now time + 1000) }) t)
            ∧ (classify tr.command f = .busy → max s.outside.now time < tr.firstAttempt + 100000 →
              ∃ t, exec (.tagAnswerFrame e r time) s = .next t
                ∧ KeptAtEnd ((s.atTime time).updEng e fun x =>
                    { x with activity := .gap { tr with failureRun := 0 } (max s.outside.now time + 1000) }) t))
        ∧ ∀ r : Reception, s.received tr.bay r = none → exec (.tagAnswerFrame e r time) s = .next s)
      ∧ ((∀ tr, (s.eng e).activity ≠ .attempt tr) →
          exec (.answerWindowTimeout e time) s = .next s
          ∧ ∀ r : Reception, exec (.tagAnswerFrame e r time) s = .next s))
  ∧ (∀ (e : EngId) (s : State),
      (∀ tr ends, (s.eng e).activity = .gap tr ends →
        ∃ t, exec (.retryGapExpiry e) s = .next t
          ∧ t = { (s.updEng e fun x =>
                  { x with activity := .attempt { tr with attempts := min 255 (tr.attempts + 1) }
                           retryTally := x.retryTally + 1#16
                           rollover := x.rollover || decide (x.retryTally = 0xFFFF#16) }) with
                outside := { s.outside with now := max s.outside.now ends, tags := t.outside.tags
                                            tagDraws := s.outside.tagDraws + 1 }
                gens := t.gens }
          ∧ ∀ b : BayId, b ≠ tr.bay → t.outside.tags[b] = s.outside.tags[b])
      ∧ ((∀ tr ends, (s.eng e).activity ≠ .gap tr ends) → exec (.retryGapExpiry e) s = .next s))

/-- R33, R88, R139, R140, R142: the 32nd failure in a row, and a BUSY answer 100 ms or more after the first
attempt, discard the transaction: it is counted with its bay and cause, and work of the bay's own takes the bay
to FAULT with its figures kept; where it fed its channel the feed passes to an eligible twin, and the channel closes
with reason FAULT otherwise (R103). The read of a code 9
test takes its bay to FAULT too, the feed leaving it likewise, and the test ends as a fail with DISCARDED, its ticket
answered at its turn (R209). -/
def Obligations.LimitsDiscardTransactions : Prop :=
  ∀ (e : EngId) (time : Nat) (cmd : Instr) (cause : DiscardCause) (tr : Transaction) (s : State),
    (s.eng e).activity = .attempt tr →
    (cause = .failures ∧ 31 ≤ tr.failureRun ∧
        (cmd = .answerWindowTimeout e time ∨ ∃ r f, cmd = .tagAnswerFrame e r time
          ∧ s.received tr.bay r = some f ∧ classify tr.command f = .crcBad)
      ∨ cause = .busyLimit ∧ tr.firstAttempt + 100000 ≤ max s.outside.now time ∧
        ∃ r f, cmd = .tagAnswerFrame e r time ∧ s.received tr.bay r = some f
          ∧ classify tr.command f = .busy) →
    ∃ t, exec cmd s = .next t
      ∧ (t.eng e).discardCount = min 65535 ((s.eng e).discardCount + 1)
      ∧ (t.eng e).lastDiscardBay = some tr.bay ∧ (t.eng e).lastDiscardCause = cause
      ∧ (t.eng e).retryTally = (s.eng e).retryTally
      ∧ (tr.origin ≠ .ticket → tr.origin ≠ .selfTest → (s.bay tr.bay).state ≠ .fault →
          (t.bay tr.bay).state = .fault ∧ (t.bay tr.bay).wants = Wants.none
          ∧ (t.bay tr.bay).pending = (s.bay tr.bay).pending
          ∧ (t.bay tr.bay).tagGauge = (s.bay tr.bay).tagGauge ∧ (t.bay tr.bay).book = (s.bay tr.bay).book
          ∧ (t.bay tr.bay).identity = (s.bay tr.bay).identity ∧ (t.bay tr.bay).entry = (s.bay tr.bay).entry
          ∧ (t.bay tr.bay).sense.held = (s.bay tr.bay).sense.held
          ∧ (t.bay tr.bay).barReason = .none ∧ (t.bay tr.bay).burnInFlight = none
          ∧ (t.bay tr.bay).verdict
              = (if (s.bay tr.bay).verdict = .none then .unread else (s.bay tr.bay).verdict)
          ∧ t.notified .bay = true
          ∧ ((s.bay tr.bay).state = .feeding → (s.atTime time).PassesFeed t tr.bay .fault .fault))
      ∧ (∀ (q : QueueEntry) (rest : List QueueEntry), tr.origin = .selfTest → (s.eng e).queue = q :: rest →
          t.selfTest = s.selfTest.ended 15 .discarded ∧ t.notified .test = true
          ∧ (t.bay tr.bay).state = .fault
          ∧ (s.AloneAt tr.bay q.slot 0x18#16 → t.port.bayOrder[tr.bay] = []
              ∧ ((s.bay tr.bay).state = .feeding → (s.atTime time).PassesFeed t tr.bay .fault .fault)
              ∧ (t.slot q.slot).hand = .answered ∧ (t.slot q.slot).status = 0x0001#16
              ∧ byteAt (t.slot q.slot).answer.toList 0 = natByte s.selfTest.code
              ∧ byteAt (t.slot q.slot).answer.toList 1 = 15#8 ∧ byteAt (t.slot q.slot).answer.toList 2 = 2#8))

/-- R85 to R87: a burn that ends in ACK lowers tag_gauge and pending by n and leaves the book; a gauge other
than the one expected, and REFUSED, set the BURN_MISMATCH flag and give FOREIGN, REFUSED confirming
nothing. A confirmed burn that brings tag_gauge to 0 also gives the history entry DEPLETED_SEEN, due for the journal, and
raises the DEPLETED write want of a GENUINE or REFILLED bay whose tag_depleted is clear (R90). With the flag go the
snapshot, of the figures after the burn's own arithmetic and the last estimate and discrepancy (R131), the ALERT notice
where the kind is selected (R130), the entry's verdict and seen flag (R52), the bar under the latch (R126) and the burn
want that a FOREIGN bay no longer has (R129). -/
def Obligations.BurnsAreConfirmed : Prop :=
  ∀ (e : EngId) (time n base : Nat) (token : Byte) (rec : Reception) (f : AnswerFrame) (tr : Transaction)
    (s : State),
    (s.eng e).activity = .attempt tr → tr.origin = .burn → tr.command = .burn n token →
    (s.bay tr.bay).burnInFlight = some ⟨n, base⟩ → n ≤ (s.bay tr.bay).pending → n ≤ (s.bay tr.bay).tagGauge →
    (s.bay tr.bay).state.decided = true →
    ((s.bay tr.bay).state = .barred → s.eligible tr.bay = false) → s.received tr.bay rec = some f →
    ∃ t, exec (.tagAnswerFrame e rec time) s = .next t
      ∧ (classify tr.command f = .ack (.burned (base - n)) → n < (s.bay tr.bay).tagGauge →
          KeptAtEnd (((s.atTime time).updEng e fun x => { x with activity := .idle }).updBay tr.bay fun x =>
            { x with tagGauge := x.tagGauge - n, pending := x.pending - n
                     wants := { x.wants with burn := x.wants.burn && decide (x.pending ≠ n) } }) t)
      ∧ (classify tr.command f = .ack (.burned (base - n)) → n = (s.bay tr.bay).tagGauge →
          KeptAtEnd { ((s.atTime time).updEng e fun x => { x with activity := .idle }).updBay tr.bay fun x =>
              { x with tagGauge := 0, pending := x.pending - n
                       wants := { x.wants with
                         burn := x.wants.burn && decide (x.pending ≠ n)
                         depleted := x.wants.depleted || (x.verdict.burns && !x.tagDepleted) } } with
            history := s.history.showsDepleted (s.bay tr.bay).entry } t
          ∧ (s.history.Sound → t.store.mode ≠ .degraded →
              ∀ h ∈ t.history.live, some h.serial = (s.bay tr.bay).entry → h.journalDue = true))
      ∧ (∀ r, r ≠ base - n → classify tr.command f = .ack (.burned r) →
          hasKind (s.bay tr.bay).sense.held .burnMismatch = false →
          (t.bay tr.bay).tagGauge = (s.bay tr.bay).tagGauge - n
          ∧ (t.bay tr.bay).pending = (s.bay tr.bay).pending - n
          ∧ (t.bay tr.bay).book = (s.bay tr.bay).book
          ∧ hasKind (t.bay tr.bay).sense.held .burnMismatch = true
          ∧ (t.bay tr.bay).verdict = .foreign
          ∧ ((s.bay tr.bay).verdict ≠ .foreign → (t.bay tr.bay).wants.burn = false)
          ∧ (s.atTime time).FlagSets t tr.bay .burnMismatch
              { kind := .burnMismatch, book := (s.bay tr.bay).book, tagGauge := (s.bay tr.bay).tagGauge - n
                pending := (s.bay tr.bay).pending - n, estimate := (s.bay tr.bay).sense.lastEstimate
                discrepancy := (s.bay tr.bay).sense.lastDiscrepancy }
              (if (s.bay tr.bay).verdict = .foreign then none else some (.foreign, .burnMismatch))
              (if n = (s.bay tr.bay).tagGauge then 0b100001#6 else 0b100000#6))
      ∧ (classify tr.command f = .refused →
          hasKind (s.bay tr.bay).sense.held .burnMismatch = false →
          (t.bay tr.bay).tagGauge = (s.bay tr.bay).tagGauge
          ∧ (t.bay tr.bay).pending = (s.bay tr.bay).pending
          ∧ (t.bay tr.bay).book = (s.bay tr.bay).book
          ∧ hasKind (t.bay tr.bay).sense.held .burnMismatch = true
          ∧ (t.bay tr.bay).verdict = .foreign
          ∧ ((s.bay tr.bay).verdict ≠ .foreign → (t.bay tr.bay).wants.burn = false)
          ∧ (s.atTime time).FlagSets t tr.bay .burnMismatch
              { kind := .burnMismatch, book := (s.bay tr.bay).book, tagGauge := (s.bay tr.bay).tagGauge
                pending := (s.bay tr.bay).pending, estimate := (s.bay tr.bay).sense.lastEstimate
                discrepancy := (s.bay tr.bay).sense.lastDiscrepancy }
              (if (s.bay tr.bay).verdict = .foreign then none else some (.foreign, .burnMismatch)) 0b100000#6)

/-- R22, R23: an IDENTIFYING bay takes a good block 0 as its identity and a bad one as FOREIGN with reason
IDENTITY_CRC, and reads block 1 next; a good identity with block 1 leads to the challenge, the gauge taken
where the block is good and FOREIGN with reason GAUGE_CRC otherwise. At the same moment the bay's request, with its
serial, ink_type and challenge, is placed with the authentication engine: an idle engine begins on it, and a busy one
finds it behind the others (R24, R25). -/
def Obligations.InsertionReadsIdentifyTheCartridge : Prop :=
  ∀ (e : EngId) (time : Nat) (rec : Reception) (f : AnswerFrame) (tr : Transaction) (blk : Block) (s : State),
    (s.eng e).activity = .attempt tr → tr.origin = .insertion → (s.bay tr.bay).state = .identifying →
    s.received tr.bay rec = some f → classify tr.command f = .ack (.block blk) →
    ∃ t, exec (.tagAnswerFrame e rec time) s = .next t
      ∧ (tr.command = .readBlock 0 →
          (∀ id, identityOf blk = some id →
            KeptAtEnd (((s.atTime time).updEng e fun x => { x with activity := .idle }).updBay tr.bay fun x =>
              { x with identity := some id, wants := { x.wants with insertion := some .readGauge } }) t)
          ∧ (identityOf blk = none →
            KeptAtEnd (((s.atTime time).updEng e fun x => { x with activity := .idle }).updBay tr.bay fun x =>
              { x with verdict := .foreign, verdictReason := .identityCrc
                       wants := { x.wants with insertion := some .readGauge } }) t))
      ∧ ∀ id, tr.command = .readBlock 1 → (s.bay tr.bay).identity = some id →
          (t.bay tr.bay).state = .challenging ∧ (t.bay tr.bay).wants.insertion = some .challenge
          ∧ (t.bay tr.bay).challenge = some (Config.challengeDraw s.outside.challengeDraws)
          ∧ t.outside.challengeDraws = s.outside.challengeDraws + 1
          ∧ (∀ req : AuthRequest, req = { origin := some tr.bay, serial := id.serial, inkType := id.inkType
                                          challenge := Config.challengeDraw s.outside.challengeDraws } →
              (s.auth.current = none → s.auth.fifo = [] → t.auth = { fifo := [], current := some (req, false) })
              ∧ (s.auth.current ≠ none → t.auth = { s.auth with fifo := s.auth.fifo ++ [req] }))
          ∧ (∀ g, gaugeOf id.capacityMarks blk = some g →
              (t.bay tr.bay).gaugeKnown = true ∧ (t.bay tr.bay).tagGauge = g.gauge
                ∧ (t.bay tr.bay).book = g.gauge ∧ (t.bay tr.bay).pending = 0
                ∧ (t.bay tr.bay).tagDepleted = g.depleted ∧ (t.bay tr.bay).tagRefillMark = g.refillMark
                ∧ (t.bay tr.bay).verdict = (s.bay tr.bay).verdict)
          ∧ (gaugeOf id.capacityMarks blk = none →
              (t.bay tr.bay).verdict = .foreign ∧ (t.bay tr.bay).verdictReason = .gaugeCrc
                ∧ (t.bay tr.bay).gaugeKnown = (s.bay tr.bay).gaugeKnown)

/-- R43 to R48: the CHALLENGE ACK that matches sets book, pending and verdict by the tag's gauge and the entry of
the serial. Against an entry that is not installed a lower gauge is taken over, one within owed is caught up, a
higher one is a rise, and the entry names the bay from then on. A serial seated elsewhere is a duplicate: FOREIGN,
and the entry keeps its bay. A serial with no entry gets one: at the place held for its tombstone, at a free place,
or at that of the entry with the lowest use stamp among those that may be evicted; where none may be the bay is
untracked. A tag that shows DEPLETED with a gauge above 0, and a rise, set FLAG_CONFLICT and GAUGE_RISE (R128), with a
snapshot of the first of the two that is so (R131) and ALERT where a kind that sets is selected (R130). -/
def Obligations.ReconciliationFollowsTheGauge : Prop :=
  ∀ (e : EngId) (time : Nat) (rec : Reception) (b : BayId) (id : Identity) (s : State),
    s.AboutToReconcile e rec b id →
    ∃ t, exec (.tagAnswerFrame e rec time) s = .next t
      ∧ (∀ h : Entry, s.entryOf id.serial = some h → h.installedBay = none →
          (t.bay b).authenticated = true ∧ (t.bay b).entry = some id.serial
          ∧ ((s.bay b).tagGauge < h.book → (t.bay b).book = (s.bay b).tagGauge ∧ (t.bay b).pending = 0)
          ∧ (h.book ≤ (s.bay b).tagGauge → (s.bay b).tagGauge ≤ h.book + h.owed →
              (t.bay b).book = h.book ∧ (t.bay b).pending = (s.bay b).tagGauge - h.book)
          ∧ (h.book + h.owed < (s.bay b).tagGauge →
              (t.bay b).book = (s.bay b).tagGauge ∧ (t.bay b).pending = 0
                ∧ (h.verdict = .genuine → (t.bay b).verdict = .refilled)
                ∧ hasKind (t.bay b).sense.held .gaugeRise = true)
          ∧ (h.verdict = .foreign → (t.bay b).verdict = .foreign ∧ (t.bay b).verdictReason = .history)
          ∧ (h.verdict = .refilled → (t.bay b).verdict = .refilled ∧ (t.bay b).verdictReason = .history)
          ∧ (h.verdict = .genuine → (s.bay b).tagRefillMark = true →
              (t.bay b).verdict = .refilled ∧ (t.bay b).verdictReason = .tagMark)
          ∧ (∀ conflict rise : Bool, (s.bay b).sense.held = 0#5 → (s.bay b).sense.snapshot = none →
              (conflict = true ↔ (s.bay b).tagDepleted = true ∧ 0 < (s.bay b).tagGauge) →
              (rise = true ↔ h.book + h.owed < (s.bay b).tagGauge) →
              (∀ k, hasKind (t.bay b).sense.held k
                = (decide (k = .flagConflict) && conflict || decide (k = .gaugeRise) && rise))
              ∧ (t.bay b).sense.snapshot = (if conflict || rise then
                  some { kind := if conflict then .flagConflict else .gaugeRise, book := (t.bay b).book
                         tagGauge := (s.bay b).tagGauge, pending := (t.bay b).pending, estimate := none
                         discrepancy := none }
                else none)
              ∧ t.notified .alert = (s.notified .alert || conflict && s.alerts b .flagConflict
                  || rise && s.alerts b .gaugeRise))
          ∧ ∃ x, t.entryOf id.serial = some x ∧ x.installedBay = some b ∧ x.lastBay = b ∧ x.owed = 0)
      ∧ (∀ h : Entry, s.entryOf id.serial = some h → h.installedBay ≠ none →
          s.BooksGauge t b none ∧ (t.bay b).verdict = .foreign ∧ (t.bay b).verdictReason = .history
          ∧ (t.bay b).state.decided = true ∧ t.history.useCounter = s.history.useCounter
          ∧ ∃ x, t.entryOf id.serial = some x ∧ x.installedBay = h.installedBay ∧ x.lastBay = h.lastBay
              ∧ x.useStamp = h.useStamp ∧ x.verdict = h.verdict ∧ x.seen = h.seen)
      ∧ (s.entryOf id.serial = none →
          s.JudgedByTag t b
          ∧ (id.serial ∈ s.history.tombs →
              s.BooksGauge t b (some id.serial) ∧ t.EntryMade b id ∧ t.history.evictions = s.history.evictions
              ∧ t.history.live.map (·.serial) = s.history.live.map (·.serial) ++ [id.serial]
              ∧ (t.store.mode ≠ .degraded → t.history.tombs = s.history.tombs.erase id.serial
                  ∧ (s.history.turnItem id.serial false).fifo <+: t.history.fifo))
          ∧ (id.serial ∉ s.history.tombs → s.history.live.length + s.history.tombs.length < 256 →
              s.BooksGauge t b (some id.serial) ∧ t.EntryMade b id ∧ t.history.evictions = s.history.evictions
              ∧ t.history.live.map (·.serial) = s.history.live.map (·.serial) ++ [id.serial])
          ∧ (id.serial ∉ s.history.tombs → 256 ≤ s.history.live.length + s.history.tombs.length →
              (∀ v ∈ s.history.live, v.evictable = true →
                (∀ w ∈ s.history.live, w.evictable = true → w ≠ v → v.useStamp < w.useStamp) →
                s.BooksGauge t b (some id.serial) ∧ t.EntryMade b id
                ∧ t.history.evictions = min 65535 (s.history.evictions + 1) ∧ t.entryOf v.serial = none
                ∧ t.history.live.map (·.serial)
                    = (s.history.live.map (·.serial)).filter (fun x => decide (x ≠ v.serial)) ++ [id.serial])
              ∧ ((∀ v ∈ s.history.live, v.evictable = false) →
                s.BooksGauge t b none ∧ t.history.untracked = min 65535 (s.history.untracked + 1)
                ∧ t.history.useCounter = s.history.useCounter
                ∧ t.history.live.map (·.serial) = s.history.live.map (·.serial))))

/-- R38, R91, R118 to R123: a flag write's ACK marks the flag as on the tag and drops its want; a sense ACK of
a bay that is sensed restarts its timer, is set aside for sensor, settling or calibration in that order, and
otherwise gives estimate, discrepancy and class and counts in the window; for any other bay it changes
nothing. At a window's end a live flag that is set fires its check (R127): where the held flag was clear it sets, with
the snapshot of that sample (R131), ALERT where the kind is selected (R130), the verdict REFILLED of a GENUINE bay for
REFILL_SENSE and none for LEAK_SENSE, the entry's seen flag and the bar under the latch (R126); where no flag sets,
nothing more happens. -/
def Obligations.FlagWritesAndSamples : Prop :=
  ∀ (e : EngId) (time : Nat) (rec : Reception) (f : AnswerFrame) (tr : Transaction) (p : Payload)
    (s u : State),
    (s.eng e).activity = .attempt tr → s.received tr.bay rec = some f → classify tr.command f = .ack p →
    u = (s.atTime time).updEng e (fun x => { x with activity := .idle }) →
    ∃ t, exec (.tagAnswerFrame e rec time) s = .next t
      ∧ (tr.origin = .depletedWrite → KeptAtEnd (u.updBay tr.bay fun x =>
          { x with tagDepleted := true, wants := { x.wants with depleted := false } }) t)
      ∧ (tr.origin = .refillMarkWrite → KeptAtEnd (u.updBay tr.bay fun x =>
          { x with tagRefillMark := true, wants := { x.wants with refillMark := false } }) t)
      ∧ ∀ (reading : Byte) (ok : Bool), tr.origin = .sense → p = .level reading ok →
          ((s.bay tr.bay).state.sensed = false → KeptAtEnd u t)
          ∧ ∀ (w : State) (why : SampleDiscard), (s.bay tr.bay).state.sensed = true →
              w = u.updBay tr.bay (fun x => { x with sense := { x.sense with
                timer := some (max s.outside.now time + sensePeriodOf (s.profileOf tr.bay) * 1000000) } }) →
              ((ok = false ∧ why = .sensor
                  ∨ ok = true ∧ (s.chan (chanOf tr.bay)).settleEnd ≠ none ∧ why = .settling
                  ∨ ok = true ∧ (s.chan (chanOf tr.bay)).settleEnd = none
                    ∧ (∀ q, s.profileOf tr.bay = some q → q.sFull = q.sEmpty) ∧ why = .uncalibrated) →
                KeptAtEnd ((w.updChan (chanOf tr.bay) fun ch =>
                  { ch with skippedSamples := min 65535 (ch.skippedSamples + 1) }).updBay tr.bay fun x =>
                  { x with sense := { x.sense with lastDiscard := why } }) t)
              ∧ ∀ (q : Profile) (est : Nat) (d : Int) (cls : SampleClass), ok = true →
                  (s.chan (chanOf tr.bay)).settleEnd = none → s.profileOf tr.bay = some q →
                  q.sFull ≠ q.sEmpty →
                  est = estimateOf reading.toNat q.sEmpty q.sFull (s.bay tr.bay).capacity →
                  d = (est : Int) - (s.bay tr.bay).book →
                  cls = (if (q.tolerance : Int) < d then .pos
                    else if d < -(q.tolerance : Int) then .neg else .neutral) →
                  ((s.bay tr.bay).sense.windowCount + 1 < q.window →
                    KeptAtEnd (w.updBay tr.bay fun x =>
                      { x with sense :=
                        { x.sense with
                          lastDiscard := .none, lastReading := some reading, lastEstimate := some est
                          lastDiscrepancy := some d, lastClass := cls
                          windowCount := x.sense.windowCount + 1
                          posCount := x.sense.posCount + (if cls = .pos then 1 else 0)
                          negCount := x.sense.negCount + (if cls = .neg then 1 else 0) } }) t)
                  ∧ (q.window ≤ (s.bay tr.bay).sense.windowCount + 1 →
                      (t.bay tr.bay).sense.windowCount = 0
                      ∧ (t.bay tr.bay).sense.liveRefill = decide (q.window <
                          ((s.bay tr.bay).sense.posCount + (if cls = .pos then 1 else 0)) * 2)
                      ∧ (t.bay tr.bay).sense.liveLeak = decide (q.window <
                          ((s.bay tr.bay).sense.negCount + (if cls = .neg then 1 else 0)) * 2)
                      ∧ ((t.bay tr.bay).sense.liveRefill = true →
                          hasKind (t.bay tr.bay).sense.held .refillSense = true)
                      ∧ ((t.bay tr.bay).sense.liveLeak = true →
                          hasKind (t.bay tr.bay).sense.held .leakSense = true)
                      ∧ ∀ (refill leak : Bool) (snap : HeldKind → Snapshot),
                          refill = decide (q.window <
                            ((s.bay tr.bay).sense.posCount + (if cls = .pos then 1 else 0)) * 2) →
                          leak = decide (q.window <
                            ((s.bay tr.bay).sense.negCount + (if cls = .neg then 1 else 0)) * 2) →
                          (∀ k, snap k = { kind := k, book := (s.bay tr.bay).book, tagGauge := (s.bay tr.bay).tagGauge
                                           pending := (s.bay tr.bay).pending, estimate := some est
                                           discrepancy := some d }) →
                          ((refill = false ∨ hasKind (s.bay tr.bay).sense.held .refillSense = true) →
                            (leak = false ∨ hasKind (s.bay tr.bay).sense.held .leakSense = true) →
                            KeptAtEnd (w.updBay tr.bay fun x =>
                              { x with sense :=
                                { x.sense with
                                  lastDiscard := .none, lastReading := some reading, lastEstimate := some est
                                  lastDiscrepancy := some d, lastClass := cls, windowCount := 0, posCount := 0
                                  negCount := 0, liveRefill := refill, liveLeak := leak } }) t)
                          ∧ (refill = true → hasKind (s.bay tr.bay).sense.held .refillSense = false →
                              (leak = false ∨ hasKind (s.bay tr.bay).sense.held .leakSense = true) →
                              (s.bay tr.bay).verdict ≠ .none → (s.bay tr.bay).verdict ≠ .unread →
                              (s.atTime time).FlagSets t tr.bay .refillSense (snap .refillSense)
                                (if (s.bay tr.bay).verdict = .genuine then some (.refilled, .refillSense) else none)
                                0b001000#6)
                          ∧ (leak = true → hasKind (s.bay tr.bay).sense.held .leakSense = false →
                              (refill = false ∨ hasKind (s.bay tr.bay).sense.held .refillSense = true) →
                              (s.atTime time).FlagSets t tr.bay .leakSense (snap .leakSense) none 0b010000#6))

/-- R151, R189: a READ_TAG_BLOCK that is alone in its bay's order list is answered when its read ends: DONE
with bay, block, crc_ok and the 30 content bytes, or TAG_NO_RESPONSE at a discard. No bay changes. The first read of
a code 9 test stores its copy and the second starts at once; the second ends the test, a pass where the copies are
equal in every byte and a fail with MISMATCH otherwise, answered with the bay, the comparison and crc_ok of each copy
(R152, R208), and where it is alone in that list no bay changes. The engine's record takes a generation pair between the two reads, though it reads the same (R136, R180;
log entry 16). -/
def Obligations.TagReadsAreAnswered : Prop :=
  (∀ (e : EngId) (time : Nat) (tr : Transaction) (n : Fin 4) (q : QueueEntry) (rest : List QueueEntry)
    (b : BayId) (s : State),
    (s.eng e).activity = .attempt tr → tr.origin = .ticket → tr.command = .readBlock n →
    (s.eng e).queue = q :: rest → s.AloneAt b q.slot 0x12#16 →
    (∀ (rec : Reception) (f : AnswerFrame) (blk : Block), s.received tr.bay rec = some f →
      classify tr.command f = .ack (.block blk) →
      ∃ t, exec (.tagAnswerFrame e rec time) s = .next t
        ∧ (t.slot q.slot).hand = .answered
        ∧ (t.slot q.slot).status.toNat
            = 256 * (tr.bay.val * 8 + n.val * 2 + (if crcGood blk then 1 else 0)) + 1
        ∧ (t.slot q.slot).answer.toList = contentOf blk
        ∧ (∀ b', (t.bay b').settled = (s.bay b').settled) ∧ t.notified .answer = true
        ∧ t.port.bayOrder[b] = []
        ∧ (s.port.parked[e] = [] → (t.eng e).queue = rest.filter fun x => x.slot != q.slot))
    ∧ (31 ≤ tr.failureRun → ∃ t, exec (.answerWindowTimeout e time) s = .next t
        ∧ (t.slot q.slot).hand = .answered ∧ (t.slot q.slot).status = 0x000C#16
        ∧ (∀ b', (t.bay b').settled = (s.bay b').settled)))
  ∧ ∀ (e : EngId) (time : Nat) (tr : Transaction) (q : QueueEntry) (rest : List QueueEntry) (rec : Reception)
    (f : AnswerFrame) (blk : Block) (s : State),
    (s.eng e).activity = .attempt tr → tr.origin = .selfTest → (s.eng e).queue = q :: rest →
    s.received tr.bay rec = some f → classify tr.command f = .ack (.block blk) →
    ∃ t, exec (.tagAnswerFrame e rec time) s = .next t
      ∧ (q.firstCopy = none →
          (∀ b', (t.bay b').settled = (s.bay b').settled) ∧
          (t.eng e).activity = .attempt
            { bay := tr.bay, origin := .selfTest, command := .readBlock 0, attempts := 1, failureRun := 0
              firstAttempt := max s.outside.now time }
          ∧ (t.eng e).queue = { q with firstCopy := some blk } :: rest ∧ t.selfTest = s.selfTest
          ∧ t.gens.engines[e] = s.gens.engines[e] + 2#16)
      ∧ (∀ first : Block, q.firstCopy = some first → t.notified .test = true
          ∧ t.selfTest = (if first = blk then s.selfTest.ended s.selfTest.code .none
              else s.selfTest.ended 15 .mismatch))
      ∧ ∀ first : Block, q.firstCopy = some first → s.AloneAt tr.bay q.slot 0x18#16 →
          (∀ b', (t.bay b').settled = (s.bay b').settled)
          ∧ t.notified .test = true ∧ t.port.bayOrder[tr.bay] = []
          ∧ (t.slot q.slot).hand = .answered ∧ (t.slot q.slot).status = 0x0001#16
          ∧ (first = blk → t.selfTest = s.selfTest.ended s.selfTest.code .none
              ∧ (t.slot q.slot).answer = fitList 30 0#8 [natByte s.selfTest.code, natByte s.selfTest.code, 0#8,
                  0#8, natByte tr.bay.val, 1#8, boolByte (crcGood first), boolByte (crcGood blk)])
          ∧ (first ≠ blk → t.selfTest = s.selfTest.ended 15 .mismatch
              ∧ (t.slot q.slot).answer = fitList 30 0#8 [natByte s.selfTest.code, 15#8, 1#8, 0#8,
                  natByte tr.bay.val, 0#8, boolByte (crcGood first), boolByte (crcGood blk)])

/-! ### The flash -/

/-- R160 to R162: a record program that verifies stores the record, moves next_slot on, gives its entry the
place and sequence number, and takes the item from the FIFO; an entry that has changed since the writer took it is
due again behind the others (R49). A tombstone that verifies frees its held place, and its item leaves. An item that
has changed kind meanwhile stays at the head as what it has become, and nothing is located or freed (R44, R57). One that
does not verify counts a program failure and leaves the item at the
head, to be programmed again as it was; the eighth in a row degrades the journal. A program of the last slot leaves
its sector FULL (R159). An append that ends while the journal is degraded has no item any more: its entry, where it has
one, still takes the place and sequence number (R167). -/
def Obligations.RecordProgramsEnd : Prop :=
  ∀ (j : SecId) (slot : Nat) (r : JournalRecord) (s : State),
    s.store.op = some (.append j slot r) → s.port.resetPending = false → s.port.partState = .ready →
    s.store.nextJournalSeq < top32 → s.store.sectors[j].state = .active → s.store.sectors[j].nextSlot ≤ 127 →
    s.history.Sound → s.flash.wf = true →
    (∃ t, exec (.recordProgram none) s = .next t
      ∧ t.flash.slot (slotBase j slot) = r.block ∧ FlashKept s t (slotBase j slot) 32
      ∧ (∀ (i : DueItem) (rest : List DueItem), s.store.mode = .normal → s.history.fifo = i :: rest →
          i.serial = r.serial →
          (∀ h : Entry, i.tombstone = false → r.verdict ≠ .none → s.entryOf r.serial = some h →
            KeptAtEnd { (s.programmed j slot r.block).numbered with history := s.history.located j slot r } t
            ∧ (s.store.sectors[j].nextSlot < 127 ∨ t.store.mode ≠ .degraded →
                rest <+: t.history.fifo
                ∧ (s.store.changed = true → ∃ more, t.history.fifo = rest ++ more ∧ ⟨r.serial, false⟩ ∈ more))
            ∧ (s.store.sectors[j].nextSlot < 127 →
                ∃ x, t.entryOf r.serial = some x ∧ x.journalDue = s.store.changed))
          ∧ (i.tombstone = true → r.verdict = .none →
            KeptAtEnd (s.programmed j slot r.block).numbered t
            ∧ (s.store.sectors[j].nextSlot < 127 ∨ t.store.mode ≠ .degraded →
                rest <+: t.history.fifo ∧ t.history.tombs = s.history.tombs.erase r.serial))
          ∧ (i.tombstone = decide (r.verdict ≠ .none) →
            KeptAtEnd (s.programmed j slot r.block).numbered t
            ∧ (s.store.sectors[j].nextSlot < 127 ∨ t.store.mode ≠ .degraded →
                i :: rest <+: t.history.fifo ∧ t.history.tombs = s.history.tombs)))
      ∧ (s.store.mode = .degraded → s.history.fifo = [] → s.history.joining = [] →
          KeptAtEnd { (s.programmed j slot r.block).numbered with
            history := if r.verdict = .none then s.history else s.history.located j slot r } t
          ∧ t.history = (if r.verdict = .none then s.history else s.history.located j slot r)
          ∧ t.store.mode = .degraded))
    ∧ ∀ got : Block, got ≠ r.block →
      ∃ t, exec (.recordProgram (some got)) s = .next t
        ∧ KeptAtEnd ((s.programmed j slot got).updStore fun x =>
            { x with programFailures := min 65535 (x.programFailures + 1) }) t
        ∧ t.flash.slot (slotBase j slot) = got ∧ FlashKept s t (slotBase j slot) 32
        ∧ (∀ (i : DueItem) (rest : List DueItem) (n : Nat), s.store.mode = .normal → s.history.fifo = i :: rest →
            n = (s.store.retry.map (·.2)).getD 0 →
            (n < 7 → s.store.sectors[j].nextSlot < 127 ∨ t.store.mode ≠ .degraded →
              t.store.retry = some (r, n + 1) ∧ i :: rest <+: t.history.fifo)
            ∧ (n < 7 → s.store.sectors[j].nextSlot < 127 →
                s.store.powerWarning = true ∨ (s.store.tickets = [] ∧ s.store.victim = none) →
                ∃ j' slot', t.store.op = some (.append j' slot' r))
            ∧ (7 ≤ n → t.Degrades))
        ∧ (s.store.mode = .degraded → s.history.fifo = [] → s.history.joining = [] →
            t.history = s.history ∧ t.store.mode = .degraded)

/-- R159, R163 to R167: the ends of header programs and sector erases, and what reclaim and waiting do at them. A
verified header makes its sector ACTIVE with next_slot 1, a failed one DIRTY, and next_sector_seq grows either way; a
verified erase leaves the whole sector 0xFF and ERASED, a failed one RETIRED, counted and noticed. A reclaim starts when
a sector becomes ACTIVE and when the victim's erase ends, where no victim is present, two or fewer sectors are ERASED
and a FULL one exists: the victim is the FULL sector with the lowest sector_seq, and the entries whose latest record
lies in it become journal-due; after a failed erase of the victim as after a verified one. Appends begin to wait, with STORE raised and the reclaim check made, where a failed header
or a record of the last slot leaves items but no slot; a verified erase ends the waiting. Where they wait, the victim is
still named and nothing is left to erase, the journal is degraded, as it is where fewer than 3 sectors are not RETIRED
(R54). -/
def Obligations.HeadersAndErasesEnd : Prop :=
  ∀ (j : SecId) (seq : Nat) (s : State), s.port.resetPending = false → s.port.partState = .ready →
    s.store.nextSectorSeq < top32 →
    (s.store.op = some (.header j seq) →
      (∃ t, exec (.headerProgram none) s = .next t
        ∧ KeptAtEnd { s with
            flash := s.flash.writeRun (slotBase j 0) (headerBlock seq).toList
            store := { s.store with
              op := none, nextSectorSeq := s.store.nextSectorSeq + 1
              sectors := updAt s.store.sectors j fun _ =>
                { state := .active, seq := some seq, nextSlot := 1 } } } t
        ∧ (s.store.mode = .normal →
            t.store.mode = .normal
            ∧ (∀ v, s.store.victim = some v → t.store.victim = some v)
            ∧ (s.store.victim = none → s.othersIn j .erased ≤ 2 → 0 < s.othersIn j .full → s.history.Sound →
                t.Reclaims)
            ∧ (s.store.victim = none → 2 < s.othersIn j .erased ∨ s.othersIn j .full = 0 →
                t.store.victim = none)))
      ∧ ∀ got : Block, got ≠ headerBlock seq → ∃ t, exec (.headerProgram (some got)) s = .next t
        ∧ KeptAtEnd { s with
            flash := s.flash.writeRun (slotBase j 0) got.toList
            store := { s.store with
              op := none, nextSectorSeq := s.store.nextSectorSeq + 1
              sectors := updAt s.store.sectors j fun x => { x with state := .dirty, seq := none } } } t
        ∧ (s.store.mode = .normal → 0 < s.othersIn j .erased →
            t.store.mode = .normal ∧ t.store.victim = s.store.victim)
        ∧ (s.store.mode = .normal → s.NoSlotBeside j → s.history.fifo ≠ [] →
            t.store.mode = .waiting ∧ t.notified .store = true
            ∧ (∀ v, s.store.victim = some v → t.store.victim = some v)
            ∧ (s.store.victim = none → 0 < s.othersIn j .full → s.history.Sound → t.Reclaims)))
    ∧ (s.store.op = some (.erase j) →
      (∃ t, exec (.sectorErase []) s = .next t
        ∧ KeptAtEnd { s with
            flash := s.flash.erase (sectorBase (secNumber j)) 4096
            store := { s.store with
              op := none
              sectors := updAt s.store.sectors j fun _ =>
                { state := .erased, seq := none, nextSlot := 0 } } } t
        ∧ (∀ k, k < 4096 → t.flash.read (sectorBase (secNumber j) + k) = 0xFF#8)
        ∧ FlashKept s t (sectorBase (secNumber j)) 4096
        ∧ (s.store.mode = .waiting → t.store.mode = .normal)
        ∧ (s.store.victim = some j → t.store.victim ≠ some j)
        ∧ (s.store.victim ≠ some j → t.store.victim = s.store.victim)
        ∧ (s.store.victim = some j → s.store.mode ≠ .degraded → s.history.Sound →
            (s.othersIn j .erased ≤ 1 → 0 < s.othersIn j .full → t.Reclaims)
            ∧ (1 < s.othersIn j .erased ∨ s.othersIn j .full = 0 → t.store.victim = none)))
      ∧ ∀ left, leftOk 4096 left = true → left ≠ [] → ∃ t, exec (.sectorErase left) s = .next t
        ∧ t.store.sectors[j].state = .retired ∧ t.notified .store = true
        ∧ t.store.eraseFailures = min 65535 (s.store.eraseFailures + 1)
        ∧ FlashKept s t (sectorBase (secNumber j)) 4096
        ∧ (s.store.victim = some j → t.store.victim ≠ some j)
        ∧ (s.store.mode ≠ .degraded → 7 - s.othersIn j .retired < 3 → t.Degrades)
        ∧ (s.store.victim = some j → s.store.mode ≠ .degraded → 3 ≤ 7 - s.othersIn j .retired →
            (0 < s.othersIn j .erased ∨ 0 < s.othersIn j .dirty → t.store.mode ≠ .degraded)
            ∧ (s.othersIn j .erased ≤ 2 → 0 < s.othersIn j .full → s.history.Sound → t.store.mode ≠ .degraded →
                t.Reclaims)
            ∧ (2 < s.othersIn j .erased ∨ s.othersIn j .full = 0 → t.store.victim = none))
        ∧ (s.store.victim = some j → s.store.mode = .waiting → s.othersIn j .erased = 0 → s.othersIn j .dirty = 0 →
            0 < s.othersIn j .full →
            (∀ x : SecId, x ≠ j → s.store.sectors[x].state = .full →
              ∃ e ∈ s.history.live, e.journalLocation.map (·.sector) = some x) → t.Degrades)
        ∧ (∀ (v : SecId) (e : Entry), s.store.mode = .waiting → v ≠ j → s.store.victim = some v →
            e ∈ s.history.live → e.journalLocation.map (·.sector) = some v → s.othersIn j .erased = 0 →
            s.othersIn j .dirty = 0 → t.Degrades))
    ∧ ∀ (slot : Nat) (r : JournalRecord) (i : DueItem) (rest : List DueItem), s.store.op = some (.append j slot r) →
      s.store.mode = .normal → s.history.fifo = i :: rest → rest ≠ [] → i.serial = r.serial →
      i.tombstone = decide (r.verdict = .none) → s.history.Sound → s.store.nextJournalSeq < top32 →
      s.store.sectors[j].state = .active → s.store.sectors[j].nextSlot = 127 → s.NoSlotBeside j →
      ∃ t, exec (.recordProgram none) s = .next t ∧ t.notified .store = true
        ∧ (0 < s.othersIn j .dirty → t.store.mode = .waiting ∧ rest <+: t.history.fifo
            ∧ (s.store.victim = none → t.Reclaims)
            ∧ (∀ v, s.store.victim = some v → t.store.victim = some v))
        ∧ (∀ (v : SecId) (e : Entry), s.othersIn j .dirty = 0 → s.store.victim = some v → e ∈ s.history.live →
            e.serial ≠ r.serial → e.journalLocation.map (·.sector) = some v → t.Degrades)

/-- R60, R112, R116, R156, R174: a profile rewrite whose every step verifies switches the channel's RAM profile,
makes profile_state GOOD and answers DONE; where it sets an unset channel closed_reason becomes EMPTY with a
CHANNEL notice, and a change of ink_type moves the residue to unbooked. One that fails leaves the RAM profile,
makes profile_state DAMAGED, raises STORE and answers STORE_FAULT. Each step verifies by its own read-back: a step that
the command names and that reads back right, the erase with all bytes blank or a slot with the bytes written, has
verified, and the rewrite goes on as one whose every step verifies; that reading of the operand is the model's own (log
entry 28). The window counts of the channel's bays become 0 where s_empty, s_full, tolerance or window changes, and
stand otherwise; no other bay changes. Both bays of a channel whose ink_type changes are
EMPTY or SETTLING. -/
def Obligations.ProfileRewritesEnd : Prop :=
  ∀ (k : SlotId) (c : ChanId) (p : Profile) (s : State), s.store.op = some (.profileRewrite k c p) →
    s.port.resetPending = false → s.port.partState = .ready → (s.slot k).hand = .taken →
    ((s.chan c).profile.map (·.inkType) ≠ some p.inkType →
      (s.bay (bayA c)).state.vacant = true ∧ (s.bay (bayB c)).state.vacant = true) →
    (s.chan c).unbooked + (s.chan c).residue < top64 →
    (∃ t, exec (.profileRewrite .verified) s = .next t
      ∧ (t.chan c).profile = some p ∧ (∀ x, x ≠ c → t.chan x = s.chan x)
      ∧ t.store.profileState = .good
      ∧ (t.slot k).hand = .answered ∧ (t.slot k).status = 0x0001#16
      ∧ (t.slot k).answer = fitList 30 0#8 [natByte c.val, 0#8]
      ∧ (t.chan c).total = (s.chan c).total ∧ (t.chan c).charged = (s.chan c).charged
      ∧ ((s.chan c).profile.map (·.inkType) = some p.inkType →
          (t.chan c).residue = (s.chan c).residue ∧ (t.chan c).unbooked = (s.chan c).unbooked)
      ∧ ((s.chan c).profile.map (·.inkType) ≠ some p.inkType →
          (t.chan c).residue = 0 ∧ (t.chan c).unbooked = (s.chan c).unbooked + (s.chan c).residue)
      ∧ ((s.chan c).profile = none → (t.chan c).closedReason = .empty ∧ t.notified .channel = true)
      ∧ (t.chan c).feedState = (s.chan c).feedState
      ∧ ((s.chan c).profile.map (·.tallySource) = some p.tallySource →
          (t.chan c).seqStarted = (s.chan c).seqStarted)
      ∧ ((s.chan c).profile.map (·.tallySource) ≠ some p.tallySource → (t.chan c).seqStarted = false)
      ∧ (∀ b, (t.bay b).state = (s.bay b).state) ∧ FlashKept s t 0 4096
      ∧ (∀ b, chanOf b = c →
          (s.chan c).profile.map (fun q => (q.sEmpty, q.sFull, q.tolerance, q.window))
            ≠ some (p.sEmpty, p.sFull, p.tolerance, p.window) →
          (t.bay b).settled = ({ s.bay b with sense :=
            { (s.bay b).sense with windowCount := 0, posCount := 0, negCount := 0 } } : Bay).settled)
      ∧ ∀ b, chanOf b ≠ c
            ∨ (s.chan c).profile.map (fun q => (q.sEmpty, q.sFull, q.tolerance, q.window))
              = some (p.sEmpty, p.sFull, p.tolerance, p.window) →
          (t.bay b).settled = (s.bay b).settled)
    ∧ exec (.profileRewrite (.failed 0 [])) s = exec (.profileRewrite .verified) s
    ∧ ∀ (step : Nat) (left : List (Nat × Byte)),
        (s.rewriteVerifies c p (.failed step left) = true →
          exec (.profileRewrite (.failed step left)) s = exec (.profileRewrite .verified) s)
        ∧ (s.rewriteVerifies c p (.failed step left) = false →
          ∃ t, exec (.profileRewrite (.failed step left)) s = .next t
            ∧ (t.chan c).profile = (s.chan c).profile ∧ t.store.profileState = .damaged
            ∧ t.notified .store = true ∧ (t.slot k).hand = .answered ∧ (t.slot k).status = 0x000D#16
            ∧ t.channels = s.channels ∧ (∀ b, (t.bay b).settled = (s.bay b).settled) ∧ FlashKept s t 0 4096)

/-- R175, R207: a CHECK_STORE read is answered with first, the sectors covered and their CRC; the read of a
code 6 test ends it as a pass when no slot of sector 0 is bad and as a mismatch otherwise. Neither changes the
flash. -/
def Obligations.FlashReadsAreAnswered : Prop :=
  ∀ (k : SlotId) (s : State), s.port.resetPending = false → s.port.partState = .ready →
    (s.slot k).hand = .taken →
    (∀ first last, s.store.op = some (.checkRead k first last) → first ≤ last → last ≤ 8 →
      ∃ t, exec .checkStoreRead s = .next t
        ∧ (t.slot k).hand = .answered ∧ (t.slot k).status = 0x0001#16
        ∧ fieldAt (t.slot k).answer.toList 0 2 = first
        ∧ fieldAt (t.slot k).answer.toList 2 2 = last + 1 - first
        ∧ fieldAt (t.slot k).answer.toList 4 2
            = (crc16 (s.flash.readRun (4096 * first) ((last + 1 - first) * 4096))).toNat
        ∧ t.flash = s.flash ∧ t.channels = s.channels ∧ ∀ b, (t.bay b).settled = (s.bay b).settled)
    ∧ (s.store.op = some (.profileRead k) →
      ∃ t, exec .profileSectorRead s = .next t
        ∧ (t.slot k).hand = .answered ∧ (t.slot k).status = 0x0001#16
        ∧ t.selfTest.running = false ∧ t.notified .test = true
        ∧ ((∀ c : ChanId, (s.flash.judge c).code ≠ 2#8) →
            t.selfTest.result = s.selfTest.code ∧ t.selfTest.failCause = .none)
        ∧ ((∃ c : ChanId, (s.flash.judge c).code = 2#8) →
            t.selfTest.result = 15 ∧ t.selfTest.failCause = .mismatch)
        ∧ (∀ c : ChanId, byteAt (t.slot k).answer.toList (4 + c.val) = (s.flash.judge c).code)
        ∧ t.flash = s.flash ∧ t.channels = s.channels
        ∧ t.store.profileState = s.store.profileState)
end

