-- ==== Sys2Proof/Laws/State.lean ====
section
/-! SUPPORT. What each update of the state changes: one lemma per field per update, true by rfl, and reading
one of many after one of them was changed. -/

namespace Sys2Proof.Machine

/-! ### Places of a vector -/

theorem updAt_self {α : Type} {n : Nat} (v : Vector α n) (i : Fin n) (f : α → α) :
    (updAt v i f)[i] = f v[i] := by simp [updAt]

theorem updAt_other {α : Type} {n : Nat} (v : Vector α n) (i j : Fin n) (f : α → α) (h : j ≠ i) :
    (updAt v i f)[j] = v[j] := by
  have hne : i.val ≠ j.val := fun hv => h (Fin.ext hv.symm)
  simp [updAt, hne]

theorem mapAll_get {α β : Type} {n : Nat} (v : Vector α n) (f : Fin n → α → β) (i : Fin n) :
    (mapAll v f)[i] = f i v[i] := by simp [mapAll]

/-! ### updBay -/

@[simp] theorem State.updBay_pending (s : State) (b : BayId) (f : Bay → Bay) :
    (s.updBay b f).pending = s.pending := rfl
@[simp] theorem State.updBay_outside (s : State) (b : BayId) (f : Bay → Bay) :
    (s.updBay b f).outside = s.outside := rfl
@[simp] theorem State.updBay_flash (s : State) (b : BayId) (f : Bay → Bay) :
    (s.updBay b f).flash = s.flash := rfl
@[simp] theorem State.updBay_port (s : State) (b : BayId) (f : Bay → Bay) :
    (s.updBay b f).port = s.port := rfl
@[simp] theorem State.updBay_auth (s : State) (b : BayId) (f : Bay → Bay) :
    (s.updBay b f).auth = s.auth := rfl
@[simp] theorem State.updBay_latch (s : State) (b : BayId) (f : Bay → Bay) :
    (s.updBay b f).latch = s.latch := rfl
@[simp] theorem State.updBay_channels (s : State) (b : BayId) (f : Bay → Bay) :
    (s.updBay b f).channels = s.channels := rfl
@[simp] theorem State.updBay_tally (s : State) (b : BayId) (f : Bay → Bay) :
    (s.updBay b f).tally = s.tally := rfl
@[simp] theorem State.updBay_engines (s : State) (b : BayId) (f : Bay → Bay) :
    (s.updBay b f).engines = s.engines := rfl
@[simp] theorem State.updBay_history (s : State) (b : BayId) (f : Bay → Bay) :
    (s.updBay b f).history = s.history := rfl
@[simp] theorem State.updBay_store (s : State) (b : BayId) (f : Bay → Bay) :
    (s.updBay b f).store = s.store := rfl
@[simp] theorem State.updBay_selfTest (s : State) (b : BayId) (f : Bay → Bay) :
    (s.updBay b f).selfTest = s.selfTest := rfl
@[simp] theorem State.updBay_gens (s : State) (b : BayId) (f : Bay → Bay) :
    (s.updBay b f).gens = s.gens := rfl

/-! ### updChan -/

@[simp] theorem State.updChan_pending (s : State) (c : ChanId) (f : Channel → Channel) :
    (s.updChan c f).pending = s.pending := rfl
@[simp] theorem State.updChan_outside (s : State) (c : ChanId) (f : Channel → Channel) :
    (s.updChan c f).outside = s.outside := rfl
@[simp] theorem State.updChan_flash (s : State) (c : ChanId) (f : Channel → Channel) :
    (s.updChan c f).flash = s.flash := rfl
@[simp] theorem State.updChan_port (s : State) (c : ChanId) (f : Channel → Channel) :
    (s.updChan c f).port = s.port := rfl
@[simp] theorem State.updChan_bays (s : State) (c : ChanId) (f : Channel → Channel) :
    (s.updChan c f).bays = s.bays := rfl
@[simp] theorem State.updChan_auth (s : State) (c : ChanId) (f : Channel → Channel) :
    (s.updChan c f).auth = s.auth := rfl
@[simp] theorem State.updChan_latch (s : State) (c : ChanId) (f : Channel → Channel) :
    (s.updChan c f).latch = s.latch := rfl
@[simp] theorem State.updChan_tally (s : State) (c : ChanId) (f : Channel → Channel) :
    (s.updChan c f).tally = s.tally := rfl
@[simp] theorem State.updChan_engines (s : State) (c : ChanId) (f : Channel → Channel) :
    (s.updChan c f).engines = s.engines := rfl
@[simp] theorem State.updChan_history (s : State) (c : ChanId) (f : Channel → Channel) :
    (s.updChan c f).history = s.history := rfl
@[simp] theorem State.updChan_store (s : State) (c : ChanId) (f : Channel → Channel) :
    (s.updChan c f).store = s.store := rfl
@[simp] theorem State.updChan_selfTest (s : State) (c : ChanId) (f : Channel → Channel) :
    (s.updChan c f).selfTest = s.selfTest := rfl
@[simp] theorem State.updChan_gens (s : State) (c : ChanId) (f : Channel → Channel) :
    (s.updChan c f).gens = s.gens := rfl

/-! ### updEng -/

@[simp] theorem State.updEng_pending (s : State) (e : EngId) (f : Engine → Engine) :
    (s.updEng e f).pending = s.pending := rfl
@[simp] theorem State.updEng_outside (s : State) (e : EngId) (f : Engine → Engine) :
    (s.updEng e f).outside = s.outside := rfl
@[simp] theorem State.updEng_flash (s : State) (e : EngId) (f : Engine → Engine) :
    (s.updEng e f).flash = s.flash := rfl
@[simp] theorem State.updEng_port (s : State) (e : EngId) (f : Engine → Engine) :
    (s.updEng e f).port = s.port := rfl
@[simp] theorem State.updEng_bays (s : State) (e : EngId) (f : Engine → Engine) :
    (s.updEng e f).bays = s.bays := rfl
@[simp] theorem State.updEng_auth (s : State) (e : EngId) (f : Engine → Engine) :
    (s.updEng e f).auth = s.auth := rfl
@[simp] theorem State.updEng_latch (s : State) (e : EngId) (f : Engine → Engine) :
    (s.updEng e f).latch = s.latch := rfl
@[simp] theorem State.updEng_channels (s : State) (e : EngId) (f : Engine → Engine) :
    (s.updEng e f).channels = s.channels := rfl
@[simp] theorem State.updEng_tally (s : State) (e : EngId) (f : Engine → Engine) :
    (s.updEng e f).tally = s.tally := rfl
@[simp] theorem State.updEng_history (s : State) (e : EngId) (f : Engine → Engine) :
    (s.updEng e f).history = s.history := rfl
@[simp] theorem State.updEng_store (s : State) (e : EngId) (f : Engine → Engine) :
    (s.updEng e f).store = s.store := rfl
@[simp] theorem State.updEng_selfTest (s : State) (e : EngId) (f : Engine → Engine) :
    (s.updEng e f).selfTest = s.selfTest := rfl
@[simp] theorem State.updEng_gens (s : State) (e : EngId) (f : Engine → Engine) :
    (s.updEng e f).gens = s.gens := rfl

/-! ### updPort -/

@[simp] theorem State.updPort_pending (s : State) (f : Port → Port) :
    (s.updPort f).pending = s.pending := rfl
@[simp] theorem State.updPort_outside (s : State) (f : Port → Port) :
    (s.updPort f).outside = s.outside := rfl
@[simp] theorem State.updPort_flash (s : State) (f : Port → Port) :
    (s.updPort f).flash = s.flash := rfl
@[simp] theorem State.updPort_bays (s : State) (f : Port → Port) :
    (s.updPort f).bays = s.bays := rfl
@[simp] theorem State.updPort_auth (s : State) (f : Port → Port) :
    (s.updPort f).auth = s.auth := rfl
@[simp] theorem State.updPort_latch (s : State) (f : Port → Port) :
    (s.updPort f).latch = s.latch := rfl
@[simp] theorem State.updPort_channels (s : State) (f : Port → Port) :
    (s.updPort f).channels = s.channels := rfl
@[simp] theorem State.updPort_tally (s : State) (f : Port → Port) :
    (s.updPort f).tally = s.tally := rfl
@[simp] theorem State.updPort_engines (s : State) (f : Port → Port) :
    (s.updPort f).engines = s.engines := rfl
@[simp] theorem State.updPort_history (s : State) (f : Port → Port) :
    (s.updPort f).history = s.history := rfl
@[simp] theorem State.updPort_store (s : State) (f : Port → Port) :
    (s.updPort f).store = s.store := rfl
@[simp] theorem State.updPort_selfTest (s : State) (f : Port → Port) :
    (s.updPort f).selfTest = s.selfTest := rfl
@[simp] theorem State.updPort_gens (s : State) (f : Port → Port) :
    (s.updPort f).gens = s.gens := rfl

/-! ### updSlot -/

@[simp] theorem State.updSlot_pending (s : State) (k : SlotId) (f : Slot → Slot) :
    (s.updSlot k f).pending = s.pending := rfl
@[simp] theorem State.updSlot_outside (s : State) (k : SlotId) (f : Slot → Slot) :
    (s.updSlot k f).outside = s.outside := rfl
@[simp] theorem State.updSlot_flash (s : State) (k : SlotId) (f : Slot → Slot) :
    (s.updSlot k f).flash = s.flash := rfl
@[simp] theorem State.updSlot_bays (s : State) (k : SlotId) (f : Slot → Slot) :
    (s.updSlot k f).bays = s.bays := rfl
@[simp] theorem State.updSlot_auth (s : State) (k : SlotId) (f : Slot → Slot) :
    (s.updSlot k f).auth = s.auth := rfl
@[simp] theorem State.updSlot_latch (s : State) (k : SlotId) (f : Slot → Slot) :
    (s.updSlot k f).latch = s.latch := rfl
@[simp] theorem State.updSlot_channels (s : State) (k : SlotId) (f : Slot → Slot) :
    (s.updSlot k f).channels = s.channels := rfl
@[simp] theorem State.updSlot_tally (s : State) (k : SlotId) (f : Slot → Slot) :
    (s.updSlot k f).tally = s.tally := rfl
@[simp] theorem State.updSlot_engines (s : State) (k : SlotId) (f : Slot → Slot) :
    (s.updSlot k f).engines = s.engines := rfl
@[simp] theorem State.updSlot_history (s : State) (k : SlotId) (f : Slot → Slot) :
    (s.updSlot k f).history = s.history := rfl
@[simp] theorem State.updSlot_store (s : State) (k : SlotId) (f : Slot → Slot) :
    (s.updSlot k f).store = s.store := rfl
@[simp] theorem State.updSlot_selfTest (s : State) (k : SlotId) (f : Slot → Slot) :
    (s.updSlot k f).selfTest = s.selfTest := rfl
@[simp] theorem State.updSlot_gens (s : State) (k : SlotId) (f : Slot → Slot) :
    (s.updSlot k f).gens = s.gens := rfl

/-! ### updHist -/

@[simp] theorem State.updHist_pending (s : State) (f : History → History) :
    (s.updHist f).pending = s.pending := rfl
@[simp] theorem State.updHist_outside (s : State) (f : History → History) :
    (s.updHist f).outside = s.outside := rfl
@[simp] theorem State.updHist_flash (s : State) (f : History → History) :
    (s.updHist f).flash = s.flash := rfl
@[simp] theorem State.updHist_port (s : State) (f : History → History) :
    (s.updHist f).port = s.port := rfl
@[simp] theorem State.updHist_bays (s : State) (f : History → History) :
    (s.updHist f).bays = s.bays := rfl
@[simp] theorem State.updHist_auth (s : State) (f : History → History) :
    (s.updHist f).auth = s.auth := rfl
@[simp] theorem State.updHist_latch (s : State) (f : History → History) :
    (s.updHist f).latch = s.latch := rfl
@[simp] theorem State.updHist_channels (s : State) (f : History → History) :
    (s.updHist f).channels = s.channels := rfl
@[simp] theorem State.updHist_tally (s : State) (f : History → History) :
    (s.updHist f).tally = s.tally := rfl
@[simp] theorem State.updHist_engines (s : State) (f : History → History) :
    (s.updHist f).engines = s.engines := rfl
@[simp] theorem State.updHist_store (s : State) (f : History → History) :
    (s.updHist f).store = s.store := rfl
@[simp] theorem State.updHist_selfTest (s : State) (f : History → History) :
    (s.updHist f).selfTest = s.selfTest := rfl
@[simp] theorem State.updHist_gens (s : State) (f : History → History) :
    (s.updHist f).gens = s.gens := rfl

/-! ### updStore -/

@[simp] theorem State.updStore_pending (s : State) (f : Store → Store) :
    (s.updStore f).pending = s.pending := rfl
@[simp] theorem State.updStore_outside (s : State) (f : Store → Store) :
    (s.updStore f).outside = s.outside := rfl
@[simp] theorem State.updStore_flash (s : State) (f : Store → Store) :
    (s.updStore f).flash = s.flash := rfl
@[simp] theorem State.updStore_port (s : State) (f : Store → Store) :
    (s.updStore f).port = s.port := rfl
@[simp] theorem State.updStore_bays (s : State) (f : Store → Store) :
    (s.updStore f).bays = s.bays := rfl
@[simp] theorem State.updStore_auth (s : State) (f : Store → Store) :
    (s.updStore f).auth = s.auth := rfl
@[simp] theorem State.updStore_latch (s : State) (f : Store → Store) :
    (s.updStore f).latch = s.latch := rfl
@[simp] theorem State.updStore_channels (s : State) (f : Store → Store) :
    (s.updStore f).channels = s.channels := rfl
@[simp] theorem State.updStore_tally (s : State) (f : Store → Store) :
    (s.updStore f).tally = s.tally := rfl
@[simp] theorem State.updStore_engines (s : State) (f : Store → Store) :
    (s.updStore f).engines = s.engines := rfl
@[simp] theorem State.updStore_history (s : State) (f : Store → Store) :
    (s.updStore f).history = s.history := rfl
@[simp] theorem State.updStore_selfTest (s : State) (f : Store → Store) :
    (s.updStore f).selfTest = s.selfTest := rfl
@[simp] theorem State.updStore_gens (s : State) (f : Store → Store) :
    (s.updStore f).gens = s.gens := rfl

/-! ### updOutside -/

@[simp] theorem State.updOutside_pending (s : State) (f : Outside → Outside) :
    (s.updOutside f).pending = s.pending := rfl
@[simp] theorem State.updOutside_flash (s : State) (f : Outside → Outside) :
    (s.updOutside f).flash = s.flash := rfl
@[simp] theorem State.updOutside_port (s : State) (f : Outside → Outside) :
    (s.updOutside f).port = s.port := rfl
@[simp] theorem State.updOutside_bays (s : State) (f : Outside → Outside) :
    (s.updOutside f).bays = s.bays := rfl
@[simp] theorem State.updOutside_auth (s : State) (f : Outside → Outside) :
    (s.updOutside f).auth = s.auth := rfl
@[simp] theorem State.updOutside_latch (s : State) (f : Outside → Outside) :
    (s.updOutside f).latch = s.latch := rfl
@[simp] theorem State.updOutside_channels (s : State) (f : Outside → Outside) :
    (s.updOutside f).channels = s.channels := rfl
@[simp] theorem State.updOutside_tally (s : State) (f : Outside → Outside) :
    (s.updOutside f).tally = s.tally := rfl
@[simp] theorem State.updOutside_engines (s : State) (f : Outside → Outside) :
    (s.updOutside f).engines = s.engines := rfl
@[simp] theorem State.updOutside_history (s : State) (f : Outside → Outside) :
    (s.updOutside f).history = s.history := rfl
@[simp] theorem State.updOutside_store (s : State) (f : Outside → Outside) :
    (s.updOutside f).store = s.store := rfl
@[simp] theorem State.updOutside_selfTest (s : State) (f : Outside → Outside) :
    (s.updOutside f).selfTest = s.selfTest := rfl
@[simp] theorem State.updOutside_gens (s : State) (f : Outside → Outside) :
    (s.updOutside f).gens = s.gens := rfl

/-! ### updTag -/

@[simp] theorem State.updTag_pending (s : State) (b : BayId) (f : Tag → Tag) :
    (s.updTag b f).pending = s.pending := rfl
@[simp] theorem State.updTag_flash (s : State) (b : BayId) (f : Tag → Tag) :
    (s.updTag b f).flash = s.flash := rfl
@[simp] theorem State.updTag_port (s : State) (b : BayId) (f : Tag → Tag) :
    (s.updTag b f).port = s.port := rfl
@[simp] theorem State.updTag_bays (s : State) (b : BayId) (f : Tag → Tag) :
    (s.updTag b f).bays = s.bays := rfl
@[simp] theorem State.updTag_auth (s : State) (b : BayId) (f : Tag → Tag) :
    (s.updTag b f).auth = s.auth := rfl
@[simp] theorem State.updTag_latch (s : State) (b : BayId) (f : Tag → Tag) :
    (s.updTag b f).latch = s.latch := rfl
@[simp] theorem State.updTag_channels (s : State) (b : BayId) (f : Tag → Tag) :
    (s.updTag b f).channels = s.channels := rfl
@[simp] theorem State.updTag_tally (s : State) (b : BayId) (f : Tag → Tag) :
    (s.updTag b f).tally = s.tally := rfl
@[simp] theorem State.updTag_engines (s : State) (b : BayId) (f : Tag → Tag) :
    (s.updTag b f).engines = s.engines := rfl
@[simp] theorem State.updTag_history (s : State) (b : BayId) (f : Tag → Tag) :
    (s.updTag b f).history = s.history := rfl
@[simp] theorem State.updTag_store (s : State) (b : BayId) (f : Tag → Tag) :
    (s.updTag b f).store = s.store := rfl
@[simp] theorem State.updTag_selfTest (s : State) (b : BayId) (f : Tag → Tag) :
    (s.updTag b f).selfTest = s.selfTest := rfl
@[simp] theorem State.updTag_gens (s : State) (b : BayId) (f : Tag → Tag) :
    (s.updTag b f).gens = s.gens := rfl

/-! ### atTime -/

@[simp] theorem State.atTime_pending (s : State) (time : Nat) :
    (s.atTime time).pending = s.pending := rfl
@[simp] theorem State.atTime_flash (s : State) (time : Nat) :
    (s.atTime time).flash = s.flash := rfl
@[simp] theorem State.atTime_port (s : State) (time : Nat) :
    (s.atTime time).port = s.port := rfl
@[simp] theorem State.atTime_bays (s : State) (time : Nat) :
    (s.atTime time).bays = s.bays := rfl
@[simp] theorem State.atTime_auth (s : State) (time : Nat) :
    (s.atTime time).auth = s.auth := rfl
@[simp] theorem State.atTime_latch (s : State) (time : Nat) :
    (s.atTime time).latch = s.latch := rfl
@[simp] theorem State.atTime_channels (s : State) (time : Nat) :
    (s.atTime time).channels = s.channels := rfl
@[simp] theorem State.atTime_tally (s : State) (time : Nat) :
    (s.atTime time).tally = s.tally := rfl
@[simp] theorem State.atTime_engines (s : State) (time : Nat) :
    (s.atTime time).engines = s.engines := rfl
@[simp] theorem State.atTime_history (s : State) (time : Nat) :
    (s.atTime time).history = s.history := rfl
@[simp] theorem State.atTime_store (s : State) (time : Nat) :
    (s.atTime time).store = s.store := rfl
@[simp] theorem State.atTime_selfTest (s : State) (time : Nat) :
    (s.atTime time).selfTest = s.selfTest := rfl
@[simp] theorem State.atTime_gens (s : State) (time : Nat) :
    (s.atTime time).gens = s.gens := rfl

/-! ### raise -/

@[simp] theorem State.raise_pending (s : State) (k : Notice) :
    (s.raise k).pending = s.pending := rfl
@[simp] theorem State.raise_outside (s : State) (k : Notice) :
    (s.raise k).outside = s.outside := rfl
@[simp] theorem State.raise_flash (s : State) (k : Notice) :
    (s.raise k).flash = s.flash := rfl
@[simp] theorem State.raise_bays (s : State) (k : Notice) :
    (s.raise k).bays = s.bays := rfl
@[simp] theorem State.raise_auth (s : State) (k : Notice) :
    (s.raise k).auth = s.auth := rfl
@[simp] theorem State.raise_latch (s : State) (k : Notice) :
    (s.raise k).latch = s.latch := rfl
@[simp] theorem State.raise_channels (s : State) (k : Notice) :
    (s.raise k).channels = s.channels := rfl
@[simp] theorem State.raise_tally (s : State) (k : Notice) :
    (s.raise k).tally = s.tally := rfl
@[simp] theorem State.raise_engines (s : State) (k : Notice) :
    (s.raise k).engines = s.engines := rfl
@[simp] theorem State.raise_history (s : State) (k : Notice) :
    (s.raise k).history = s.history := rfl
@[simp] theorem State.raise_store (s : State) (k : Notice) :
    (s.raise k).store = s.store := rfl
@[simp] theorem State.raise_selfTest (s : State) (k : Notice) :
    (s.raise k).selfTest = s.selfTest := rfl
@[simp] theorem State.raise_gens (s : State) (k : Notice) :
    (s.raise k).gens = s.gens := rfl

/-! ### publishSince -/

@[simp] theorem State.publishSince_pending (s : State) (before : State) :
    (s.publishSince before).pending = s.pending := by cases s; rfl
@[simp] theorem State.publishSince_outside (s : State) (before : State) :
    (s.publishSince before).outside = s.outside := by cases s; rfl
@[simp] theorem State.publishSince_flash (s : State) (before : State) :
    (s.publishSince before).flash = s.flash := by cases s; rfl
@[simp] theorem State.publishSince_port (s : State) (before : State) :
    (s.publishSince before).port = s.port := by cases s; rfl
@[simp] theorem State.publishSince_bays (s : State) (before : State) :
    (s.publishSince before).bays = s.bays := by cases s; rfl
@[simp] theorem State.publishSince_auth (s : State) (before : State) :
    (s.publishSince before).auth = s.auth := by cases s; rfl
@[simp] theorem State.publishSince_latch (s : State) (before : State) :
    (s.publishSince before).latch = s.latch := by cases s; rfl
@[simp] theorem State.publishSince_channels (s : State) (before : State) :
    (s.publishSince before).channels = s.channels := by cases s; rfl
@[simp] theorem State.publishSince_tally (s : State) (before : State) :
    (s.publishSince before).tally = s.tally := by cases s; rfl
@[simp] theorem State.publishSince_engines (s : State) (before : State) :
    (s.publishSince before).engines = s.engines := by cases s; rfl
@[simp] theorem State.publishSince_history (s : State) (before : State) :
    (s.publishSince before).history = s.history := by cases s; rfl
@[simp] theorem State.publishSince_store (s : State) (before : State) :
    (s.publishSince before).store = s.store := by cases s; rfl
@[simp] theorem State.publishSince_selfTest (s : State) (before : State) :
    (s.publishSince before).selfTest = s.selfTest := by cases s; rfl

/-! ### setHand -/

@[simp] theorem State.setHand_pending (s : State) (k : SlotId) (h : Hand) :
    (s.setHand k h).pending = s.pending := rfl
@[simp] theorem State.setHand_outside (s : State) (k : SlotId) (h : Hand) :
    (s.setHand k h).outside = s.outside := rfl
@[simp] theorem State.setHand_flash (s : State) (k : SlotId) (h : Hand) :
    (s.setHand k h).flash = s.flash := rfl
@[simp] theorem State.setHand_bays (s : State) (k : SlotId) (h : Hand) :
    (s.setHand k h).bays = s.bays := rfl
@[simp] theorem State.setHand_auth (s : State) (k : SlotId) (h : Hand) :
    (s.setHand k h).auth = s.auth := rfl
@[simp] theorem State.setHand_latch (s : State) (k : SlotId) (h : Hand) :
    (s.setHand k h).latch = s.latch := rfl
@[simp] theorem State.setHand_channels (s : State) (k : SlotId) (h : Hand) :
    (s.setHand k h).channels = s.channels := rfl
@[simp] theorem State.setHand_tally (s : State) (k : SlotId) (h : Hand) :
    (s.setHand k h).tally = s.tally := rfl
@[simp] theorem State.setHand_engines (s : State) (k : SlotId) (h : Hand) :
    (s.setHand k h).engines = s.engines := rfl
@[simp] theorem State.setHand_history (s : State) (k : SlotId) (h : Hand) :
    (s.setHand k h).history = s.history := rfl
@[simp] theorem State.setHand_store (s : State) (k : SlotId) (h : Hand) :
    (s.setHand k h).store = s.store := rfl
@[simp] theorem State.setHand_selfTest (s : State) (k : SlotId) (h : Hand) :
    (s.setHand k h).selfTest = s.selfTest := rfl
@[simp] theorem State.setHand_gens (s : State) (k : SlotId) (h : Hand) :
    (s.setHand k h).gens = s.gens := rfl

/-! ### writeAnswer -/

@[simp] theorem State.writeAnswer_pending (s : State) (k : SlotId) (a : Answer) :
    (s.writeAnswer k a).pending = s.pending := by unfold State.writeAnswer; split <;> rfl
@[simp] theorem State.writeAnswer_outside (s : State) (k : SlotId) (a : Answer) :
    (s.writeAnswer k a).outside = s.outside := by unfold State.writeAnswer; split <;> rfl
@[simp] theorem State.writeAnswer_flash (s : State) (k : SlotId) (a : Answer) :
    (s.writeAnswer k a).flash = s.flash := by unfold State.writeAnswer; split <;> rfl
@[simp] theorem State.writeAnswer_bays (s : State) (k : SlotId) (a : Answer) :
    (s.writeAnswer k a).bays = s.bays := by unfold State.writeAnswer; split <;> rfl
@[simp] theorem State.writeAnswer_auth (s : State) (k : SlotId) (a : Answer) :
    (s.writeAnswer k a).auth = s.auth := by unfold State.writeAnswer; split <;> rfl
@[simp] theorem State.writeAnswer_latch (s : State) (k : SlotId) (a : Answer) :
    (s.writeAnswer k a).latch = s.latch := by unfold State.writeAnswer; split <;> rfl
@[simp] theorem State.writeAnswer_channels (s : State) (k : SlotId) (a : Answer) :
    (s.writeAnswer k a).channels = s.channels := by unfold State.writeAnswer; split <;> rfl
@[simp] theorem State.writeAnswer_tally (s : State) (k : SlotId) (a : Answer) :
    (s.writeAnswer k a).tally = s.tally := by unfold State.writeAnswer; split <;> rfl
@[simp] theorem State.writeAnswer_engines (s : State) (k : SlotId) (a : Answer) :
    (s.writeAnswer k a).engines = s.engines := by unfold State.writeAnswer; split <;> rfl
@[simp] theorem State.writeAnswer_history (s : State) (k : SlotId) (a : Answer) :
    (s.writeAnswer k a).history = s.history := by unfold State.writeAnswer; split <;> rfl
@[simp] theorem State.writeAnswer_store (s : State) (k : SlotId) (a : Answer) :
    (s.writeAnswer k a).store = s.store := by unfold State.writeAnswer; split <;> rfl
@[simp] theorem State.writeAnswer_selfTest (s : State) (k : SlotId) (a : Answer) :
    (s.writeAnswer k a).selfTest = s.selfTest := by unfold State.writeAnswer; split <;> rfl
@[simp] theorem State.writeAnswer_gens (s : State) (k : SlotId) (a : Answer) :
    (s.writeAnswer k a).gens = s.gens := by unfold State.writeAnswer; split <;> rfl

/-! ### updSector -/

@[simp] theorem State.updSector_pending (s : State) (j : SecId) (f : Sector → Sector) :
    (s.updSector j f).pending = s.pending := rfl
@[simp] theorem State.updSector_outside (s : State) (j : SecId) (f : Sector → Sector) :
    (s.updSector j f).outside = s.outside := rfl
@[simp] theorem State.updSector_flash (s : State) (j : SecId) (f : Sector → Sector) :
    (s.updSector j f).flash = s.flash := rfl
@[simp] theorem State.updSector_port (s : State) (j : SecId) (f : Sector → Sector) :
    (s.updSector j f).port = s.port := rfl
@[simp] theorem State.updSector_bays (s : State) (j : SecId) (f : Sector → Sector) :
    (s.updSector j f).bays = s.bays := rfl
@[simp] theorem State.updSector_auth (s : State) (j : SecId) (f : Sector → Sector) :
    (s.updSector j f).auth = s.auth := rfl
@[simp] theorem State.updSector_latch (s : State) (j : SecId) (f : Sector → Sector) :
    (s.updSector j f).latch = s.latch := rfl
@[simp] theorem State.updSector_channels (s : State) (j : SecId) (f : Sector → Sector) :
    (s.updSector j f).channels = s.channels := rfl
@[simp] theorem State.updSector_tally (s : State) (j : SecId) (f : Sector → Sector) :
    (s.updSector j f).tally = s.tally := rfl
@[simp] theorem State.updSector_engines (s : State) (j : SecId) (f : Sector → Sector) :
    (s.updSector j f).engines = s.engines := rfl
@[simp] theorem State.updSector_history (s : State) (j : SecId) (f : Sector → Sector) :
    (s.updSector j f).history = s.history := rfl
@[simp] theorem State.updSector_selfTest (s : State) (j : SecId) (f : Sector → Sector) :
    (s.updSector j f).selfTest = s.selfTest := rfl
@[simp] theorem State.updSector_gens (s : State) (j : SecId) (f : Sector → Sector) :
    (s.updSector j f).gens = s.gens := rfl

/-! ### updEntry -/

@[simp] theorem State.updEntry_pending (s : State) (serial : Serial) (f : Entry → Entry) :
    (s.updEntry serial f).pending = s.pending := rfl
@[simp] theorem State.updEntry_outside (s : State) (serial : Serial) (f : Entry → Entry) :
    (s.updEntry serial f).outside = s.outside := rfl
@[simp] theorem State.updEntry_flash (s : State) (serial : Serial) (f : Entry → Entry) :
    (s.updEntry serial f).flash = s.flash := rfl
@[simp] theorem State.updEntry_port (s : State) (serial : Serial) (f : Entry → Entry) :
    (s.updEntry serial f).port = s.port := rfl
@[simp] theorem State.updEntry_bays (s : State) (serial : Serial) (f : Entry → Entry) :
    (s.updEntry serial f).bays = s.bays := rfl
@[simp] theorem State.updEntry_auth (s : State) (serial : Serial) (f : Entry → Entry) :
    (s.updEntry serial f).auth = s.auth := rfl
@[simp] theorem State.updEntry_latch (s : State) (serial : Serial) (f : Entry → Entry) :
    (s.updEntry serial f).latch = s.latch := rfl
@[simp] theorem State.updEntry_channels (s : State) (serial : Serial) (f : Entry → Entry) :
    (s.updEntry serial f).channels = s.channels := rfl
@[simp] theorem State.updEntry_tally (s : State) (serial : Serial) (f : Entry → Entry) :
    (s.updEntry serial f).tally = s.tally := rfl
@[simp] theorem State.updEntry_engines (s : State) (serial : Serial) (f : Entry → Entry) :
    (s.updEntry serial f).engines = s.engines := rfl
@[simp] theorem State.updEntry_store (s : State) (serial : Serial) (f : Entry → Entry) :
    (s.updEntry serial f).store = s.store := rfl
@[simp] theorem State.updEntry_selfTest (s : State) (serial : Serial) (f : Entry → Entry) :
    (s.updEntry serial f).selfTest = s.selfTest := rfl
@[simp] theorem State.updEntry_gens (s : State) (serial : Serial) (f : Entry → Entry) :
    (s.updEntry serial f).gens = s.gens := rfl

/-! ### One bay, channel, engine or slot -/

@[simp] theorem State.bay_updBay_self (s : State) (b : BayId) (f : Bay → Bay) :
    (s.updBay b f).bay b = f (s.bay b) := updAt_self ..

@[simp] theorem State.bay_updBay_other (s : State) (b x : BayId) (f : Bay → Bay) (h : x ≠ b) :
    (s.updBay b f).bay x = s.bay x := updAt_other _ _ _ _ h

@[simp] theorem State.chan_updChan_self (s : State) (c : ChanId) (f : Channel → Channel) :
    (s.updChan c f).chan c = f (s.chan c) := updAt_self ..

@[simp] theorem State.chan_updChan_other (s : State) (c x : ChanId) (f : Channel → Channel) (h : x ≠ c) :
    (s.updChan c f).chan x = s.chan x := updAt_other _ _ _ _ h

@[simp] theorem State.eng_updEng_self (s : State) (e : EngId) (f : Engine → Engine) :
    (s.updEng e f).eng e = f (s.eng e) := updAt_self ..

@[simp] theorem State.eng_updEng_other (s : State) (e x : EngId) (f : Engine → Engine) (h : x ≠ e) :
    (s.updEng e f).eng x = s.eng x := updAt_other _ _ _ _ h

@[simp] theorem State.slot_updSlot_self (s : State) (k : SlotId) (f : Slot → Slot) :
    (s.updSlot k f).slot k = f (s.slot k) := updAt_self ..

@[simp] theorem State.slot_updSlot_other (s : State) (k x : SlotId) (f : Slot → Slot) (h : x ≠ k) :
    (s.updSlot k f).slot x = s.slot x := updAt_other _ _ _ _ h

@[simp] theorem State.slot_raise (s : State) (n : Notice) (k : SlotId) : (s.raise n).slot k = s.slot k := rfl

theorem State.slot_writeAnswer_self (s : State) (k : SlotId) (a : Answer) (h : (s.slot k).hand = .taken) :
    (s.writeAnswer k a).slot k = (s.slot k).answered a := by
  simp [State.writeAnswer, h]

theorem State.slot_writeAnswer_other (s : State) (k x : SlotId) (a : Answer) (h : x ≠ k) :
    (s.writeAnswer k a).slot x = s.slot x := by
  unfold State.writeAnswer
  split
  · rw [State.slot_raise, State.slot_updSlot_other _ _ _ _ h]
  · rfl

end Sys2Proof.Machine
end

