-- ==== Sys2Proof/Laws/EventEnd.lean ====
section
/-! SUPPORT. The end of an event keeps what KeptAtEnd says: one law for each part of it, then for the ends
of an event. A proof about a command cites these and never unfolds the arbiter or the store controller. -/

namespace Sys2Proof.Machine

/-! ### The relation -/

theorem KeptAtEnd.refl (s : State) : KeptAtEnd s s where
  pending := rfl
  outside := rfl
  flash := rfl
  port := rfl
  slots := fun _ _ => rfl
  notices := by simp
  bays := fun _ => rfl
  auth := rfl
  latch := rfl
  channels := rfl
  tally := rfl
  engines := fun _ => rfl
  inFlight := fun _ _ => rfl
  history := rfl
  counts := ⟨rfl, rfl, rfl⟩
  store := rfl
  op := fun _ => rfl
  tickets := fun _ h => h
  selfTest := rfl

/-- Bits kept over two steps are kept over both. -/
theorem bits_kept_trans (a b c : Byte) (h : a &&& ~~~b = 0#8) (k : b &&& ~~~c = 0#8) : a &&& ~~~c = 0#8 := by
  apply BitVec.eq_of_getLsbD_eq
  intro i hi
  have h1 := congrArg (fun x : Byte => x.getLsbD i) h
  have h2 := congrArg (fun x : Byte => x.getLsbD i) k
  simp [hi] at h1 h2 ⊢
  grind

theorem KeptAtEnd.trans {s t u : State} (h : KeptAtEnd s t) (k : KeptAtEnd t u) : KeptAtEnd s u where
  pending := k.pending.trans h.pending
  outside := k.outside.trans h.outside
  flash := k.flash.trans h.flash
  port := k.port.trans h.port
  slots := fun x hx => by
    have e := h.slots x hx
    refine (k.slots x ?_).trans e
    rcases hx with hx | hx
    · exact .inl (by rw [e]; exact hx)
    · exact .inr fun y hy => hx y (h.tickets y hy)
  notices := bits_kept_trans _ _ _ h.notices k.notices
  bays := fun b => (k.bays b).trans (h.bays b)
  auth := k.auth.trans h.auth
  latch := k.latch.trans h.latch
  channels := k.channels.trans h.channels
  tally := k.tally.trans h.tally
  engines := fun e => (k.engines e).trans (h.engines e)
  inFlight := fun e he => by
    have x := h.inFlight e he
    exact (k.inFlight e (by rw [x]; exact he)).trans x
  history := k.history.trans h.history
  counts := ⟨k.counts.1.trans h.counts.1, k.counts.2.1.trans h.counts.2.1, k.counts.2.2.trans h.counts.2.2⟩
  store := k.store.trans h.store
  op := fun ho => by
    have x := h.op ho
    exact (k.op (by rw [x]; exact ho)).trans x
  tickets := fun x hx => h.tickets x (k.tickets x hx)
  selfTest := k.selfTest.trans h.selfTest

/-! ### The updates the end of an event makes -/

theorem kept_raise (s : State) (n : Notice) : KeptAtEnd s (s.raise n) :=
  { KeptAtEnd.refl s with
    notices := by
      apply BitVec.eq_of_getLsbD_eq
      intro i hi
      simp [State.raise, State.updPort, hi]
      grind }

theorem kept_updStore (s : State) (f : Store → Store) (h : (f s.store).settled = s.store.settled)
    (k : ∀ x ∈ (f s.store).tickets, x ∈ s.store.tickets)
    (o : s.store.op ≠ none → (f s.store).op = s.store.op) : KeptAtEnd s (s.updStore f) :=
  { KeptAtEnd.refl s with store := h, tickets := k, op := o }

theorem kept_updHist (s : State) (f : History → History)
    (h : (f s.history).live.map Entry.content = s.history.live.map Entry.content)
    (k : (f s.history).useCounter = s.history.useCounter ∧ (f s.history).evictions = s.history.evictions
      ∧ (f s.history).untracked = s.history.untracked) : KeptAtEnd s (s.updHist f) :=
  { KeptAtEnd.refl s with history := h, counts := k }

theorem kept_updBay (s : State) (b : BayId) (f : Bay → Bay)
    (h : (f (s.bay b)).settled = (s.bay b).settled) : KeptAtEnd s (s.updBay b f) :=
  { KeptAtEnd.refl s with
    bays := fun x => by
      by_cases hx : x = b
      · subst hx; rw [State.bay_updBay_self]; exact h
      · rw [State.bay_updBay_other _ _ _ _ hx] }

theorem kept_updEng (s : State) (e : EngId) (f : Engine → Engine)
    (h : (f (s.eng e)).settled = (s.eng e).settled) (i : (s.eng e).activity = .idle) :
    KeptAtEnd s (s.updEng e f) :=
  { KeptAtEnd.refl s with
    engines := fun x => by
      by_cases hx : x = e
      · subst hx; rw [State.eng_updEng_self]; exact h
      · rw [State.eng_updEng_other _ _ _ _ hx]
    inFlight := fun x hx => State.eng_updEng_other _ _ _ _ fun hxe => hx (hxe ▸ i) }

theorem kept_updOutside (s : State) (f : Outside → Outside)
    (h : (f s.outside).settled = s.outside.settled) : KeptAtEnd s (s.updOutside f) :=
  { KeptAtEnd.refl s with outside := h }

theorem kept_updSlot (s : State) (k : SlotId) (f : Slot → Slot) (h : ∃ x ∈ s.store.tickets, x.slot = k)
    (i : (s.slot k).hand = .taken) : KeptAtEnd s (s.updSlot k f) :=
  { KeptAtEnd.refl s with
    port := rfl
    slots := fun x hx => by
      obtain ⟨y, hy, hk⟩ := h
      refine State.slot_updSlot_other _ _ _ _ fun hxk => ?_
      rcases hx with hx | hx
      · exact hx (hxk ▸ i)
      · exact hx y hy (hk.trans hxk.symm) }

theorem kept_writeAnswer (s : State) (k : SlotId) (a : Answer)
    (h : ∃ x ∈ s.store.tickets, x.slot = k) : KeptAtEnd s (s.writeAnswer k a) := by
  unfold State.writeAnswer
  split
  · next i => exact (kept_updSlot s k _ h i).trans (kept_raise _ _)
  · exact .refl s

/-! ### Journal-due items -/

theorem map_content_updEntry (l : List Entry) (serial : Serial) :
    (l.map fun e => if e.serial = serial then { e with journalDue := true } else e).map Entry.content
      = l.map Entry.content := by
  rw [List.map_map]
  apply List.map_congr_left
  intro e _
  simp only [Function.comp]
  split <;> rfl

theorem kept_makeDue (s : State) (serial : Serial) : KeptAtEnd s (s.makeDue serial) := by
  unfold State.makeDue
  split
  · exact .refl s
  · split
    · exact .refl s
    · split
      · exact .refl s
      · refine KeptAtEnd.trans (kept_updHist s _ ?_ ⟨rfl, rfl, rfl⟩) (kept_updHist _ _ rfl ⟨rfl, rfl, rfl⟩)
        exact map_content_updEntry _ _

theorem kept_makeAllDue (s : State) (l : List Serial) : KeptAtEnd s (s.makeAllDue l) := by
  unfold State.makeAllDue
  induction l generalizing s with
  | nil => exact .refl s
  | cons x l ih => exact (kept_makeDue s x).trans (ih _)

/-! ### The store controller's part -/

theorem kept_degrade (s : State) : KeptAtEnd s s.degrade := by
  unfold State.degrade
  split
  · exact .refl s
  · refine ((kept_updStore s _ rfl (fun x h => h) fun _ => rfl).trans (kept_updHist _ _ ?_ ⟨rfl, rfl, rfl⟩)).trans
      (kept_raise _ _)
    show (s.history.live.map _).map Entry.content = s.history.live.map Entry.content
    rw [List.map_map]; rfl

theorem kept_reclaimCheck (s : State) : KeptAtEnd s s.reclaimCheck := by
  unfold State.reclaimCheck
  split
  · exact .refl s
  · split
    · exact .refl s
    · exact (kept_updStore s _ rfl (fun x h => h) fun _ => rfl).trans (kept_makeAllDue _ _)

theorem kept_watchJournal (s : State) : KeptAtEnd s s.watchJournal := by
  have h : KeptAtEnd s s.startWaiting := by
    unfold State.startWaiting
    split
    · exact ((kept_updStore s _ rfl (fun x h => h) fun _ => rfl).trans (kept_raise _ _)).trans (kept_reclaimCheck _)
    · exact .refl s
  unfold State.watchJournal
  refine h.trans ?_
  unfold State.stalledTest
  split
  · exact kept_degrade _
  · exact .refl _

theorem kept_flushJoining (s : State) : KeptAtEnd s s.flushJoining :=
  kept_updHist s _ rfl ⟨rfl, rfl, rfl⟩

theorem kept_beginOp (s : State) (op : FlashOp) (l : List StoreTicket)
    (h : ∀ x ∈ l, x ∈ s.store.tickets) (o : s.store.op = none) : KeptAtEnd s (s.beginOp op l) :=
  kept_updStore s _ rfl h fun ho => absurd o ho

theorem kept_serveTickets (l : List StoreTicket) (s : State) (h : ∀ x ∈ l, x ∈ s.store.tickets)
    (o : s.store.op = none) : KeptAtEnd s (State.serveTickets l s) := by
  induction l generalizing s with
  | nil => exact kept_updStore s _ rfl (fun x hx => by simp at hx) fun _ => rfl
  | cons t l ih =>
    have hl : ∀ x ∈ l, x ∈ s.store.tickets := fun x hx => h x (List.mem_cons_of_mem _ hx)
    cases t with
    | setProfile k c p =>
      unfold State.serveTickets
      split
      · exact (kept_writeAnswer s k _ ⟨_, h _ List.mem_cons_self, rfl⟩).trans
          (ih _ (by rw [State.writeAnswer_store]; exact hl) (by rw [State.writeAnswer_store]; exact o))
      · exact kept_beginOp s _ l hl o
    | checkStore k first last => exact kept_beginOp s _ l hl o
    | selfTest k => exact kept_beginOp s _ l hl o

theorem kept_startAppend (s : State) (o : s.store.op = none) : KeptAtEnd s s.startAppend := by
  unfold State.startAppend
  split
  · exact .refl s
  · split
    · exact .refl s
    · split
      · exact kept_beginOp s _ _ (fun _ h => h) o
      · split
        · exact kept_beginOp s _ _ (fun _ h => h) o
        · exact .refl s

theorem kept_startVictimErase (s : State) (o : s.store.op = none) : KeptAtEnd s s.startVictimErase := by
  unfold State.startVictimErase
  split
  · split
    · exact kept_beginOp s _ _ (fun _ h => h) o
    · exact .refl s
  · exact .refl s

theorem kept_startDirtyErase (s : State) (o : s.store.op = none) : KeptAtEnd s s.startDirtyErase := by
  unfold State.startDirtyErase
  split
  · exact .refl s
  · split
    · exact kept_beginOp s _ _ (fun _ h => h) o
    · exact .refl s

theorem kept_orElseStart (s : State) (f : State → State) (h : ∀ x, x.store.op = none → KeptAtEnd x (f x)) :
    KeptAtEnd s (s.orElseStart f) := by
  unfold State.orElseStart
  split
  · exact .refl s
  · next o => exact h s o

theorem kept_startStore (s : State) : KeptAtEnd s s.startStore := by
  unfold State.startStore
  split
  · exact .refl s
  · next hs =>
    have o : s.store.op = none := by
      cases h : s.store.op with
      | none => rfl
      | some x => exact absurd (.inl (by rw [h]; rfl)) hs
    split
    · unfold State.startWarned
      exact (kept_startAppend s o).trans
        (kept_orElseStart _ _ fun x => kept_serveTickets _ _ fun _ h => h)
    · unfold State.startNormal
      exact (((kept_serveTickets _ s (fun _ h => h) o).trans (kept_orElseStart _ _ kept_startVictimErase)).trans
        (kept_orElseStart _ _ kept_startAppend)).trans (kept_orElseStart _ _ kept_startDirtyErase)

theorem kept_noteChange (s before : State) : KeptAtEnd s (s.noteChange before) := by
  unfold State.noteChange
  split
  · exact .refl s
  · split
    · exact .refl s
    · exact kept_updStore s _ rfl (fun x h => h) fun _ => rfl

theorem kept_advanceStore (s before : State) : KeptAtEnd s (s.advanceStore before) :=
  (((kept_noteChange s before).trans (kept_watchJournal _)).trans (kept_flushJoining _)).trans
    (kept_startStore _)

/-! ### The arbiter's part -/

theorem kept_updTag (s : State) (b : BayId) (f : Tag → Tag) : KeptAtEnd s (s.updTag b f) :=
  kept_updOutside s _ rfl

theorem kept_sendAttempt (s : State) (t : Transaction) : KeptAtEnd s (s.sendAttempt t) := by
  unfold State.sendAttempt
  exact (kept_updTag s t.bay _).trans (kept_updOutside _ _ rfl)

theorem kept_startTransaction (s : State) (first : Nat) (e : EngId) (b : BayId) (o : Origin) (c : TagCommand)
    (i : (s.eng e).activity = .idle) : KeptAtEnd s (s.startTransaction first e b o c) := by
  unfold State.startTransaction
  exact (kept_updEng s e _ rfl i).trans (kept_sendAttempt _ _)

theorem kept_notePass (s : State) (e : EngId) (b : BayId) (h : Bool) (i : (s.eng e).activity = .idle) :
    KeptAtEnd s (s.notePass e b h) := kept_updEng s e _ rfl i

theorem notePass_activity (s : State) (e : EngId) (b : BayId) (h : Bool) :
    ((s.notePass e b h).eng e).activity = (s.eng e).activity := by
  unfold State.notePass; rw [State.eng_updEng_self]

theorem kept_grantBurn (s : State) (first : Nat) (e : EngId) (b : BayId) (i : (s.eng e).activity = .idle) :
    KeptAtEnd s (s.grantBurn first e b) :=
  (kept_updBay s b _ rfl).trans (kept_startTransaction _ _ _ _ _ _ i)

theorem kept_grant (s : State) (first : Nat) (e : EngId) (w : Work) (i : (s.eng e).activity = .idle) :
    KeptAtEnd s (s.grant first e w) := by
  have n : ∀ b h, ((s.notePass e b h).eng e).activity = .idle := fun b h =>
    (notePass_activity s e b h).trans i
  cases w with
  | insertion b st => exact (kept_notePass s e b true i).trans (kept_startTransaction _ _ _ _ _ _ (n _ _))
  | account b =>
    unfold State.grant
    refine (kept_notePass s e b true i).trans ?_
    simp only
    split
    · exact kept_startTransaction _ _ _ _ _ _ (n _ _)
    · split
      · exact kept_startTransaction _ _ _ _ _ _ (n _ _)
      · exact kept_grantBurn _ _ _ _ (n _ _)
  | head q => exact (kept_notePass s e q.bay false i).trans (kept_startTransaction _ _ _ _ _ _ (n _ _))
  | sense b =>
    exact ((kept_notePass s e b false i).trans (kept_updBay _ b _ rfl)).trans
      (kept_startTransaction _ _ _ _ _ _ (n _ _))

theorem kept_arbitrate (first : Nat) (s : State) (e : EngId) : KeptAtEnd s (s.arbitrate first e) := by
  unfold State.arbitrate
  split
  · next i =>
    split
    · exact kept_grant s first e _ i
    · exact .refl s
  · exact .refl s
  · exact .refl s

theorem kept_arbitrateAll (s : State) (first : Nat) : KeptAtEnd s (s.arbitrateAll first) :=
  (((kept_arbitrate first s 0).trans (kept_arbitrate first _ 1)).trans (kept_arbitrate first _ 2)).trans
    (kept_arbitrate first _ 3)

/-! ### The ends -/

theorem kept_gens (s : State) (g : Generations) : KeptAtEnd s { s with gens := g } := by
  have h := KeptAtEnd.refl s
  cases s
  exact { pending := rfl, outside := rfl, flash := rfl, port := rfl, slots := fun _ _ => rfl
          notices := h.notices, bays := fun _ => rfl, auth := rfl, latch := rfl, channels := rfl
          tally := rfl, engines := fun _ => rfl, inFlight := fun _ _ => rfl, history := rfl, counts := ⟨rfl, rfl, rfl⟩
          store := rfl, op := fun _ => rfl, tickets := fun _ hx => hx, selfTest := rfl }

theorem kept_publishSince (s before : State) : KeptAtEnd s (s.publishSince before) := by
  unfold State.publishSince
  exact kept_gens s _

/-- Everything the quiet end of an event can do. -/
theorem kept_endQuiet (s before : State) : KeptAtEnd s (s.endQuiet before) := kept_publishSince s before

/-- Everything the end of an event without engine work can do. -/
theorem kept_endStore (s before : State) : KeptAtEnd s (s.endStore before) :=
  (kept_advanceStore s before).trans (kept_publishSince _ _)

theorem kept_advanceWork (s before : State) : KeptAtEnd s (s.advanceWork before) :=
  (kept_advanceStore s before).trans (kept_arbitrateAll _ _)

/-- Everything the end of an event can do. -/
theorem kept_endEvent (s before : State) : KeptAtEnd s (s.endEvent before) :=
  (kept_advanceWork s before).trans (kept_publishSince _ _)

/-- Everything the end of an event at the clock's own instant can do. -/
theorem kept_endTimed (s before : State) : KeptAtEnd s (s.endTimed before) :=
  ((kept_advanceStore s before).trans (kept_arbitrateAll _ _)).trans (kept_publishSince _ _)

/-! ### Listed tickets and READY (R199) -/

/-- What a listed ticket adds to its taking: the flash may go on. -/
theorem kept_takeArrival (s : State) (k : SlotId) : KeptAtEnd (s.takeTicket k) (s.takeArrival k) := by
  unfold State.takeArrival
  simp only
  split
  · exact kept_advanceStore _ _
  · exact .refl _

/-- What the event of READY adds to its five steps. -/
theorem kept_becomeReady (s : State) : KeptAtEnd s.rebuild.writeRecords.enterReady s.becomeReady :=
  (kept_advanceWork _ _).trans (kept_publishSince _ _)

/-! ### Generation words that step beside the content (R193, R201) -/

/-- A ticket was taken and answered only where its slot's hand has become ANSWERED. -/
theorem Slot.servedSince_false {after before : Slot} (h : after.hand = .answered → before.hand = .answered) :
    after.servedSince before = false := by
  unfold Slot.servedSince
  by_cases ha : after.hand = .answered
  · simp [h ha]
  · simp [ha]

/-- No slot has become ANSWERED: no CLEAR_COUNTS was taken. -/
theorem clearedSince_false {after before : State}
    (h : ∀ k, (after.slot k).hand = .answered → (before.slot k).hand = .answered) :
    after.clearedSince before = false := by
  unfold State.clearedSince
  rw [List.any_eq_false]
  intro k _
  simp [Slot.servedSince_false (h k)]

/-- No slot has become ANSWERED: no test started and ended. -/
theorem testedSince_false {after before : State}
    (h : ∀ k, (after.slot k).hand = .answered → (before.slot k).hand = .answered) :
    after.testedSince before = false := by
  unfold State.testedSince
  rw [List.any_eq_false]
  intro k _
  simp [Slot.servedSince_false (h k)]

/-- An engine with the work and the queue it had has not moved on. -/
@[simp] theorem Engine.movedOnSince_self (x : Engine) : x.movedOnSince x = false := by simp [Engine.movedOnSince]

/-- An engine at the work it was at has granted no sense want. -/
theorem sensedSince_false {after before : State} (b : BayId)
    (h : (after.eng (engOf b)).work = (before.eng (engOf b)).work) : after.sensedSince before b = false := by
  simp [State.sensedSince, h]

/-- No bay feeds anew on a channel whose residue has not fallen. -/
theorem fedAnewSince_false {after before : State} (b : BayId)
    (h : (before.chan (chanOf b)).residue ≤ (after.chan (chanOf b)).residue) :
    after.fedAnewSince before b = false := by
  simp [State.fedAnewSince, h]

/-- A bay that fed anew feeds before and after. -/
theorem fedAnewSince_feeding {after before : State} {b : BayId} (h : after.fedAnewSince before b = true) :
    (before.bay b).state = .feeding ∧ (after.bay b).state = .feeding := by
  simp [State.fedAnewSince] at h
  exact h.1

end Sys2Proof.Machine
end

