-- ==== Sys2Proof/Laws/Feed.lean ====
section
/-! SUPPORT. What charging and feed selection can touch: one law for each operation of Machine/Feed.lean and
the bay operations it uses. A proof about a command cites the law of the operation it calls and never unfolds
the feed selector. -/

namespace Sys2Proof.Machine

/-- What an operation on channel `c` leaves of a state: it changes the channel, its two bays, the book and
journal_due of entries, the joining items and the notices it raises, and of its bays neither identity, gauge,
entry nor verdict. -/
structure FeedTouches (c : ChanId) (s t : State) : Prop where
  pending  : t.pending = s.pending
  outside  : t.outside = s.outside
  flash    : t.flash = s.flash
  port     : { t.port with notices := s.port.notices } = s.port
  notices  : s.port.notices &&& ~~~t.port.notices = 0#8
  bays     : ∀ b, chanOf b ≠ c → t.bay b = s.bay b
  auth     : t.auth = s.auth
  latch    : t.latch = s.latch
  chans    : ∀ x, x ≠ c → t.chan x = s.chan x
  profile  : (t.chan c).profile = (s.chan c).profile
  tally    : t.tally = s.tally
  engines  : t.engines = s.engines
  serials  : t.history.live.map (·.serial) = s.history.live.map (·.serial)
  counts   : t.history.tombs = s.history.tombs ∧ t.history.useCounter = s.history.useCounter
    ∧ t.history.fifo = s.history.fifo ∧ t.history.evictions = s.history.evictions
    ∧ t.history.untracked = s.history.untracked
  store    : t.store = s.store
  selfTest : t.selfTest = s.selfTest
  gens     : t.gens = s.gens
  identity : ∀ b, (t.bay b).identity = (s.bay b).identity
  gauge    : ∀ b, (t.bay b).tagGauge = (s.bay b).tagGauge ∧ (t.bay b).gaugeKnown = (s.bay b).gaugeKnown
  entry    : ∀ b, (t.bay b).entry = (s.bay b).entry
  verdict  : ∀ b, (t.bay b).verdict = (s.bay b).verdict

/-! ### The relation -/

theorem FeedTouches.refl (c : ChanId) (s : State) : FeedTouches c s s where
  pending := rfl
  outside := rfl
  flash := rfl
  port := rfl
  notices := by simp
  bays := fun _ _ => rfl
  auth := rfl
  latch := rfl
  chans := fun _ _ => rfl
  profile := rfl
  tally := rfl
  engines := rfl
  serials := rfl
  counts := ⟨rfl, rfl, rfl, rfl, rfl⟩
  store := rfl
  selfTest := rfl
  gens := rfl
  identity := fun _ => rfl
  gauge := fun _ => ⟨rfl, rfl⟩
  entry := fun _ => rfl
  verdict := fun _ => rfl

theorem FeedTouches.trans {c : ChanId} {s t u : State} (h : FeedTouches c s t) (k : FeedTouches c t u) :
    FeedTouches c s u where
  pending := k.pending.trans h.pending
  outside := k.outside.trans h.outside
  flash := k.flash.trans h.flash
  port := by rw [← h.port, ← k.port]
  notices := bits_kept_trans _ _ _ h.notices k.notices
  bays := fun b hb => (k.bays b hb).trans (h.bays b hb)
  auth := k.auth.trans h.auth
  latch := k.latch.trans h.latch
  chans := fun x hx => (k.chans x hx).trans (h.chans x hx)
  profile := k.profile.trans h.profile
  tally := k.tally.trans h.tally
  engines := k.engines.trans h.engines
  serials := k.serials.trans h.serials
  counts := ⟨k.counts.1.trans h.counts.1, k.counts.2.1.trans h.counts.2.1,
    k.counts.2.2.1.trans h.counts.2.2.1, k.counts.2.2.2.1.trans h.counts.2.2.2.1,
    k.counts.2.2.2.2.trans h.counts.2.2.2.2⟩
  store := k.store.trans h.store
  selfTest := k.selfTest.trans h.selfTest
  gens := k.gens.trans h.gens
  identity := fun b => (k.identity b).trans (h.identity b)
  gauge := fun b => ⟨(k.gauge b).1.trans (h.gauge b).1, (k.gauge b).2.trans (h.gauge b).2⟩
  entry := fun b => (k.entry b).trans (h.entry b)
  verdict := fun b => (k.verdict b).trans (h.verdict b)

/-! ### The updates the feed selector makes -/

theorem touches_raise (c : ChanId) (s : State) (n : Notice) : FeedTouches c s (s.raise n) :=
  { FeedTouches.refl c s with notices := (kept_raise s n).notices }

theorem touches_updChan (s : State) (c : ChanId) (f : Channel → Channel)
    (h : (f (s.chan c)).profile = (s.chan c).profile) : FeedTouches c s (s.updChan c f) :=
  { FeedTouches.refl c s with
    chans := fun x hx => State.chan_updChan_other s c x f hx
    profile := by rw [State.chan_updChan_self]; exact h }

theorem touches_updBay (s : State) (b : BayId) (f : Bay → Bay)
    (h : ∀ x, (f x).identity = x.identity ∧ (f x).tagGauge = x.tagGauge ∧ (f x).gaugeKnown = x.gaugeKnown
      ∧ (f x).entry = x.entry ∧ (f x).verdict = x.verdict) : FeedTouches (chanOf b) s (s.updBay b f) := by
  have g : ∀ a, ((s.updBay b f).bay a = s.bay a) ∨ (a = b ∧ (s.updBay b f).bay a = f (s.bay a)) := by
    intro a
    by_cases e : a = b
    · subst e; exact .inr ⟨rfl, State.bay_updBay_self s a f⟩
    · exact .inl (State.bay_updBay_other s b a f e)
  refine { FeedTouches.refl (chanOf b) s with
    bays := fun a ha => ?_, identity := fun a => ?_, gauge := fun a => ?_, entry := fun a => ?_
    verdict := fun a => ?_ }
  · exact State.bay_updBay_other s b a f fun e => ha (by rw [e])
  all_goals rcases g a with e | ⟨_, e⟩ <;> simp [e, h]

theorem touches_makeDue (c : ChanId) (s : State) (serial : Serial) : FeedTouches c s (s.makeDue serial) := by
  unfold State.makeDue
  split
  · exact .refl c s
  · split
    · exact .refl c s
    · split
      · exact .refl c s
      · refine { FeedTouches.refl c s with serials := ?_ }
        simp only [State.updEntry, State.updHist, List.map_map]
        exact List.map_congr_left fun e _ => by simp only [Function.comp]; split <;> rfl

theorem touches_updEntry_book (c : ChanId) (s : State) (serial : Serial) (n : Nat) :
    FeedTouches c s (s.updEntry serial fun e => { e with book := n }) := by
  refine { FeedTouches.refl c s with serials := ?_ }
  simp only [State.updEntry, State.updHist, List.map_map]
  exact List.map_congr_left fun e _ => by simp only [Function.comp]; split <;> rfl

/-! ### The bay operations -/

theorem touches_emptyWindow (s : State) (b : BayId) : FeedTouches (chanOf b) s (s.emptyWindow b) :=
  touches_updBay s b _ fun _ => ⟨rfl, rfl, rfl, rfl, rfl⟩

theorem touches_startSenseTimer (s : State) (b : BayId) : FeedTouches (chanOf b) s (s.startSenseTimer b) :=
  touches_updBay s b _ fun _ => ⟨rfl, rfl, rfl, rfl, rfl⟩

/-- A change of a bay's state touches that bay and raises notices. -/
theorem touches_moveBay (s : State) (b : BayId) (st : BayState) : FeedTouches (chanOf b) s (s.moveBay b st) := by
  have step : FeedTouches (chanOf b) s ((s.updBay b fun x => { x with state := st }).raise .bay) :=
    (touches_updBay s b (fun x => { x with state := st }) fun _ => ⟨rfl, rfl, rfl, rfl, rfl⟩).trans
      (touches_raise _ _ _)
  have next : ∀ u, FeedTouches (chanOf b) s u → FeedTouches (chanOf b) s
      (if st.sensed ∧ ¬ (s.bay b).state.sensed then (u.startSenseTimer b).emptyWindow b
        else if (s.bay b).state.sensed ∧ ¬ st.sensed then u.updBay b fun x =>
          { x with sense := { x.sense with timer := none }, wants := { x.wants with sense := false } }
        else u) := by
    intro u hu
    split
    · exact (hu.trans (touches_startSenseTimer u b)).trans (touches_emptyWindow _ b)
    · split
      · exact hu.trans (touches_updBay u b _ fun _ => ⟨rfl, rfl, rfl, rfl, rfl⟩)
      · exact hu
  unfold State.moveBay
  simp only
  split
  · exact .refl _ s
  · refine next _ ?_
    split
    · exact step.trans (touches_raise _ _ _)
    · exact step

theorem touches_raiseBurnWant (s : State) (b : BayId) : FeedTouches (chanOf b) s (s.raiseBurnWant b) := by
  unfold State.raiseBurnWant
  split
  · exact touches_updBay s b _ fun _ => ⟨rfl, rfl, rfl, rfl, rfl⟩
  · exact .refl _ s

theorem touches_drain (s : State) (b : BayId) : FeedTouches (chanOf b) s (s.drain b) :=
  (touches_updBay s b (fun x => { x with barReason := s.barReasonOf b })
    fun _ => ⟨rfl, rfl, rfl, rfl, rfl⟩).trans (touches_moveBay _ b _)

/-! ### Charging -/

theorem touches_followBook (s : State) (b : BayId) (before : Nat) (c : ChanId) :
    FeedTouches c s (s.followBook b before) := by
  unfold State.followBook
  split
  · exact .refl c s
  · simp only
    split
    · exact (touches_updEntry_book c s _ _).trans (touches_makeDue c _ _)
    · exact touches_updEntry_book c s _ _

theorem touches_levelCrossing (s : State) (b : BayId) (before : Nat) (c : ChanId) :
    FeedTouches c s (s.levelCrossing b before) := by
  unfold State.levelCrossing
  split
  · exact .refl c s
  · split
    · exact touches_raise c s _
    · exact .refl c s

/-- A charge or conversion touches the channel and the bay charged. -/
theorem touches_convert (s : State) (c : ChanId) (b : BayId) (h : chanOf b = c) :
    FeedTouches c s (s.convert c b) := by
  subst h
  have step : FeedTouches (chanOf b) s ((s.updChan (chanOf b) fun ch =>
      { ch with residue := ch.residue - s.marksDue (chanOf b) b * (s.bay b).markSize
                charged := satAdd top64 ch.charged (s.marksApplied (chanOf b) b * (s.bay b).markSize) }.addUnbooked
        ((s.marksDue (chanOf b) b - s.marksApplied (chanOf b) b) * (s.bay b).markSize)).updBay b fun x =>
      { x with book := x.book - s.marksApplied (chanOf b) b
               pending := x.pending + s.marksApplied (chanOf b) b }) :=
    (touches_updChan s (chanOf b) _ rfl).trans
      (touches_updBay _ b _ fun _ => ⟨rfl, rfl, rfl, rfl, rfl⟩)
  unfold State.convert
  simp only
  split
  · exact step
  · exact ((step.trans (touches_followBook _ b _ _)).trans (touches_raiseBurnWant _ b)).trans
      (touches_levelCrossing _ b _ _)

theorem touches_startSettle (s : State) (c : ChanId) : FeedTouches c s (s.startSettle c) :=
  touches_updChan s c _ rfl

/-! ### Opening, switching, closing -/

theorem touches_closeChannel (s : State) (c : ChanId) (cause : FeedCause) :
    FeedTouches c s (s.closeChannel c cause) :=
  (touches_updChan s c _ rfl).trans (touches_raise c _ _)

/-- The bay whose valve is open on a channel is one of the channel's two. -/
theorem chanOf_feedingBay (s : State) (c : ChanId) (b : BayId) (h : s.feedingBay c = some b) : chanOf b = c := by
  have hA : ∀ c : ChanId, chanOf (bayA c) = c := by decide
  have hB : ∀ c : ChanId, chanOf (bayB c) = c := by decide
  unfold State.feedingBay at h
  split at h
  · cases h
  · cases h; exact hA c
  · cases h; exact hB c

/-- A bay and its twin are of one channel. -/
theorem chanOf_twinOf (b : BayId) : chanOf (twinOf b) = chanOf b := by
  revert b; decide

theorem touches_turnTo (s : State) (c : ChanId) (b : BayId) (cause : FeedCause) (h : chanOf b = c) :
    FeedTouches c s (s.turnTo c b cause) := by
  have step : FeedTouches c s (match s.feedingBay c with
      | some old => if old ≠ b ∧ (s.bay old).state = BayState.feeding then s.moveBay old .standby else s
      | none => s) := by
    split
    · next old ho =>
      split
      · have := touches_moveBay s old .standby
        rwa [chanOf_feedingBay s c old ho] at this
      · exact .refl c s
    · exact .refl c s
  have turn : ∀ u : State, FeedTouches c u (u.moveBay b .feeding) := fun u => by
    have := touches_moveBay u b .feeding
    rwa [h] at this
  exact (step.trans (turn _)).trans (touches_updChan _ c _ rfl)

theorem touches_takeUp (s : State) (c : ChanId) (old : Option BayId) (b : BayId) (h : chanOf b = c)
    (ho : ∀ o, old = some o → chanOf o = c) : FeedTouches c s (s.takeUp c old b) := by
  have window : ∀ (u : State) (x : BayId), chanOf x = c → FeedTouches c u (u.emptyWindow x) := fun u x hx => by
    have := touches_emptyWindow u x
    rwa [hx] at this
  unfold State.takeUp
  simp only
  refine ((FeedTouches.trans (FeedTouches.trans (touches_convert s c b h) ?_) (window _ b h)).trans
    (touches_startSettle _ c)).trans (touches_raise c _ _)
  cases old with
  | none => exact .refl c _
  | some o => exact window _ o (ho o rfl)

theorem touches_afterMarks (s : State) (c : ChanId) (b : BayId) (h : chanOf b = c) :
    FeedTouches c s (s.afterMarks c b).1 := by
  subst h
  unfold State.afterMarks
  split
  · simp only
    split <;> exact touches_drain s b
  · split <;> exact .refl _ s

/-- Feeding begun, with the switches and the closing that follow, touches the channel and its two bays. -/
theorem touches_beginFeeding (n : Nat) (s : State) (c : ChanId) (b : BayId) (cause : FeedCause)
    (h : chanOf b = c) : FeedTouches c s (s.beginFeeding n c b cause) := by
  induction n generalizing s b cause with
  | zero =>
    unfold State.beginFeeding
    simp only
    have step := (touches_turnTo s c b cause h).trans
      (touches_takeUp (s.turnTo c b cause) c (s.feedingBay c) b h fun o ho => chanOf_feedingBay s c o ho)
    split <;> exact step
  | succ n ih =>
    unfold State.beginFeeding
    simp only
    have step := (touches_turnTo s c b cause h).trans
      (touches_takeUp (s.turnTo c b cause) c (s.feedingBay c) b h fun o ho => chanOf_feedingBay s c o ho)
    split
    · exact step
    · have marks := touches_afterMarks ((s.turnTo c b cause).takeUp c (s.feedingBay c) b) c b h
      split
      · next u e => rw [e] at marks; exact step.trans marks
      · next u cause' e =>
        rw [e] at marks
        exact (step.trans marks).trans (ih u (twinOf b) cause' (by rw [chanOf_twinOf]; exact h))
      · next u e => rw [e] at marks; exact (step.trans marks).trans (touches_closeChannel u c _)

theorem touches_feedFrom (s : State) (c : ChanId) (b : BayId) (cause : FeedCause) (h : chanOf b = c) :
    FeedTouches c s (s.feedFrom c b cause) := touches_beginFeeding feedBound s c b cause h

theorem touches_feedLost (s : State) (b : BayId) (cause : FeedCause) :
    FeedTouches (chanOf b) s (s.feedLost b cause) := by
  unfold State.feedLost
  split
  · exact touches_feedFrom s _ _ cause (chanOf_twinOf b)
  · exact touches_closeChannel s _ cause

theorem touches_thresholdTest (s : State) (c : ChanId) : FeedTouches c s (s.thresholdTest c) := by
  unfold State.thresholdTest
  split
  · split
    · next b hb => exact touches_feedFrom s c _ _ (by rw [chanOf_twinOf]; exact chanOf_feedingBay s c b hb)
    · exact .refl c s
  · exact .refl c s

/-- The bay a CLOSED channel opens with is one of its two. -/
theorem chanOf_openingChoice (s : State) (c : ChanId) (b : BayId) (h : s.openingChoice c = some b) :
    chanOf b = c := by
  have hA : ∀ c : ChanId, chanOf (bayA c) = c := by decide
  have hB : ∀ c : ChanId, chanOf (bayB c) = c := by decide
  unfold State.openingChoice at h
  simp only at h
  repeat' split at h
  all_goals cases h
  all_goals first | exact hA c | exact hB c

theorem touches_becameEligible (s : State) (b : BayId) : FeedTouches (chanOf b) s (s.becameEligible b) := by
  unfold State.becameEligible
  simp only
  split
  · exact touches_thresholdTest s _
  · split
    · next x hx => exact touches_feedFrom s _ x _ (chanOf_openingChoice s _ x hx)
    · exact .refl _ s

/-- A volume touches the channel it comes to and its two bays. -/
theorem touches_takeVolume (s : State) (c : ChanId) (v : Nat) : FeedTouches c s (s.takeVolume c v) := by
  have total : FeedTouches c s (s.updChan c fun ch => ch.addTotal v) := touches_updChan s c _ rfl
  unfold State.takeVolume
  simp only
  split
  · exact total.trans (touches_updChan _ c _ rfl)
  · next b hb =>
    have h := chanOf_feedingBay _ c b hb
    have charge := (total.trans (touches_updChan (s.updChan c fun ch => ch.addTotal v) c
      (fun ch => { ch with residue := ch.residue + v }) rfl)).trans (touches_convert _ c b h)
    split
    · exact charge
    · have marks := touches_afterMarks (((s.updChan c fun ch => ch.addTotal v).updChan c fun ch =>
        { ch with residue := ch.residue + v }).convert c b) c b h
      split
      · next u e => rw [e] at marks; exact charge.trans marks
      · next u cause e =>
        rw [e] at marks
        exact (charge.trans marks).trans (touches_feedFrom u c _ cause (by rw [chanOf_twinOf]; exact h))
      · next u e => rw [e] at marks; exact (charge.trans marks).trans (touches_closeChannel u c _)

/-! ### Re-evaluation -/

/-- A re-evaluation touches its bay, the twin and their channel. -/
theorem touches_reevaluate (s : State) (b : BayId) : FeedTouches (chanOf b) s (s.reevaluate b) := by
  have bar : FeedTouches (chanOf b) s (s.updBay b fun x => { x with barReason := s.barReasonOf b }) :=
    touches_updBay s b _ fun _ => ⟨rfl, rfl, rfl, rfl, rfl⟩
  unfold State.reevaluate
  simp only
  split
  · split
    · exact bar
    · split
      · split
        · exact (bar.trans (touches_moveBay _ b _)).trans (touches_becameEligible _ b)
        · exact bar
      · split
        · exact (bar.trans (touches_moveBay _ b _)).trans (touches_feedLost _ b _)
        · exact bar.trans (touches_moveBay _ b _)
  · exact .refl _ s

end Sys2Proof.Machine
end

