-- ==== Sys2Proof/Laws/Bay.lean ====
section
/-! SUPPORT. What the level checker, an insertion, the end of a burn and a FAULT can touch: one law for each
operation of Machine/LevelChecks.lean and Machine/Insertion.lean. A proof about a command cites the law of the
operation it calls. -/

namespace Sys2Proof.Machine

/-- What an operation on a bay of channel `c` leaves of a state: it changes the channel, its two bays, the
history table, the authentication engine, the draws of challenges and the notices it raises. -/
structure ChannelTouches (c : ChanId) (s t : State) : Prop where
  pending  : t.pending = s.pending
  outside  : { t.outside with challengeDraws := s.outside.challengeDraws } = s.outside
  flash    : t.flash = s.flash
  port     : { t.port with notices := s.port.notices } = s.port
  notices  : s.port.notices &&& ~~~t.port.notices = 0#8
  bays     : ∀ b, chanOf b ≠ c → t.bay b = s.bay b
  latch    : t.latch = s.latch
  chans    : ∀ x, x ≠ c → t.chan x = s.chan x
  profile  : (t.chan c).profile = (s.chan c).profile
  tally    : t.tally = s.tally
  engines  : t.engines = s.engines
  items    : t.history.fifo.map (·.serial) = s.history.fifo.map (·.serial)
  store    : t.store = s.store
  selfTest : t.selfTest = s.selfTest
  gens     : t.gens = s.gens

/-! ### The relation -/

theorem FeedTouches.channel {c : ChanId} {s t : State} (h : FeedTouches c s t) : ChannelTouches c s t where
  pending := h.pending
  outside := by rw [h.outside]
  flash := h.flash
  port := h.port
  notices := h.notices
  bays := h.bays
  latch := h.latch
  chans := h.chans
  profile := h.profile
  tally := h.tally
  engines := h.engines
  items := by rw [h.counts.2.2.1]
  store := h.store
  selfTest := h.selfTest
  gens := h.gens

theorem ChannelTouches.refl (c : ChanId) (s : State) : ChannelTouches c s s := (FeedTouches.refl c s).channel

theorem ChannelTouches.trans {c : ChanId} {s t u : State} (h : ChannelTouches c s t)
    (k : ChannelTouches c t u) : ChannelTouches c s u where
  pending := k.pending.trans h.pending
  outside := by rw [← h.outside, ← k.outside]
  flash := k.flash.trans h.flash
  port := by rw [← h.port, ← k.port]
  notices := bits_kept_trans _ _ _ h.notices k.notices
  bays := fun b hb => (k.bays b hb).trans (h.bays b hb)
  latch := k.latch.trans h.latch
  chans := fun x hx => (k.chans x hx).trans (h.chans x hx)
  profile := k.profile.trans h.profile
  tally := k.tally.trans h.tally
  engines := k.engines.trans h.engines
  items := k.items.trans h.items
  store := k.store.trans h.store
  selfTest := k.selfTest.trans h.selfTest
  gens := k.gens.trans h.gens

/-! ### Updates -/

theorem channel_updBay (s : State) (b : BayId) (f : Bay → Bay) : ChannelTouches (chanOf b) s (s.updBay b f) :=
  { ChannelTouches.refl (chanOf b) s with
    bays := fun a ha => State.bay_updBay_other s b a f fun e => ha (by rw [e]) }

theorem channel_raise (c : ChanId) (s : State) (n : Notice) : ChannelTouches c s (s.raise n) :=
  (touches_raise c s n).channel

theorem channel_updHist (c : ChanId) (s : State) (f : History → History)
    (h : (f s.history).fifo.map (·.serial) = s.history.fifo.map (·.serial)) :
    ChannelTouches c s (s.updHist f) :=
  { ChannelTouches.refl c s with items := h }

theorem channel_updEntry (c : ChanId) (s : State) (serial : Serial) (f : Entry → Entry) :
    ChannelTouches c s (s.updEntry serial f) := channel_updHist c s _ rfl

theorem channel_makeDue (c : ChanId) (s : State) (serial : Serial) : ChannelTouches c s (s.makeDue serial) :=
  (touches_makeDue c s serial).channel

theorem channel_auth (c : ChanId) (s : State) (a : AuthEngine) : ChannelTouches c s { s with auth := a } :=
  { ChannelTouches.refl c s with bays := fun _ _ => rfl }

theorem channel_setSeen (c : ChanId) (s : State) (serial : Serial) (bits : SeenSet) :
    ChannelTouches c s (s.setSeen serial bits) := by
  unfold State.setSeen
  split
  · exact .refl c s
  · split
    · exact .refl c s
    · exact (channel_updEntry c s _ _).trans (channel_makeDue c _ _)

theorem channel_setVerdict (s : State) (b : BayId) (v : Verdict) (r : VerdictReason) :
    ChannelTouches (chanOf b) s (s.setVerdict b v r) := by
  unfold State.setVerdict
  split
  · exact .refl _ s
  · exact (channel_updBay s b _).trans (channel_raise _ _ _)

theorem channel_raiseRefillMarkWant (s : State) (b : BayId) :
    ChannelTouches (chanOf b) s (s.raiseRefillMarkWant b) := by
  unfold State.raiseRefillMarkWant
  split
  · exact channel_updBay s b _
  · exact .refl _ s

theorem channel_raiseDepletedWant (s : State) (b : BayId) :
    ChannelTouches (chanOf b) s (s.raiseDepletedWant b) := by
  unfold State.raiseDepletedWant
  split
  · exact channel_updBay s b _
  · exact .refl _ s

/-! ### Held flags -/

theorem channel_applyConsequence (s : State) (b : BayId) (v : Verdict) (r : VerdictReason) :
    ChannelTouches (chanOf b) s (s.applyConsequence b v r) := by
  have drop : ∀ u : State, ChannelTouches (chanOf b) u (if v = .foreign then
      u.updBay b fun x => { x with wants := { x.wants with burn := false } } else u) := fun u => by
    split
    · exact channel_updBay u b _
    · exact .refl _ u
  unfold State.applyConsequence
  simp only
  split
  · have step := (channel_setVerdict s b v r).trans (drop _)
    split
    · exact step
    · exact (step.trans (channel_updEntry _ _ _ _)).trans (channel_makeDue _ _ _)
  · exact .refl _ s

/-- A check that fires touches its bay's channel, the history table and the notices. -/
theorem channel_fireCheck (s : State) (b : BayId) (k : HeldKind) :
    ChannelTouches (chanOf b) s (s.fireCheck b k) := by
  have alert : ∀ u : State, ChannelTouches (chanOf b) u
      (if hasKind (u.alertSelect b) k then u.raise .alert else u) := fun u => by
    split
    · exact channel_raise _ u _
    · exact .refl _ u
  have verdict : ∀ u : State, ChannelTouches (chanOf b) u (match k.consequence with
      | some (v, r) => u.applyConsequence b v r
      | none => u) := fun u => by
    split
    · exact channel_applyConsequence u b _ _
    · exact .refl _ u
  have seen : ∀ u : State, ChannelTouches (chanOf b) u (match (u.bay b).entry with
      | some serial => u.setSeen serial k.seenBit
      | none => u) := fun u => by
    split
    · exact channel_setSeen _ u _ _
    · exact .refl _ u
  unfold State.fireCheck
  simp only
  split
  · exact .refl _ s
  · exact (((((channel_updBay s b _).trans (alert _)).trans (verdict _)).trans (seen _)).trans
      (channel_raiseRefillMarkWant _ b)).trans (touches_reevaluate _ b).channel

/-! ### Samples and CLEAR_HELD -/

theorem channel_discardSample (s : State) (b : BayId) (why : SampleDiscard) :
    ChannelTouches (chanOf b) s (s.discardSample b why) :=
  (touches_updChan s (chanOf b) _ rfl).channel.trans (channel_updBay _ b _)

theorem channel_useSample (s : State) (b : BayId) (p : Profile) (reading : Byte) :
    ChannelTouches (chanOf b) s (s.useSample b p reading) := by
  have fire : ∀ (u : State) (k : HeldKind) (x : Bool), ChannelTouches (chanOf b) u
      (if x = true then u.fireCheck b k else u) := fun u k x => by
    split
    · exact channel_fireCheck u b k
    · exact .refl _ u
  unfold State.useSample
  simp only
  split
  · exact (((channel_updBay s b _).trans (channel_updBay _ b _)).trans (fire _ _ _)).trans (fire _ _ _)
  · exact (channel_updBay s b _).trans (channel_updBay _ b _)

/-- A sample touches its bay's channel, the history table and the notices. -/
theorem channel_takeSample (s : State) (b : BayId) (reading : Byte) (ok : Bool) :
    ChannelTouches (chanOf b) s (s.takeSample b reading ok) := by
  have start := (touches_startSenseTimer s b).channel
  unfold State.takeSample
  simp only
  split
  · exact start.trans (channel_discardSample _ b _)
  · split
    · exact start.trans (channel_discardSample _ b _)
    · split
      · exact start.trans (channel_discardSample _ b _)
      · exact start.trans (channel_useSample _ b _ _)

theorem channel_clearFlags (s : State) (b : BayId) (set : HeldSet) :
    ChannelTouches (chanOf b) s (s.clearFlags b set) := by
  have drop : ∀ u : State, ChannelTouches (chanOf b) u (if (u.bay b).sense.held = 0#5 then
      u.updBay b fun x => { x with sense := { x.sense with snapshot := none } } else u) := fun u => by
    split
    · exact channel_updBay u b _
    · exact .refl _ u
  have step := ((channel_updBay s b fun x =>
    { x with sense := { x.sense with held := x.sense.held &&& ~~~set } }).trans
      (touches_emptyWindow _ b).channel).trans (drop _)
  unfold State.clearFlags
  simp only
  split
  · exact step.trans (touches_reevaluate _ b).channel
  · exact step

theorem channel_carryOutClear (s : State) (b : BayId) (a : Args) :
    ChannelTouches (chanOf b) s (s.carryOutClear b a).1 := by
  unfold State.carryOutClear
  split
  · exact .refl _ s
  · split
    · exact .refl _ s
    · exact channel_clearFlags s b _

/-! ### Insertion -/

theorem channel_endInsertion (s : State) (b : BayId) : ChannelTouches (chanOf b) s (s.endInsertion b) := by
  unfold State.endInsertion
  simp only
  have step : ∀ st : BayState, ChannelTouches (chanOf b) s
      (((((s.updBay b fun x => { x with barReason := s.barReasonOf b }).moveBay b st).raiseBurnWant b
        ).raiseDepletedWant b).raiseRefillMarkWant b) := fun st =>
    ((((channel_updBay s b _).trans (touches_moveBay _ b st).channel).trans
      (touches_raiseBurnWant _ b).channel).trans (channel_raiseDepletedWant _ b)).trans
        (channel_raiseRefillMarkWant _ b)
  split
  · exact (step _).trans (touches_becameEligible _ b).channel
  · exact step _

theorem channel_settleBay (s : State) (b : BayId) (e : Option Serial) (gc : GaugeCase)
    (v : Verdict × VerdictReason) : ChannelTouches (chanOf b) s (s.settleBay b e gc v) :=
  (channel_updBay s b _).trans (channel_setVerdict _ b _ _)

theorem channel_fireInsertionChecks (s : State) (b : BayId) (conflict rise : Bool) :
    ChannelTouches (chanOf b) s (s.fireInsertionChecks b conflict rise) := by
  have fire : ∀ (u : State) (k : HeldKind) (x : Bool), ChannelTouches (chanOf b) u
      (if x = true then u.fireCheck b k else u) := fun u k x => by
    split
    · exact channel_fireCheck u b k
    · exact .refl _ u
  exact (fire s _ _).trans (fire _ _ _)

/-- Use stamps renumbered or stepped leave the journal-due FIFO alone. -/
theorem stepStamp_fifo (h : History) : h.stepStamp.fifo = h.fifo := by
  unfold History.stepStamp
  simp only
  split <;> rfl

/-- A place taken leaves the serials of the journal-due FIFO as they were. -/
theorem takePlace_items (h : History) (serial : Serial) (r : History × Bool)
    (e : h.takePlace serial = some r) : r.1.fifo.map (·.serial) = h.fifo.map (·.serial) := by
  unfold History.takePlace at e
  split at e
  · cases e
    simp only [History.turnItem, List.map_map]
    exact List.map_congr_left fun i _ => by simp only [Function.comp]; split <;> rfl
  · split at e
    · cases e; rfl
    · split at e
      · cases e
      · cases e; rfl

theorem channel_reconcileExisting (s : State) (b : BayId) (id : Identity) (e : Entry) :
    ChannelTouches (chanOf b) s (s.reconcileExisting b id e) := by
  unfold State.reconcileExisting
  simp only
  exact ((((((channel_updHist _ s _ (by rw [stepStamp_fifo])).trans (channel_updEntry _ _ _ _)).trans
    (channel_makeDue _ _ _)).trans (channel_settleBay _ b _ _ _)).trans
      (channel_fireInsertionChecks _ b _ _))).trans (channel_endInsertion _ b)

theorem channel_reconcileNew (s : State) (b : BayId) (id : Identity) (h : History) (w : Bool)
    (hh : h.fifo.map (·.serial) = s.history.fifo.map (·.serial)) :
    ChannelTouches (chanOf b) s (s.reconcileNew b id h w) := by
  unfold State.reconcileNew
  simp only
  refine ((((ChannelTouches.trans ?_ (channel_makeDue _ _ _)).trans (channel_settleBay _ b _ _ _)).trans
      (channel_fireInsertionChecks _ b _ _))).trans (channel_endInsertion _ b)
  exact { ChannelTouches.refl (chanOf b) s with items := by rw [stepStamp_fifo]; exact hh }

theorem channel_reconcileUntracked (s : State) (b : BayId) :
    ChannelTouches (chanOf b) s (s.reconcileUntracked b) := by
  unfold State.reconcileUntracked
  simp only
  exact (((channel_updHist _ s _ rfl).trans (channel_settleBay _ b _ _ _)).trans
    (channel_fireInsertionChecks _ b _ _)).trans (channel_endInsertion _ b)

/-- A reconciliation touches its bay's channel, the history table and the notices. -/
theorem channel_reconcile (s : State) (b : BayId) : ChannelTouches (chanOf b) s (s.reconcile b) := by
  have move := (touches_moveBay s b .reconciling).channel
  unfold State.reconcile
  simp only
  split
  · exact move.trans (channel_endInsertion _ b)
  · split
    · split
      · exact (move.trans (channel_settleBay _ b _ _ _)).trans (channel_endInsertion _ b)
      · exact move.trans (channel_reconcileExisting _ b _ _)
    · split
      · next e => exact move.trans (channel_reconcileNew _ b _ _ _ (takePlace_items _ _ _ e))
      · exact move.trans (channel_reconcileUntracked _ b)

theorem channel_gotIdentity (s : State) (b : BayId) (blk : Block) :
    ChannelTouches (chanOf b) s (s.gotIdentity b blk) := by
  unfold State.gotIdentity
  simp only
  refine ChannelTouches.trans ?_ (channel_updBay _ b _)
  split
  · exact channel_updBay s b _
  · exact channel_setVerdict s b _ _

theorem channel_enterChallenging (s : State) (b : BayId) (id : Identity) :
    ChannelTouches (chanOf b) s (s.enterChallenging b id) := by
  unfold State.enterChallenging
  simp only
  have draw : ChannelTouches (chanOf b) s (s.updOutside fun o => { o with challengeDraws := o.challengeDraws + 1 }) :=
    { ChannelTouches.refl (chanOf b) s with outside := rfl }
  exact (((draw.trans (channel_updBay _ b fun x =>
    { x with challenge := some (Config.challengeDraw s.outside.challengeDraws) })).trans
      (touches_moveBay _ b .challenging).channel).trans (channel_updBay _ b _)).trans (channel_auth _ _ _)

theorem channel_gotGauge (s : State) (b : BayId) (blk : Block) :
    ChannelTouches (chanOf b) s (s.gotGauge b blk) := by
  unfold State.gotGauge
  split
  · split
    · exact (channel_updBay s b _).trans (channel_enterChallenging _ b _)
    · exact (channel_setVerdict s b _ _).trans (channel_enterChallenging _ b _)
  · split
    · exact (channel_updBay s b _).trans (channel_endInsertion _ b)
    · exact channel_endInsertion s b

theorem channel_checkResponse (s : State) (b : BayId) : ChannelTouches (chanOf b) s (s.checkResponse b) := by
  unfold State.checkResponse
  split
  · simp only
    split
    · exact ((channel_updBay s b _).trans (channel_setVerdict _ b _ _)).trans (channel_endInsertion _ b)
    · split
      · exact ((channel_updBay s b _).trans (channel_updBay _ b _)).trans (channel_reconcile _ b)
      · exact ((channel_updBay s b _).trans (channel_updBay _ b _)).trans (channel_endInsertion _ b)
  · exact .refl _ s

theorem channel_gotResponse (s : State) (b : BayId) (r : Bytes16) :
    ChannelTouches (chanOf b) s (s.gotResponse b r) :=
  (channel_updBay s b _).trans (channel_checkResponse _ b)

theorem channel_gotExpected (s : State) (b : BayId) (r : Bytes16) :
    ChannelTouches (chanOf b) s (s.gotExpected b r) :=
  (channel_updBay s b _).trans (channel_checkResponse _ b)

/-! ### Burns, flag writes, FAULT -/

theorem channel_reachedZero (s : State) (b : BayId) : ChannelTouches (chanOf b) s (s.reachedZero b) := by
  unfold State.reachedZero
  simp only
  refine ChannelTouches.trans ?_ (channel_raiseDepletedWant _ b)
  split
  · exact (channel_updEntry _ s _ _).trans (channel_makeDue _ _ _)
  · exact .refl _ s

/-- A confirmed burn touches its bay's channel, the history table and the notices. -/
theorem channel_burnAcked (s : State) (b : BayId) (r : Nat) : ChannelTouches (chanOf b) s (s.burnAcked b r) := by
  have drop : ∀ u : State, ChannelTouches (chanOf b) u (u.dropBurnWant b) := fun u => by
    unfold State.dropBurnWant
    split
    · exact channel_updBay u b _
    · exact .refl _ u
  have check : ∀ (u : State) (p : Prop) [Decidable p], ChannelTouches (chanOf b) u
      (if p then u else u.fireCheck b .burnMismatch) := fun u p _ => by
    split
    · exact .refl _ u
    · exact channel_fireCheck u b _
  have zero : ∀ u : State, ChannelTouches (chanOf b) u
      (if (u.bay b).tagGauge = 0 then u.reachedZero b else u) := fun u => by
    split
    · exact channel_reachedZero u b
    · exact .refl _ u
  unfold State.burnAcked
  split
  · exact .refl _ s
  · exact (((channel_updBay s b _).trans (drop _)).trans (check _ _)).trans (zero _)

theorem channel_burnRefused (s : State) (b : BayId) : ChannelTouches (chanOf b) s (s.burnRefused b) :=
  (channel_updBay s b _).trans (channel_fireCheck _ b _)

theorem channel_flagWritten (s : State) (b : BayId) (f : TagFlag) :
    ChannelTouches (chanOf b) s (s.flagWritten b f) := by
  cases f <;> exact channel_updBay s b _

theorem channel_withdrawAuth (s : State) (b : BayId) : ChannelTouches (chanOf b) s (s.withdrawAuth b) :=
  (channel_auth _ s _).trans (channel_updBay _ b _)

/-- An entry into FAULT touches its bay's channel, the authentication engine and the notices. -/
theorem channel_enterFault (s : State) (b : BayId) : ChannelTouches (chanOf b) s (s.enterFault b) := by
  have unread : ChannelTouches (chanOf b) s
      (if (s.bay b).verdict = .none then s.setVerdict b .unread .none else s) := by
    split
    · exact channel_setVerdict s b _ _
    · exact .refl _ s
  unfold State.enterFault
  simp only
  split
  · exact .refl _ s
  · have step := (((unread.trans (channel_withdrawAuth _ b)).trans (channel_updBay _ b fun x =>
      { x with burnInFlight := none, barReason := .none })).trans (touches_moveBay _ b .fault).channel).trans
        (channel_updBay _ b fun x => { x with wants := Wants.none })
    split
    · exact step.trans (touches_feedLost _ b _).channel
    · exact step

end Sys2Proof.Machine
end

