-- ==== Sys2Proof/Laws/Answers.lean ====
section
/-! SUPPORT. What answering tickets can touch: one law for each operation of Machine/Answers.lean that writes a
slot or serves a bay's order list. -/

namespace Sys2Proof.Machine

/-- What serving the tickets of a bay of channel `c` leaves of a state: it changes what an operation on the
channel changes, and slots and bay order lists. -/
structure AnswerTouches (c : ChanId) (s t : State) : Prop where
  pending  : t.pending = s.pending
  outside  : { t.outside with challengeDraws := s.outside.challengeDraws } = s.outside
  flash    : t.flash = s.flash
  port     : { t.port with notices := s.port.notices, slots := s.port.slots, bayOrder := s.port.bayOrder } = s.port
  notices  : s.port.notices &&& ~~~t.port.notices = 0#8
  bays     : ∀ b, chanOf b ≠ c → t.bay b = s.bay b
  latch    : t.latch = s.latch
  chans    : ∀ x, x ≠ c → t.chan x = s.chan x
  profile  : (t.chan c).profile = (s.chan c).profile
  tally    : t.tally = s.tally
  engines  : t.engines = s.engines
  items    : t.history.fifo.map (·.serial) = s.history.fifo.map (·.serial)
  store    : t.store = s.store
  selfTest : t.selfTest = s.selfTest
  gens     : t.gens = s.gens

/-! ### The relation -/

theorem ChannelTouches.answer {c : ChanId} {s t : State} (h : ChannelTouches c s t) : AnswerTouches c s t where
  pending := h.pending
  outside := h.outside
  flash := h.flash
  port := by conv => rhs; rw [← h.port]
             rw [← h.port]
  notices := h.notices
  bays := h.bays
  latch := h.latch
  chans := h.chans
  profile := h.profile
  tally := h.tally
  engines := h.engines
  items := h.items
  store := h.store
  selfTest := h.selfTest
  gens := h.gens

theorem AnswerTouches.refl (c : ChanId) (s : State) : AnswerTouches c s s := (ChannelTouches.refl c s).answer

theorem AnswerTouches.trans {c : ChanId} {s t u : State} (h : AnswerTouches c s t)
    (k : AnswerTouches c t u) : AnswerTouches c s u where
  pending := k.pending.trans h.pending
  outside := by rw [← h.outside, ← k.outside]
  flash := k.flash.trans h.flash
  port := by rw [← h.port, ← k.port]
  notices := bits_kept_trans _ _ _ h.notices k.notices
  bays := fun b hb => (k.bays b hb).trans (h.bays b hb)
  latch := k.latch.trans h.latch
  chans := fun x hx => (k.chans x hx).trans (h.chans x hx)
  profile := k.profile.trans h.profile
  tally := k.tally.trans h.tally
  engines := k.engines.trans h.engines
  items := k.items.trans h.items
  store := k.store.trans h.store
  selfTest := k.selfTest.trans h.selfTest
  gens := k.gens.trans h.gens

/-! ### Slots and order lists -/

theorem answer_updSlot (c : ChanId) (s : State) (k : SlotId) (f : Slot → Slot) :
    AnswerTouches c s (s.updSlot k f) :=
  { AnswerTouches.refl c s with port := rfl }

theorem answer_writeAnswer (c : ChanId) (s : State) (k : SlotId) (a : Answer) :
    AnswerTouches c s (s.writeAnswer k a) := by
  unfold State.writeAnswer
  split
  · exact (answer_updSlot c s k _).trans (channel_raise c _ _).answer
  · exact .refl c s

theorem answer_setOrder (c : ChanId) (s : State) (b : BayId) (l : List SlotId) :
    AnswerTouches c s (s.setOrder b l) :=
  { AnswerTouches.refl c s with port := rfl }

/-- Serving a bay's order list touches slots, order lists and what a CLEAR_HELD of the bay touches. -/
theorem answer_serveList (b : BayId) (l : List SlotId) (s : State) :
    AnswerTouches (chanOf b) s (State.serveList b l s) := by
  induction l generalizing s with
  | nil => exact answer_setOrder _ s b _
  | cons k l ih =>
    unfold State.serveList
    split
    · exact ih s
    · split
      · exact ((channel_carryOutClear s b _).answer.trans (answer_writeAnswer _ _ k _)).trans (ih _)
      · split
        · exact (answer_writeAnswer _ s k _).trans (ih _)
        · exact answer_setOrder _ s b _

theorem answer_serveBay (s : State) (b : BayId) : AnswerTouches (chanOf b) s (s.serveBay b) :=
  answer_serveList b _ s

/-- The result of a ticket that becomes ready touches slots, and for a ticket that names a bay what serving
that bay touches. -/
theorem answer_finishTicket (s : State) (k : SlotId) (a : Answer) (c : ChanId)
    (h : ∀ t b, (s.slot k).copy = some t → t.bay = some b → chanOf b = c) :
    AnswerTouches c s (s.finishTicket k a) := by
  unfold State.finishTicket
  split
  · exact .refl c s
  · next t ht =>
    split
    · exact answer_writeAnswer c s k a
    · next b hb =>
      have := h t b ht hb
      subst this
      exact (answer_updSlot _ s k _).trans (answer_serveBay _ b)

end Sys2Proof.Machine
end

