-- ==== Sys2Proof/Laws/Lines.lean ====
section
/-! SUPPORT. The receiver of a line: what it hears of runs of bits joined, of the start pattern and of the bits of a
byte. Proofs about frames on a line cite these. -/

namespace Sys2Proof.Machine

/-- Runs of bits one after the other are heard one after the other. -/
theorem hearAll_append (whole : List Byte → Bool) (l m : List Bool) (r : Receiver) :
    r.hearAll whole (l ++ m) = (((r.hearAll whole l).1.hearAll whole m).1,
      (r.hearAll whole l).2 ++ ((r.hearAll whole l).1.hearAll whole m).2) := by
  induction l generalizing r with
  | nil => rfl
  | cons d l ih => simp [Receiver.hearAll, ih]

/-- 1 bits between frames are counted to 16. -/
theorem hearAll_ones (whole : List Byte → Bool) (n k : Nat) :
    Receiver.hearAll { ones := k, part := none } whole (List.replicate (n + 1) true)
      = ({ ones := min 16 (k + n + 1), part := none }, []) := by
  induction n generalizing k with
  | zero => rfl
  | succ n ih =>
    rw [List.replicate_succ, Receiver.hearAll]
    simp only [Receiver.hear, if_true, Bool.not_true, Bool.false_and, Bool.false_eq_true, if_false]
    rw [ih (min 16 (k + 1))]
    simp only [Option.toList_none, List.nil_append, Prod.mk.injEq, Receiver.mk.injEq, and_true]
    omega

/-- The start pattern opens a frame, whatever 1 bits stood before it. -/
theorem hearAll_startPattern (whole : List Byte → Bool) (r : Receiver) (h : r.part = none) :
    r.hearAll whole startPattern = ({ ones := 0, part := some { bytes := [], bits := [] } }, []) := by
  obtain ⟨k, part⟩ := r
  subst h
  unfold startPattern
  rw [hearAll_append, hearAll_ones whole 15 k]
  simp [Receiver.hearAll, Receiver.hear]

/-- Eight data bits spell the byte they are the bits of. -/
@[simp] theorem byteOfBits_dataBits (b : Byte) : byteOfBits (dataBits b) = b := by
  revert b; decide +kernel

/-- The bits of a byte inside a frame add the byte, and make the frame complete where it is its last. -/
theorem hearAll_byteBits (whole : List Byte → Bool) (k : Nat) (l : List Byte) (b : Byte) :
    Receiver.hearAll { ones := k, part := some { bytes := l, bits := [] } } whole (byteBits b)
      = if whole (l ++ [b]) then ({ ones := 0, part := none }, [.frame (l ++ [b])])
        else ({ ones := 0, part := some { bytes := l ++ [b], bits := [] } }, []) := by
  have h := byteOfBits_dataBits b
  simp only [dataBits, List.map_cons, List.map_nil] at h
  simp only [byteBits, dataBits, List.map_cons, List.map_nil, List.cons_append, List.nil_append, Receiver.hearAll,
    Receiver.hear, PartFrame.hear, List.length_nil, List.length_cons, List.nil_append, Nat.reduceAdd, Nat.reduceLT,
    if_true, if_false, Nat.lt_irrefl, Bool.false_eq_true, h, Option.toList_none]
  split <;> rfl

end Sys2Proof.Machine
end

