-- ==== Sys2Proof/Laws/Memory.lean ====
section
/-! SUPPORT. The flash as memory: a byte read after a write, and the canonical form kept by every operation
that stores or erases. -/

namespace Sys2Proof.Machine

/-! ### Read after write -/

theorem Memory.read_write_self (m : Memory) (a : Nat) (v : Byte) (h : m.wf = true) :
    (m.write a v).read a = v := by
  suffices ∀ lo, (∀ l, lo = some l → l < a) → Memory.wfFrom lo m = true → (m.write a v).read a = v from
    this none (by simp) h
  clear h
  induction m with
  | nil =>
    intro lo _ _
    simp only [Memory.write]
    split <;> simp_all [Memory.read]
  | cons c m ih =>
    obtain ⟨k, x⟩ := c
    intro lo hlo h
    have hm : Memory.wfFrom (some k) m = true := by cases lo <;> simp_all [Memory.wfFrom]
    have blank : ∀ (b : Nat) (l : Memory), Memory.wfFrom (some b) l = true → a ≤ b → l.read a = blankByte := by
      intro b l
      induction l generalizing b with
      | nil => intros; rfl
      | cons d l ihl =>
        obtain ⟨j, y⟩ := d
        intro hw hb
        simp only [Memory.wfFrom, Bool.and_eq_true, decide_eq_true_eq] at hw
        have hj : j ≠ a := by omega
        simp only [Memory.read, hj, if_false]
        exact ihl j hw.2 (by omega)
    simp only [Memory.write]
    split
    · rename_i hak
      split
      · rename_i hv
        have hk : k ≠ a := by omega
        simp only [Memory.read, hk, if_false, hv]
        exact blank k m hm (by omega)
      · simp [Memory.read]
    · split
      · rename_i hak
        subst hak
        split
        · rename_i hv
          rw [hv]; exact blank a m hm (Nat.le_refl a)
        · simp [Memory.read]
      · rename_i h1 h2
        have hk : k ≠ a := by omega
        simp only [Memory.read, hk, if_false]
        exact ih (some k) (by intro l hl; injection hl with hl; omega) hm

theorem Memory.read_write_other (m : Memory) (a b : Nat) (v : Byte) (h : b ≠ a) :
    (m.write a v).read b = m.read b := by
  induction m with
  | nil =>
    simp only [Memory.write]
    split
    · rfl
    · simp [Memory.read, Ne.symm h]
  | cons c m ih =>
    obtain ⟨k, x⟩ := c
    simp only [Memory.write]
    split
    · split
      · rfl
      · simp [Memory.read, Ne.symm h]
    · split
      · rename_i hak
        subst hak
        split <;> simp [Memory.read, Ne.symm h]
      · simp [Memory.read, ih]

/-! ### The canonical form -/

theorem Memory.wfFrom_weaken (m : Memory) (lo : Option Nat) (b : Nat) (h : Memory.wfFrom (some b) m = true)
    (hlo : ∀ l, lo = some l → l ≤ b) : Memory.wfFrom lo m = true := by
  cases m with
  | nil => cases lo <;> rfl
  | cons c m =>
    obtain ⟨k, x⟩ := c
    cases lo with
    | none => simp_all [Memory.wfFrom]
    | some l =>
      have := hlo l rfl
      simp only [Memory.wfFrom, Bool.and_eq_true, decide_eq_true_eq] at h ⊢
      exact ⟨⟨by omega, h.1.2⟩, h.2⟩

theorem Memory.wfFrom_cons (lo : Option Nat) (k : Nat) (x : Byte) (m : Memory) :
    Memory.wfFrom lo ((k, x) :: m) = true ↔
      (∀ l, lo = some l → l < k) ∧ x ≠ blankByte ∧ Memory.wfFrom (some k) m = true := by
  cases lo <;> simp [Memory.wfFrom, and_assoc]

theorem Memory.wfFrom_write (m : Memory) (lo : Option Nat) (a : Nat) (v : Byte)
    (h : Memory.wfFrom lo m = true) (hlo : ∀ l, lo = some l → l < a) :
    Memory.wfFrom lo (m.write a v) = true := by
  induction m generalizing lo with
  | nil =>
    simp only [Memory.write]
    split
    · exact h
    · rw [Memory.wfFrom_cons]; exact ⟨hlo, by assumption, rfl⟩
  | cons c m ih =>
    obtain ⟨k, x⟩ := c
    have hc := (Memory.wfFrom_cons lo k x m).1 h
    simp only [Memory.write]
    split
    · rename_i hak
      split
      · exact h
      · rw [Memory.wfFrom_cons]
        refine ⟨hlo, by assumption, ?_⟩
        rw [Memory.wfFrom_cons]
        exact ⟨by intro l hl; injection hl with hl; omega, hc.2⟩
    · split
      · rename_i hak
        subst hak
        split
        · exact Memory.wfFrom_weaken m lo a hc.2.2 fun l hl => Nat.le_of_lt (hlo l hl)
        · rw [Memory.wfFrom_cons]; exact ⟨hlo, by assumption, hc.2.2⟩
      · rw [Memory.wfFrom_cons]
        exact ⟨hc.1, hc.2.1, ih (some k) hc.2.2 (by intro l hl; injection hl with hl; omega)⟩

theorem Memory.wfFrom_filter (m : Memory) (lo : Option Nat) (p : Host.Cell → Bool)
    (h : Memory.wfFrom lo m = true) : Memory.wfFrom lo (m.filter p) = true := by
  induction m generalizing lo with
  | nil => exact h
  | cons c m ih =>
    obtain ⟨k, x⟩ := c
    have hc := (Memory.wfFrom_cons lo k x m).1 h
    simp only [List.filter_cons]
    split
    · rw [Memory.wfFrom_cons]; exact ⟨hc.1, hc.2.1, ih _ hc.2.2⟩
    · exact ih lo (Memory.wfFrom_weaken m lo k hc.2.2 fun l hl => Nat.le_of_lt (hc.1 l hl))

theorem Memory.wf_write (m : Memory) (a : Nat) (v : Byte) (h : m.wf = true) : (m.write a v).wf = true :=
  Memory.wfFrom_write m none a v h (by simp)

theorem Memory.wf_writeRun (m : Memory) (a : Nat) (l : List Byte) (h : m.wf = true) :
    (m.writeRun a l).wf = true := by
  induction l generalizing m a with
  | nil => exact h
  | cons v l ih => exact ih _ _ (Memory.wf_write m a v h)

theorem Memory.wf_scatter (m : Memory) (base size : Nat) (l : List (Nat × Byte)) (h : m.wf = true) :
    (m.scatter base size l).wf = true := by
  unfold Memory.scatter
  induction l generalizing m with
  | nil => exact h
  | cons c l ih =>
    simp only [List.foldl_cons]
    refine ih _ ?_
    split
    · exact Memory.wf_write _ _ _ h
    · exact h

theorem Memory.wf_erase (m : Memory) (base size : Nat) (h : m.wf = true) : (m.erase base size).wf = true :=
  Memory.wfFrom_filter m none _ h

theorem wf_cutErase (m : Memory) (draw base : Nat) (h : m.wf = true) : (cutErase m draw base).wf = true :=
  Memory.wfFrom_filter m none _ h

theorem wf_programProfiles (m : Memory) (l : List (ChanId × Profile)) (h : m.wf = true) :
    (programProfiles m l).wf = true := by
  unfold programProfiles
  induction l generalizing m with
  | nil => exact h
  | cons r l ih =>
    rw [List.foldl_cons]
    exact ih _ (Memory.wf_writeRun m _ _ h)

/-! ### Profile rewrites (R156, R174) -/

/-- An erased sector is blank, whatever the flash held. -/
theorem Memory.blank_erase (m : Memory) (base size : Nat) : (m.erase base size).blank base size = true := by
  simp only [Memory.erase, Memory.blank, List.all_filter, List.all_eq_true]
  intro c _
  by_cases h : c.1 < base ∨ base + size ≤ c.1 <;> simp [h]

/-- A rewrite leaves sector 0 whole where every step verifies, and as it stood at the step that did not. -/
theorem rewriteResult_eq (s : State) (c : ChanId) (p : Profile) (result : RewriteEnd) :
    (s.rewriteVerifies c p result = true ∧ s.rewriteResult c p result = s.wholeRewrite c p)
    ∨ ∃ step left, result = .failed step left ∧ s.rewriteVerifies c p result = false
        ∧ s.rewriteResult c p result = cutRewrite s.flash (s.rewriteRecords c p) step left := by
  cases result with
  | verified => exact .inl ⟨rfl, rfl⟩
  | failed step left =>
    cases h : s.rewriteVerifies c p (.failed step left)
    · exact .inr ⟨step, left, rfl, rfl, by simp [State.rewriteResult, h]⟩
    · exact .inl ⟨rfl, by simp [State.rewriteResult, h]⟩

theorem wf_cutRewrite (m : Memory) (l : List (ChanId × Profile)) (step : Nat) (left : List (Nat × Byte))
    (h : m.wf = true) : (cutRewrite m l step left).wf = true := by
  unfold cutRewrite
  split
  · exact Memory.wf_scatter _ _ _ _ (Memory.wf_erase _ _ _ h)
  · have hd := wf_programProfiles _ (l.take (step - 1)) (Memory.wf_erase m 0 4096 h)
    simp only
    split
    · exact Memory.wf_scatter _ _ _ _ hd
    · exact hd

theorem wf_rewriteResult (s : State) (c : ChanId) (p : Profile) (result : RewriteEnd) (h : s.flash.wf = true) :
    (s.rewriteResult c p result).wf = true := by
  obtain ⟨-, e⟩ | ⟨step, left, -, -, e⟩ := rewriteResult_eq s c p result
  · rw [e]; exact wf_programProfiles _ _ (Memory.wf_erase _ _ _ h)
  · rw [e]; exact wf_cutRewrite _ _ _ _ h

/-- The flash after reset has the canonical form. -/
theorem wf_reset : State.reset.flash.wf = true := rfl

end Sys2Proof.Machine
end

