-- ==== Sys2Proof/Laws/Reads.lean ====
section
/-! SUPPORT. One byte of each record as the host reads it: a proof about a field of a record cites these and unfolds
only the content of that record. -/

namespace Sys2Proof.Machine

/-- The two halves of two bytes that stand together. -/
theorem append_halves (x y : Byte) :
    ((x ++ y : BitVec (8 + 8)).extractLsb' 8 8 = x) ∧ (x ++ y : BitVec (8 + 8)).extractLsb' 0 8 = y := by
  have h := fun i => BitVec.getLsbD_append (i := i) (x := x) (y := y)
  constructor <;> apply BitVec.eq_of_getLsbD_eq <;> intro i hi <;> simp only [BitVec.getLsbD_extractLsb', hi]
  · rw [h]; simp [hi]
  · rw [h]; simp [hi]

/-- The two halves of a word of a run of bytes. -/
theorem wordAt_halves (l : List Byte) (k : Nat) :
    (wordAt l k).extractLsb' 8 8 = byteAt l k ∧ (wordAt l k).extractLsb' 0 8 = byteAt l (k + 1) :=
  append_halves _ _

/-- A byte at an address whose word is the word of a run of bytes, the address and the run being aligned alike. -/
theorem State.hostByte_run {s : State} {l : List Byte} {a k : Nat} (par : a % 2 = k % 2)
    (h : s.hostRead (a / 2 * 2) = wordAt l (k / 2 * 2)) : s.hostByte a = byteAt l k := by
  unfold State.hostByte
  simp only [h]
  split
  · rw [(wordAt_halves _ _).1]
    congr 1
    omega
  · rw [(wordAt_halves _ _).2]
    congr 1
    omega

/-- A byte of the header. -/
theorem State.hostByte_header (s : State) (k : Nat) (hk : k < 256) :
    s.hostByte k = byteAt (recordBytes s.gens.header s.headerContent) k := by
  refine State.hostByte_run rfl ?_
  unfold State.hostRead
  rw [if_pos (by omega)]

/-- A byte of a channel record at READY. -/
theorem State.hostByte_channel (s : State) (hr : s.port.partState = .ready) (c : ChanId) (k : Nat) (hk : k < 32) :
    s.hostByte (0x100 + 32 * c.val + k) = byteAt (recordBytes s.gens.channels[c] (channelContent (s.chan c))) k := by
  have hc := c.isLt
  refine State.hostByte_run (by omega) ?_
  have hq : ((256 + 32 * c.val + k) / 2 * 2 - 256) / 32 = c.val := by omega
  unfold State.hostRead State.readRecord
  rw [if_neg (by omega), if_pos (by omega), if_neg (by simp [hr]), dif_pos (by omega)]
  simp only [hq]
  congr 1
  omega

/-- A byte of an engine record at READY. -/
theorem State.hostByte_engine (s : State) (hr : s.port.partState = .ready) (e : EngId) (k : Nat) (hk : k < 32) :
    s.hostByte (0x280 + 32 * e.val + k)
      = byteAt (recordBytes s.gens.engines[e] (engineContent (s.eng e) s.port.parked[e])) k := by
  have he := e.isLt
  refine State.hostByte_run (by omega) ?_
  have hq : ((640 + 32 * e.val + k) / 2 * 2 - 640) / 32 = e.val := by omega
  unfold State.hostRead State.readRecord
  rw [if_neg (by omega), if_pos (by omega), if_neg (by simp [hr]), dif_neg (by omega), dif_pos (by omega)]
  simp only [hq]
  congr 1
  omega

/-- A byte of a bay record at READY. -/
theorem State.hostByte_bay (s : State) (hr : s.port.partState = .ready) (b : BayId) (k : Nat) (hk : k < 64) :
    s.hostByte (0x300 + 64 * b.val + k) = byteAt (recordBytes s.gens.bays[b] (bayContent (s.bay b))) k := by
  have hb := b.isLt
  refine State.hostByte_run (by omega) ?_
  have hq : ((768 + 64 * b.val + k) / 2 * 2 - 768) / 64 = b.val := by omega
  unfold State.hostRead State.readRecord
  rw [if_neg (by omega), if_pos (by omega), if_neg (by simp [hr]), dif_neg (by omega), dif_neg (by omega),
    dif_pos (by omega)]
  simp only [hq]
  congr 1
  omega

/-- A byte of a ticket slot. -/
theorem State.hostByte_slot (s : State) (x : SlotId) (k : Nat) (hk : k < 64) :
    s.hostByte (0x1000 + 64 * x.val + k) = byteAt (s.slot x).bytes k := by
  have hx := x.isLt
  refine State.hostByte_run (by omega) ?_
  have hq : ((4096 + 64 * x.val + k) / 2 * 2 - 4096) / 64 = x.val := by omega
  unfold State.hostRead
  rw [if_neg (by omega), if_neg (by omega), dif_pos (by omega)]
  simp only [hq]
  congr 1
  omega

end Sys2Proof.Machine
end

