-- ==== Sys2Proof/Laws/Tags.lean ====
section
/-! SUPPORT. What a removal leaves of a tag's cartridge, what a seating takes up, and what is noted of a change of
the entry whose record is being written. -/

namespace Sys2Proof.Machine

/-! ### The cartridge of a tag that loses power (R5) -/

@[simp] theorem maybeTorn_block0 (d : Nat) (c : Cartridge) : (maybeTorn d c).block0 = c.block0 := by
  unfold maybeTorn; split <;> rfl

@[simp] theorem maybeTorn_block2 (d : Nat) (c : Cartridge) : (maybeTorn d c).block2 = c.block2 := by
  unfold maybeTorn; split <;> rfl

@[simp] theorem maybeTorn_block3 (d : Nat) (c : Cartridge) : (maybeTorn d c).block3 = c.block3 := by
  unfold maybeTorn; split <;> rfl

@[simp] theorem maybeTorn_key (d : Nat) (c : Cartridge) : (maybeTorn d c).key = c.key := by
  unfold maybeTorn; split <;> rfl

/-- An update that left a CRC-good block 1 was not torn. -/
theorem maybeTorn_of_good (d : Nat) (c : Cartridge) (h : crcGood (maybeTorn d c).block1 = true) :
    maybeTorn d c = c := by
  unfold maybeTorn at h ⊢
  split
  · rfl
  · rename_i hbad
    rw [if_neg hbad] at h
    exact absurd h hbad

/-- A loss of power touches block 1 alone. -/
theorem losePower_keeps (t : Tag) (d : Nat) :
    (t.losePower d).block0 = t.cartridge.block0 ∧ (t.losePower d).block2 = t.cartridge.block2
      ∧ (t.losePower d).block3 = t.cartridge.block3 ∧ (t.losePower d).key = t.cartridge.key := by
  unfold Tag.losePower
  split <;> simp [Tag.rewrite]

/-! ### Seating and pulling -/

/-- Taking up a pulled cartridge changes the list of pulled ones alone. -/
theorem takeUpPulled_eq (s : State) (x : Seating) :
    s.takeUpPulled x = { s with outside := { s.outside with pulled := (s.takeUpPulled x).outside.pulled } } := by
  cases x <;> rfl

/-- A pulled cartridge joins those pulled as its loss of power leaves it. -/
theorem unseat_pulled (s : State) (b : BayId) (t : Tag) (h : s.outside.tags[b] = some t) :
    (s.unseat b).outside.pulled = t.losePower s.outside.cutDraws :: s.outside.pulled := by
  simp [State.unseat, State.updOutside, h]

/-! ### A change of the entry being written (R49) -/

/-- Noting a change can set `changed`, and does nothing else. -/
theorem noteChange_cases (s before : State) :
    s.noteChange before = s ∨ s.noteChange before = s.updStore fun x => { x with changed := true } := by
  unfold State.noteChange
  split
  · exact .inl rfl
  · split
    · exact .inl rfl
    · exact .inr rfl

/-- A change of the entry whose record is being written is noted. -/
theorem noteChange_sets {s before : State} {r : JournalRecord} (hw : s.store.writing = some r)
    (hd : s.entryContent r.serial r.seq ≠ before.entryContent r.serial r.seq) :
    (s.noteChange before).store.changed = true := by
  simp only [State.noteChange, hw, if_neg hd]
  rfl

/-- Where no record is being written there is nothing to note. -/
theorem noteChange_idle {s before : State} (hw : s.store.writing = none) : s.noteChange before = s := by
  simp only [State.noteChange, hw]

/-- What has been noted stays noted. -/
theorem noteChange_keeps {s before : State} (h : s.store.changed = true) :
    (s.noteChange before).store.changed = true := by
  obtain hc | hc := noteChange_cases s before <;> rw [hc]
  · exact h
  · rfl

end Sys2Proof.Machine
end

