-- ==== Sys2Proof/Tests/Slice0.lean ====
section
/-! SUPPORT. The model's own tests: what well-formedness refuses, worked figures of the manual, single steps on
small states, and a witness for the hypotheses of each statement. -/

namespace Sys2Proof.Tests

open Sys2Proof.Machine

set_option Elab.async false

/-! ### Well-formedness -/

theorem test_ill_formed_odd_address : Instr.wellFormed (.hostWrite 0x1001 0#16) = false := by decide

theorem test_ill_formed_high_address : Instr.wellFormed (.hostWrite 0x4000 0#16) = false := by decide

theorem test_ill_formed_long_payload :
    Instr.wellFormed (.tagAnswerFrame 0 (.other ⟨0xA0#8, List.replicate 256 0#8, 0#16⟩) 0) = false := by
  decide +kernel

theorem test_ill_formed_posted_kind :
    Instr.wellFormed (.postedReject 0 0x10#16 0#16 (Vector.replicate 26 0#8)) = false := by decide

theorem test_ill_formed_bad_kind :
    Instr.wellFormed (.badKind 0 0x19#16 0#16 (Vector.replicate 26 0#8)) = false := by decide

theorem test_ill_formed_left_outside : Instr.wellFormed (.sectorErase [(4096, 0#8)]) = false := by decide

theorem test_ill_formed_left_order : Instr.wellFormed (.sectorErase [(3, 0#8), (3, 1#8)]) = false := by decide

theorem test_ill_formed_left_blank : Instr.wellFormed (.sectorErase [(3, 0xFF#8)]) = false := by decide

theorem test_ill_formed_rewrite_step : Instr.wellFormed (.profileRewrite (.failed 13 [])) = false := by decide

theorem test_ill_formed_record_left :
    Instr.wellFormed (.profileRewrite (.failed 1 [(32, 0#8)])) = false := by decide

theorem test_ill_formed_test_code : Instr.wellFormed (.selfTestBadCode 0 9#8 0#8) = false := by decide

theorem test_well_formed_write : Instr.wellFormed (.hostWrite 0x3FFE 0#16) = true := by decide

/-! ### Small states -/

/-- The part READY with nothing seated. -/
def ready : State := { State.reset with port := { Port.default with partState := .ready } }

/-- An argument area that begins with some bytes. -/
def area (l : List Byte) : Args := fitList 26 0#8 l

/-- The profile of the tests: drop volumes 10 fL and up, no temperature coefficient, one mark per µL. -/
def profile : Profile :=
  { inkType := 41, tallySource := .link, vSmall := 100, vMedium := 200, vLarge := 1000, tempCoeff := 0
    switchMarks := 20, lowMarks := 30, settleInterval := 5, sensePeriod := 0, sEmpty := 40, sFull := 220
    tolerance := 24, window := 8, alertSelect := 0b01100#5 }

/-- The identity of the tests. -/
def ident : Identity :=
  { serial := 7#64, inkType := 41, capacityMarks := 1600, markVolume := 1, lotCode := 0#32 }

/-- Block 0 of the tests' cartridge. -/
def block0 : Block := sealed (beBytes 8 7 ++ beBytes 2 41 ++ beBytes 2 1600 ++ beBytes 2 1 ++ beBytes 4 0 ++ [1#8])

/-- Block 1 with a gauge, no flag set. -/
def block1 (gauge : Nat) : Block := sealed (beBytes 2 gauge ++ [0#8])

/-- A cartridge of the line with a full gauge. -/
def cartridge : Cartridge :=
  { block0 := block0, block1 := block1 1600, block2 := sealed [], block3 := sealed [], key := .line 7#64 41 }

/-- The history entry of the tests' cartridge, seated in bay 0. -/
def entry : Entry :=
  { serial := 7#64, inkType := 41, book := 30, owed := 0, verdict := .genuine, seen := 0#6
    installedBay := some 0, lastBay := 0, useStamp := 1, journalLocation := none, journalSeq := 0
    journalDue := false }

/-- A GENUINE bay with a book. -/
def genuine (st : BayState) (book : Nat) : Bay :=
  { Bay.default with state := st, verdict := .genuine, identity := some ident, gaugeKnown := true
                     tagGauge := book, book := book, authenticated := true }

/-- Channel 0 set, nothing seated. -/
def setChan : State := ready.updChan 0 fun ch => { ch with profile := some profile, closedReason := .empty }

/-- Channel 0 fed by bay 0 with a book, bay 1 as given. -/
def fed (book : Nat) (twin : Bay) : State :=
  ((setChan.updChan 0 fun ch => { ch with feedState := .openA, closedReason := .none }).updBay 0 fun _ =>
    genuine .feeding book).updBay 1 fun _ => twin

/-- A tally frame of channel 0 with a count of large drops. -/
def frame (seq large : Nat) : LinkFrame :=
  let l := [0#8] ++ beBytes 2 seq ++ beBytes 3 0 ++ beBytes 3 0 ++ beBytes 3 large ++ [50#8]
  fitList 15 0#8 (l ++ crcBytes l)

/-- A TALLY_POST argument area. -/
def postArea (seq large : Nat) : Args :=
  area (beBytes 2 seq ++ beBytes 4 0 ++ beBytes 4 0 ++ beBytes 4 large ++ beBytes 2 50)

/-- An engine with an attempt on the line. -/
def onLine (s : State) (b : BayId) (o : Origin) (c : TagCommand) (run : Nat) : State :=
  s.updEng 0 fun x =>
    { x with activity := .attempt { bay := b, origin := o, command := c, attempts := run + 1
                                    failureRun := run, firstAttempt := 0 } }

/-- The store running an operation. -/
def storing (s : State) (op : FlashOp) : State := s.updStore fun x => { x with op := some op }

/-- The state a command answers with. -/
def after (c : Instr) (s : State) : State :=
  match exec c s with
  | .next t => t
  | .fault _ | .refused _ => s

/-- A command answers with a next state. -/
def goesOn (c : Instr) (s : State) : Bool :=
  match exec c s with
  | .next _ => true
  | .fault _ | .refused _ => false

/-! ### Figures of the manual -/

/-- R158: the CRC of the part over the nine ASCII digits, the check value of this CRC. -/
theorem test_crc_check_value :
    crc16 [0x31#8, 0x32#8, 0x33#8, 0x34#8, 0x35#8, 0x36#8, 0x37#8, 0x38#8, 0x39#8] = 0x29B1#16 := by
  decide +kernel

/-- R204: 13.5, 32.5 and 511.5 round to 14, 33 and 512. -/
theorem test_rounding_halves : adjusted 27 2048 = 14 ∧ adjusted 65 2048 = 33 ∧ adjusted 1023 2048 = 512 := by
  decide

/-- R67: the clamp at the low side of F, 4096 − 64 × 110. -/
theorem test_factor_low : factorOf (-64) (clampTemp 255) = 2048 := by decide

/-- R67: the clamp at the high side of F, 4096 + 63 × 110. -/
theorem test_factor_high : factorOf 63 (clampTemp 160) = 6144 := by decide

/-- R121: a quotient of −0.5 is −1 before the clamp, so the estimate is 0; a full sensor gives C. -/
theorem test_estimate_ends : estimateOf 39 40 240 100 = 0 ∧ estimateOf 240 40 240 100 = 100 := by decide

/-- R65: s = last_seq − 2 grows gap_count by 65533. -/
theorem test_gap_of_ring :
    Channel.gapOf { Channel.default with seqStarted := true, lastSeq := 9#16 } 7#16 = 65533 := by decide

/-! ### Witnesses: arithmetic and formats -/

theorem witness_StepRunsFrontCommand : ready.pending = [] := by decide

theorem witness_ResetValues : (0x1FFF : Nat) < 0x2000 := by decide

/-- Each clause of the temperature factor and of the drop volume is met at an end of its range. -/
theorem witness_FactorAndRounding :
    ((1023 ≤ 1023 ∧ 2048 ≤ 6144 ∧ 6144 ≤ 6144) ∧ (10 ≤ 10 ∧ 160 ≤ 160) ∧ 9 < 10 ∧ 160 < 161)
    ∧ (2048 ≤ 4096 + (63 : Int) * ((clampTemp 82 : Int) - 50)
        ∧ 4096 + (63 : Int) * ((clampTemp 82 : Int) - 50) ≤ 6144)
    ∧ 4096 + (-64 : Int) * ((clampTemp 255 : Int) - 50) < 2048
    ∧ 6144 < 4096 + (63 : Int) * ((clampTemp 160 : Int) - 50) := by decide

/-- Both slopes of a sensor, and a quotient below 0, above C and within. -/
theorem witness_EstimateIsClampedFloor :
    (220 : Nat) ≠ 40 ∧ (40 : Nat) < 220 ∧ (220 : Nat) < 240 ∧ estimateOf 39 40 220 1600 = 0
    ∧ estimateOf 255 40 220 1600 = 1600 ∧ estimateOf 130 40 220 1600 = 800
    ∧ estimateOf 130 220 40 1600 = 800 := by decide

theorem witness_SealedBlocksAreGood : (List.replicate 30 0#8 : List Byte).length = 30 := by decide

/-- A record of a cartridge and a tombstone at the ends of their ranges. -/
theorem witness_FlashRecordsRoundTrip :
    (1 ≤ top32 ∧ top32 ≤ top32) ∧ (Verdict.genuine ≠ .unread ∧ Verdict.genuine ≠ .none)
    ∧ (1 ≤ 65535 ∧ 65535 ≤ 65535 ∧ 4095 ≤ 4095 ∧ 23 < 24)
    ∧ (goodRecord (JournalRecord.block
        { seq := top32, serial := 7#64, inkType := 65535, book := 4095, owed := 4095, verdict := .genuine
          seen := 0x3F#6, lastBay := 23 })).isSome = true
    ∧ (goodRecord (JournalRecord.block
        { seq := 1, serial := 7#64, inkType := 0, book := 0, owed := 0, verdict := .none
          seen := 0#6, lastBay := 0 })).isSome = true
    ∧ (1 ≤ profile.inkType ∧ -64 ≤ profile.tempCoeff ∧ profile.tempCoeff ≤ 63 ∧ profile.vSmall ≤ 1023
      ∧ profile.vMedium ≤ 1023 ∧ profile.vLarge ≤ 1023 ∧ profile.switchMarks ≤ 4095 ∧ profile.lowMarks ≤ 4095
      ∧ profile.settleInterval ≤ 15 ∧ profile.sensePeriod = 0 ∧ profile.sEmpty ≤ 255 ∧ profile.sFull ≤ 255
      ∧ 1 ≤ profile.tolerance ∧ profile.tolerance ≤ 1023 ∧ 4 ≤ profile.window ∧ profile.window ≤ 32) := by
  decide +kernel

/-- A ready tag whose gauge is 1600, with neither burn memory nor stored challenge; one with both, asked for what it
holds and for another value; the two flags clear and set; and a working tag. -/
theorem witness_ReadyTagAnswersAreUnderstood :
    ((∀ r, (Tag.fresh cartridge).stored ≠ some (0#128, r))
      ∧ ∀ r, ({ Tag.fresh cartridge with stored := some (1#128, 9#128) } : Tag).stored ≠ some (0#128, r))
    ∧ ({ Tag.fresh cartridge with stored := some (1#128, 9#128) } : Tag).stored = some (1#128, 9#128)
    ∧ ((∀ g, (Tag.fresh cartridge).burnMemory ≠ some (0#8, g))
      ∧ ∀ g, ({ Tag.fresh cartridge with burnMemory := some (1#8, 65535) } : Tag).burnMemory ≠ some (0#8, g))
    ∧ ({ Tag.fresh cartridge with burnMemory := some (1#8, 65535) } : Tag).burnMemory = some (1#8, 65535)
    ∧ 65535 < 65536 ∧ 1600 ≤ (Tag.fresh cartridge).gauge ∧ (Tag.fresh cartridge).gauge < 1601
    ∧ (∀ f, (Tag.fresh cartridge).hasFlag f = false)
    ∧ (Tag.fresh { cartridge with block1 := sealed (beBytes 2 0 ++ [3#8]) }).hasFlag .refillMark = true
    ∧ ({ Tag.fresh cartridge with work := some .measuring } : Tag).work ≠ none := by
  refine ⟨⟨nofun, nofun⟩, rfl, ⟨nofun, nofun⟩, rfl, by decide, by decide +kernel, by decide +kernel, ?_,
    by decide +kernel, nofun⟩
  rintro (_ | _) <;> decide +kernel

/-- The longest payload; a frame of four bytes has 53 bits on the line. -/
theorem witness_AnswersAreHeard :
    (answerFrame ackCode (List.replicate 255 0#8)).payload.length ≤ 255
    ∧ 52 < (answerBits (answerFrame busyCode [])).length := by decide +kernel

/-! ### Witnesses: invariants, each met by a state in which the part is at work -/

/-- Channel 0 fed by bay 0 from a cartridge in the history table. -/
def linked : State :=
  { (fed 30 Bay.default).updBay 0 fun x => { x with entry := some 7#64 } with
    history := { History.default with live := [entry] } }

/-- The part STARTING, with a ticket listed and a power-fail warning. -/
def starting : State :=
  ((State.reset.updSlot 3 fun x => { x with hand := .filled }).updPort fun p =>
    { p with arrivals := [3] }).updStore fun x => { x with powerWarning := true }

theorem witness_BooksStayBalanced : (∀ b, (linked.bay b).Balanced) ∧ goesOn .pfwActive linked = true := by
  have h : ∀ b : BayId, (linked.bay b).burnInFlight = none
      ∧ (linked.bay b).tagGauge = (linked.bay b).book + (linked.bay b).pending
      ∧ ((linked.bay b).gaugeKnown = false → (linked.bay b).tagGauge = 0)
      ∧ ((linked.bay b).wants.burn = true → (linked.bay b).state.decided = true) := by decide +kernel
  exact ⟨fun b => ⟨(h b).2.1, (h b).2.2.1, fun f hf => by simp [(h b).1] at hf, (h b).2.2.2⟩, by decide +kernel⟩

theorem witness_VolumesStayConserved :
    (∀ x, (linked.chan x).Conserved) ∧ goesOn .pfwActive linked = true := by
  refine ⟨?_, by decide +kernel⟩
  unfold Channel.Conserved
  decide +kernel

theorem witness_ValvesFollowTheFeedingBay : linked.ValvesMatch ∧ goesOn .pfwActive linked = true := by
  refine ⟨?_, by decide +kernel⟩
  unfold State.ValvesMatch
  decide +kernel

/-- `linked` with a BARRED bay of an unset channel and a DRAINED one. -/
def mixed : State := (linked.updBay 2 fun _ => genuine .barred 5).updBay 4 fun _ => genuine .drained 0

theorem witness_FeedStaysSound :
    mixed.FeedSound ∧ mixed.StartsClean ∧ goesOn .pfwActive mixed = true := by
  refine ⟨?_, fun h => ?_, by decide +kernel⟩
  · unfold State.FeedSound State.ValvesMatch
    decide +kernel
  · revert h; decide +kernel

theorem witness_HistoryStaysSound : linked.history.Sound ∧ goesOn .pfwActive linked = true := by
  refine ⟨?_, by decide +kernel⟩
  unfold History.Sound
  decide +kernel

theorem linked_entries :
    (linked.bay 0).entry = some 7#64 ∧ (∀ b : BayId, b ≠ 0 → (linked.bay b).entry = none)
    ∧ (linked.bay 0).state.linkable = true ∧ linked.entryOf 7#64 = some entry
    ∧ entry.book = (linked.bay 0).book ∧ linked.history.live = [entry] := by decide +kernel

theorem witness_EntriesFollowTheirBays :
    linked.EntriesFollow ∧ linked.history.Sound ∧ linked.StartsClean ∧ goesOn .pfwActive linked = true := by
  obtain ⟨h0, hn, hl, he, hb, hs⟩ := linked_entries
  refine ⟨⟨fun b x hx => ?_, fun e he' b hb' => ?_⟩, witness_HistoryStaysSound.1, fun h => ?_, by decide +kernel⟩
  · by_cases hz : b = 0
    · subst hz
      rw [h0] at hx
      cases hx
      exact ⟨hl, entry, he, rfl, hb⟩
    · rw [hn b hz] at hx
      cases hx
  · rw [hs] at he'
    cases List.mem_singleton.mp he'
    cases hb'
    exact h0
  · revert h; decide +kernel

theorem witness_ArrivalListStaysSound :
    starting.ArrivalsSound ∧ goesOn (.withdrawal 3) starting = true := by
  refine ⟨?_, by decide +kernel⟩
  unfold State.ArrivalsSound
  decide +kernel

theorem witness_EnginesStaySound :
    linked.EnginesServed ∧ linked.QueuesFit ∧ goesOn .pfwActive linked = true := by
  refine ⟨?_, ?_, by decide +kernel⟩
  · unfold State.EnginesServed
    decide +kernel
  · unfold State.QueuesFit
    decide +kernel

theorem witness_SensingStaysWithFitBays :
    (∀ b, (linked.bay b).SensedOnlyWhileFit) ∧ goesOn .pfwActive linked = true := by
  refine ⟨?_, by decide +kernel⟩
  unfold Bay.SensedOnlyWhileFit
  decide +kernel

theorem witness_StartingKeepsResetValues :
    starting.StartsClean ∧ starting.port.partState = .starting ∧ goesOn (.withdrawal 3) starting = true := by
  refine ⟨fun _ => ?_, ?_, by decide +kernel⟩ <;> decide +kernel

theorem witness_ChangesArePublished :
    linked.gens.Even ∧ Instr.pfwActive ≠ .powerOnReset ∧ Instr.pfwActive ≠ .startupRebuildComplete
    ∧ Instr.pfwActive ≠ .softReset ∧ goesOn .pfwActive linked = true := by
  refine ⟨?_, by decide, by decide, by decide, by decide +kernel⟩
  unfold Generations.Even
  decide +kernel

theorem witness_LatchStaysOnUntilReset :
    ({ ready with latch := true } : State).latch = true
    ∧ goesOn .pfwActive { ready with latch := true } = true ∧ ready.Takes 0 :=
  ⟨rfl, by decide +kernel, by unfold State.Takes; decide +kernel⟩

theorem witness_CommandsCompleteInForm :
    ready.flash.wf = true ∧ goesOn .pfwActive ready = true ∧ ready.store.op = none
    ∧ ready.port.partState = .ready ∧ ready.auth.current = none := by
  refine ⟨?_, ?_, ?_, ?_, ?_⟩ <;> decide +kernel

/-! ### Witnesses: the tally link and volumes -/

/-- Channel 0 set, its frames by ticket. -/
def setByTicket : State := setChan.updChan 0 fun ch => { ch with profile := some { profile with tallySource := .ticket } }

/-- One clause each: STARTING; a bad CRC; an unset channel; a channel fed by tickets; a repeated sequence
number. -/
theorem witness_LinkFramesTurnedAway :
    State.reset.port.partState = .starting
    ∧ (ready.port.partState = .ready ∧ linkCrcGood (fitList 15 0#8 []) = false)
    ∧ (linkCrcGood (frame 5 3) = true ∧ (linkContent (frame 5 3)).channel = 0
      ∧ (ready.chan 0).profile = none ∧ (setByTicket.chan 0).profile.map (·.tallySource) = some .ticket)
    ∧ (setChan.updChan 0 fun ch => { ch with seqStarted := true, lastSeq := 5#16 }).port.partState = .ready
    ∧ ((setChan.updChan 0 fun ch => { ch with seqStarted := true, lastSeq := 5#16 }).chan 0).profile = some profile
    ∧ profile.tallySource = .link
    ∧ ((setChan.updChan 0 fun ch => { ch with seqStarted := true, lastSeq := 5#16 }).chan 0).seqStarted = true
    ∧ (linkContent (frame 5 3)).seq
        = ((setChan.updChan 0 fun ch => { ch with seqStarted := true, lastSeq := 5#16 }).chan 0).lastSeq := by
  decide +kernel

/-- The bits of a link frame: 17 and nine for each of 15 bytes. -/
theorem witness_LinkBits :
    Receiver.idle.part = none ∧ ({ ones := 16, part := none } : Receiver).part = none
    ∧ 17 ≤ 151 ∧ 151 < (lineBits (frame 5 3).toList).length ∧ (lineBits (frame 5 3).toList).length = 152 := by
  decide +kernel

/-- A link frame of one mark on channel 0 as `fed` and `setChan` leave it. -/
theorem brings_frame (s : State) (hr : s.port.partState = .ready) (hp : (s.chan 0).profile = some profile)
    (hs : (s.chan 0).seqStarted = false) :
    Brings s (.tallyFrame (frame 5 10000)) 0 (volumeOf profile (linkContent (frame 5 10000)))
      (s.chan 0).settleEnd (s.updChan 0 fun ch => ch.afterFrame profile (linkContent (frame 5 10000))) :=
  .frame (frame 5 10000) 0 profile hr (by decide +kernel) (by decide +kernel)
    ⟨hp, rfl, fun h => absurd h.1 (by rw [hs]; decide)⟩

theorem brings_post :
    ∃ v u, Brings setByTicket (.tallyPost 0 0#16 (postArea 5 10000)) 0 v (setByTicket.chan 0).settleEnd u :=
  ⟨_, _, .post 0 0#16 (postArea 5 10000)
    { channel := 0, seq := 5#16, nSmall := 0, nMedium := 0, nLarge := 10000, temp := 50 } 0
    { profile with tallySource := .ticket } (by unfold State.Takes; decide +kernel) (by decide +kernel)
    (by decide +kernel) ⟨by decide +kernel, rfl, by decide +kernel⟩⟩

theorem brings_purge :
    ∃ v u, Brings setChan (.purgePost 0 0#16 (area [0#8, 1#8])) 0 v (settleFrom 0 profile) u :=
  ⟨_, _, .purge 0 0#16 (area [0#8, 1#8]) 0 profile (by unfold State.Takes; decide +kernel)
    (by decide +kernel) (by decide +kernel) (by decide +kernel)⟩

/-- 10000 drops of 1000 at 4096 / 4096 are 10^7, one mark of 1. -/
theorem test_frame_volume : volumeOf profile (linkContent (frame 5 10000)) = 10000000 := by decide +kernel

/-- A link frame and a posted one, each accepted. -/
theorem witness_AcceptedFramesArePublished :
    (∃ v e u, Brings setChan (.tallyFrame (frame 5 10000)) 0 v e u)
    ∧ (∀ k target a, Instr.tallyFrame (frame 5 10000) ≠ .purgePost k target a)
    ∧ (∃ v e u, Brings setByTicket (.tallyPost 0 0#16 (postArea 5 10000)) 0 v e u)
    ∧ ∀ k target a, Instr.tallyPost 0 0#16 (postArea 5 10000) ≠ .purgePost k target a := by
  refine ⟨⟨_, _, _, brings_frame setChan ?_ ?_ ?_⟩, fun _ _ _ => nofun, ?_, fun _ _ _ => nofun⟩
  · decide +kernel
  · decide +kernel
  · decide +kernel
  · obtain ⟨v, u, h⟩ := brings_post
    exact ⟨v, _, u, h⟩

/-- The ends of total at which it still moves freely, and at which it saturates. -/
theorem witness_VolumeWithoutFeedIsUnbooked :
    Brings setChan (.tallyFrame (frame 5 10000)) 0 (volumeOf profile (linkContent (frame 5 10000)))
      (setChan.chan 0).settleEnd (setChan.updChan 0 fun ch => ch.afterFrame profile (linkContent (frame 5 10000)))
    ∧ setChan.feedingBay 0 = none ∧ (setChan.chan 0).total + 10000000 < top64
    ∧ (setChan.chan 0).unbooked + 10000000 < top64
    ∧ Brings (setChan.updChan 0 fun ch => { ch with total := top64 - 9999999 }) (.tallyFrame (frame 5 10000)) 0
        (volumeOf profile (linkContent (frame 5 10000))) none
        ((setChan.updChan 0 fun ch => { ch with total := top64 - 9999999 }).updChan 0 fun ch =>
          ch.afterFrame profile (linkContent (frame 5 10000)))
    ∧ top64 < (top64 - 9999999) + 10000000 := by
  refine ⟨brings_frame _ ?_ ?_ ?_, ?_, ?_, ?_, brings_frame _ ?_ ?_ ?_, ?_⟩ <;> decide +kernel

/-- Book 31 with low_marks 30: the charge of one mark crosses low_marks and leaves the book above 0. -/
theorem witness_FeedingBayIsCharged :
    Brings (fed 31 Bay.default) (.tallyFrame (frame 5 10000)) 0 (volumeOf profile (linkContent (frame 5 10000)))
      ((fed 31 Bay.default).chan 0).settleEnd
      ((fed 31 Bay.default).updChan 0 fun ch => ch.afterFrame profile (linkContent (frame 5 10000)))
    ∧ (fed 31 Bay.default).feedingBay 0 = some 0 ∧ ((fed 31 Bay.default).bay 0).state = .feeding
    ∧ 0 < ((fed 31 Bay.default).bay 0).markSize
    ∧ 1 = (((fed 31 Bay.default).chan 0).residue + 10000000) / ((fed 31 Bay.default).bay 0).markSize
    ∧ 1 < ((fed 31 Bay.default).bay 0).book ∧ (fed 31 Bay.default).eligible (twinOf 0) = false
    ∧ ((fed 31 Bay.default).chan 0).total + 10000000 < top64
    ∧ ((fed 31 Bay.default).chan 0).charged + 1 * ((fed 31 Bay.default).bay 0).markSize ≤ top64
    ∧ ((fed 31 Bay.default).chan 0).unbooked < top64
    ∧ ((fed 31 Bay.default).chan 0).profile = some profile
    ∧ profile.lowMarks < ((fed 31 Bay.default).bay 0).book
    ∧ ((fed 31 Bay.default).bay 0).book - 1 ≤ profile.lowMarks := by
  refine ⟨brings_frame _ ?_ ?_ ?_, ?_⟩ <;> decide +kernel

/-- The record of the feeding bay's entry being written while the bay is charged. -/
theorem witness_FeedingBayIsCharged_in_flight :
    (linked.bay 0).entry = some 7#64 ∧ linked.entryOf 7#64 = some entry ∧ entry.installedBay = some 0
    ∧ (storing linked (.append 0 1 (linked.recordOf entry 1))).store.op
        = some (.append 0 1 (linked.recordOf entry 1))
    ∧ (linked.recordOf entry 1).serial = 7#64 ∧ linked.feedingBay 0 = some 0 ∧ 1 < (linked.bay 0).book
    ∧ (after (.purgePost 0 0#16 (area [0#8, 1#8]))
        (storing linked (.append 0 1 (linked.recordOf entry 1)))).store.mode ≠ .degraded := by decide +kernel

/-- `linked` with a book. -/
def linkedAt (book : Nat) : State :=
  { (fed book Bay.default).updBay 0 fun x => { x with entry := some 7#64 } with
    history := { History.default with live := [{ entry with book := book }] } }

/-- A mark charged at book 32 passes below a multiple of 16; one charged at book 33 ends on it. -/
theorem witness_FeedingBayIsCharged_due :
    (∀ book, book = 32 ∨ book = 33 →
      ((linkedAt book).bay 0).entry = some 7#64
      ∧ (linkedAt book).entryOf 7#64 = some { entry with book := book } ∧ entry.journalDue = false
      ∧ (linkedAt book).feedingBay 0 = some 0 ∧ ((linkedAt book).bay 0).state = .feeding
      ∧ 1 < ((linkedAt book).bay 0).book ∧ (linkedAt book).eligible (twinOf 0) = false
      ∧ (linkedAt book).store.mode = .normal ∧ (linkedAt book).history.fifo = []
      ∧ (linkedAt book).history.joining = []
      ∧ (after (.purgePost 0 0#16 (area [0#8, 1#8])) (linkedAt book)).store.mode ≠ .degraded)
    ∧ (32 - 1) / 16 < 32 / 16 ∧ (33 - 1) / 16 = 33 / 16 := by
  refine ⟨?_, by decide, by decide⟩
  rintro book (rfl | rfl) <;> decide +kernel

/-- Book 1: the one mark takes the whole book. -/
theorem witness_FeedingBayDrains :
    Brings (fed 1 Bay.default) (.tallyFrame (frame 5 10000)) 0 (volumeOf profile (linkContent (frame 5 10000)))
      ((fed 1 Bay.default).chan 0).settleEnd
      ((fed 1 Bay.default).updChan 0 fun ch => ch.afterFrame profile (linkContent (frame 5 10000)))
    ∧ (fed 1 Bay.default).feedingBay 0 = some 0 ∧ ((fed 1 Bay.default).bay 0).state = .feeding
    ∧ 0 < ((fed 1 Bay.default).bay 0).markSize
    ∧ 1 = (((fed 1 Bay.default).chan 0).residue + 10000000) / ((fed 1 Bay.default).bay 0).markSize
    ∧ 0 < ((fed 1 Bay.default).bay 0).book ∧ ((fed 1 Bay.default).bay 0).book ≤ 1
    ∧ (fed 1 Bay.default).eligible (twinOf 0) = false
    ∧ ((fed 1 Bay.default).chan 0).total + 10000000 < top64
    ∧ ((fed 1 Bay.default).chan 0).charged
        + ((fed 1 Bay.default).bay 0).book * ((fed 1 Bay.default).bay 0).markSize ≤ top64
    ∧ ((fed 1 Bay.default).chan 0).unbooked
        + (1 - ((fed 1 Bay.default).bay 0).book) * ((fed 1 Bay.default).bay 0).markSize < top64 := by
  refine ⟨brings_frame _ ?_ ?_ ?_, ?_⟩ <;> decide +kernel

/-- A BARRED bay 0 with a held BURN_MISMATCH flag under the latch, beside bay 1 as given. -/
def barredBay (st : FeedState) (twin : Bay) : State :=
  { (((setChan.updChan 0 fun ch => { ch with feedState := st, residue := 25000000 }).updBay 0 fun _ =>
      { genuine .barred 21 with sense := { Sense.default with held := 0b10000#5 } }).updBay 1 fun _ => twin) with
    latch := true }

/-- A CHALLENGING bay 0 with a response of its tag, a computation for it under way, beside bay 1 as given. -/
def awaiting (resp : Bytes16) (st : FeedState) (twin : Bay) : State :=
  { ((setChan.updChan 0 fun ch => { ch with feedState := st }).updBay 0 fun _ =>
      { genuine .challenging 21 with authenticated := false, tagResponse := some resp }).updBay 1 fun _ => twin with
    auth := { fifo := [], current := some ({ origin := some 0, serial := 7#64, inkType := 41, challenge := 0#128 }, false) } }

theorem barredBay_takes : (barredBay .closed Bay.default).Takes 0 := by unfold State.Takes; decide +kernel

theorem keyed_differs (v : Bytes16) : v + 1#128 ≠ v := by simp

/-- Book 1 drains beside a twin in STANDBY; book 21 comes down to switch_marks 20 beside a twin of 21; the twin takes
the marks of the residue that is left. -/
theorem witness_ChargesSwitchTheFeed :
    (∀ book, book = 1 ∨ book = 21 →
      Brings (fed book (genuine .standby 21)) (.tallyFrame (frame 5 10000)) 0
        (volumeOf profile (linkContent (frame 5 10000))) ((fed book (genuine .standby 21)).chan 0).settleEnd
        ((fed book (genuine .standby 21)).updChan 0 fun ch => ch.afterFrame profile (linkContent (frame 5 10000)))
      ∧ (fed book (genuine .standby 21)).feedingBay 0 = some 0
      ∧ ((fed book (genuine .standby 21)).bay 0).state = .feeding
      ∧ ((fed book (genuine .standby 21)).chan 0).profile = some profile
      ∧ 0 < ((fed book (genuine .standby 21)).bay 0).markSize
      ∧ 1 = (((fed book (genuine .standby 21)).chan 0).residue + 10000000)
          / ((fed book (genuine .standby 21)).bay 0).markSize
      ∧ (fed book (genuine .standby 21)).eligible (twinOf 0) = true
      ∧ (((fed book (genuine .standby 21)).chan 0).residue + 10000000)
          % ((fed book (genuine .standby 21)).bay 0).markSize
          / ((fed book (genuine .standby 21)).bay (twinOf 0)).markSize
          < ((fed book (genuine .standby 21)).bay (twinOf 0)).book
      ∧ ((fed book (genuine .standby 21)).bay 0).book = book ∧ 0 < book)
    ∧ 1 ≤ 1 ∧ (1 < 21 ∧ 21 - 1 ≤ profile.switchMarks
      ∧ profile.switchMarks < ((fed 21 (genuine .standby 21)).bay (twinOf 0)).book) := by
  refine ⟨?_, by decide, by decide +kernel⟩
  rintro book (rfl | rfl) <;> refine ⟨brings_frame _ ?_ ?_ ?_, ?_⟩ <;> decide +kernel

/-- A flag cleared that alone barred the bay: on a CLOSED channel, beside a feeding twin at switch_marks 20, and
beside one above it; 2 marks of residue against a book of 21. -/
theorem witness_ClearedBayIsTakenUp :
    (∀ x ∈ [(FeedState.closed, Bay.default), (.openB, genuine .feeding 20), (.openB, genuine .feeding 21)],
      (barredBay x.1 x.2).port.bayOrder[(0 : BayId)] = [] ∧ ((barredBay x.1 x.2).bay 0).state = .barred
      ∧ ((barredBay x.1 x.2).bay 0).sense.held &&& 0b10000#5 ≠ 0#5
      ∧ barReasonFor (barredBay x.1 x.2).latch ((barredBay x.1 x.2).profileOf 0) { (barredBay x.1 x.2).bay 0 with
          sense := { ((barredBay x.1 x.2).bay 0).sense with
            held := ((barredBay x.1 x.2).bay 0).sense.held &&& ~~~0b10000#5 } } = .none
      ∧ ((barredBay x.1 x.2).chan (chanOf 0)).residue / ((barredBay x.1 x.2).bay 0).markSize
          < ((barredBay x.1 x.2).bay 0).book)
    ∧ (barredBay .closed Bay.default).Takes 0
    ∧ (argByte (area [16#8]) 0).toNat = (0b10000#5 : HeldSet).toNat ∧ (0#16).toNat = (0 : BayId).val
    ∧ ((barredBay .closed Bay.default).feedingBay (chanOf 0) = none
      ∧ (barredBay .closed Bay.default).eligible (twinOf 0) = false)
    ∧ ((barredBay .openB (genuine .feeding 20)).feedingBay (chanOf 0) = some (twinOf 0)
      ∧ ((barredBay .openB (genuine .feeding 20)).bay (twinOf 0)).state = .feeding)
    ∧ 20 ≤ (barredBay .openB (genuine .feeding 20)).switchMarks (chanOf 0)
    ∧ ¬ 21 ≤ (barredBay .openB (genuine .feeding 21)).switchMarks (chanOf 0) := by
  refine ⟨?_, barredBay_takes, ?_⟩ <;> decide +kernel

/-- The end of an insertion with a response that is not the expected one, the latch off. -/
theorem witness_InsertedBayIsTakenUp :
    ∃ resp, resp ≠ Config.keyedResponse 7#64 41 0#128
      ∧ ((awaiting resp .closed Bay.default).bay 0).tagResponse = some resp
      ∧ (awaiting resp .closed Bay.default).auth.current.map (fun x => (x.1.origin, x.2)) = some (some 0, false)
      ∧ ((awaiting resp .closed Bay.default).bay 0).state = .challenging
      ∧ barReasonFor (awaiting resp .closed Bay.default).latch ((awaiting resp .closed Bay.default).profileOf 0)
          { (awaiting resp .closed Bay.default).bay 0 with verdict := .foreign } = .none :=
  ⟨_, keyed_differs _, rfl, rfl, rfl, rfl⟩

/-! ### Witnesses: tickets and hand words -/

/-- READY with a hand in slot 31. -/
def hand (h : Hand) : State := ready.updSlot 31 fun x => { x with hand := h }

/-- A soft reset waiting. -/
def resetting : State := ready.updPort fun p => { p with resetPending := true }

theorem ready_takes : ready.Takes 0 := by unfold State.Takes; decide +kernel

theorem setChan_takes : setChan.Takes 0 := by unfold State.Takes; decide +kernel

theorem linked_takes : linked.Takes 0 := by unfold State.Takes; decide +kernel

theorem fed_takes : (fed 30 (genuine .standby 20)).Takes 0 := by unfold State.Takes; decide +kernel

/-- Counts past 24 bits; a purge of no channel, of no marks, of an unset channel; kinds 3 and 15; a frame for an
unset channel and for one fed by the link; kinds 0 and 0x1A; codes 4 and 0. -/
theorem witness_TicketsTurnedAway :
    ready.Takes 0 ∧ setChan.Takes 0
    ∧ (postContent 0#16 (area (List.replicate 26 0xFF#8)) = none ∧ 11 < (12#16).toNat
      ∧ argNum (area []) 0 2 = 0 ∧ (0#16).toNat = (0 : ChanId).val ∧ (ready.chan 0).profile = none
      ∧ 3 ≤ (3#16).toNat ∧ (15#16).toNat ≤ 15)
    ∧ ((postContent 0#16 (postArea 5 1)).map (·.channel) = some 0
      ∧ (setChan.chan 0).profile.map (·.tallySource) = some .link)
    ∧ ((0#16).toNat = 0 ∧ 0x19 < (0x1A#16).toNat ∧ (4#8).toNat ∉ [2, 3, 5, 6, 9]
      ∧ (0#8).toNat ∉ [2, 3, 5, 6, 9]) := by
  refine ⟨ready_takes, setChan_takes, ?_⟩
  decide +kernel

theorem witness_TicketsMoveTheirSlot :
    (ticketOf (.enforce 31 0#16 (area [])) = some (31, 0x17#16, 0#16, area [])
      ∧ ticketOf (.postedReject 0 15#16 0#16 (area [])) = some (0, 15#16, 0#16, area [])
      ∧ ticketOf (.badKind 0 0#16 0#16 (area [])) = some (0, 0#16, 0#16, area []) ∧ ready.Takes 0)
    ∧ ((hand .taken).slot 31).hand = .taken ∧ ((hand .answered).slot 31).hand = .answered
    ∧ ((hand .filled).slot 31).hand = .filled
    ∧ ((resetting.slot 31).hand = .free ∧ resetting.port.resetPending = true)
    ∧ (State.reset.slot 31).hand = .free ∧ State.reset.port.resetPending = false
    ∧ State.reset.port.partState = .starting := by
  refine ⟨⟨rfl, rfl, rfl, ready_takes⟩, ?_⟩
  decide +kernel

theorem witness_HandWritesFollowTheTable :
    ((State.reset.slot 31).hand = .free ∧ State.reset.port.resetPending = false
      ∧ State.reset.port.partState = .starting)
    ∧ ((resetting.slot 31).hand = .free ∧ resetting.port.resetPending = true)
    ∧ ((hand .filled).slot 31).hand = .filled ∧ ((hand .answered).slot 31).hand = .answered
    ∧ (¬ (((hand .taken).slot 31).hand = .free ∧ 1#16 = 1#16)
      ∧ ¬ ((((hand .taken).slot 31).hand = .filled ∨ ((hand .taken).slot 31).hand = .answered) ∧ 1#16 = 0#16))
    ∧ (¬ ((ready.slot 31).hand = .free ∧ 2#16 = 1#16)
      ∧ ¬ (((ready.slot 31).hand = .filled ∨ (ready.slot 31).hand = .answered) ∧ 2#16 = 0#16)) := by
  decide +kernel

/-- The ends of each discarded range, and the first and last word of a request area. -/
theorem witness_HostWritesAreFiltered :
    (0xFFE % 2 = 0 ∧ 0xFFE < 0x1000) ∧ (0x1000 ≤ 0x1020 ∧ 32 ≤ 0x1020 % 64) ∧ (0x17FE < 0x1800 ∧ 32 ≤ 0x17FE % 64)
    ∧ (0x1800 ≤ 0x1800 ∧ 0x2004 ≤ 0x2004) ∧ (0x200C < 0x200E ∧ 0x3FFE < 0x4000)
    ∧ ((31 : SlotId).val = (0x17C0 - 0x1000) / 64 ∧ 0x17C0 % 64 = 0)
    ∧ ((31 : SlotId).val = (0x17C2 - 0x1000) / 64 ∧ 0x17C2 < 0x1800 ∧ 2 ≤ 0x17C2 % 64 ∧ 0x17C2 % 64 < 32)
    ∧ ((31 : SlotId).val = (0x17DE - 0x1000) / 64 ∧ 2 ≤ 0x17DE % 64 ∧ 0x17DE % 64 < 32)
    ∧ ((hand .taken).slot 31).hand = .taken ∧ ((hand .answered).slot 31).hand = .answered
    ∧ ((hand .free).slot 31).hand = .free ∧ ((hand .filled).slot 31).hand = .filled := by decide +kernel

/-- The four writable registers lie in the range of the statement. -/
theorem witness_HostWritesAreFiltered_registers :
    ∀ a ∈ [0x2006, 0x2008, 0x200A, 0x200C], a % 2 = 0 ∧ a < 0x4000 := by decide

/-- `linked` with the cartridge taken out of its bay but kept in the table. -/
def unlinked : State :=
  { setChan with history := { History.default with live := [{ entry with installedBay := none, owed := 5 }] } }

theorem unlinked_takes : unlinked.Takes 0 := by unfold State.Takes; decide +kernel

/-- `unlinked` with the entry's record in slot 126 of sector 8. -/
def located : State :=
  { setChan with history := { History.default with
      live := [{ entry with installedBay := none, journalLocation := some ⟨7, 126⟩, journalSeq := top32
                            useStamp := top32 }] } }

theorem located_takes : located.Takes 0 := by unfold State.Takes; decide +kernel

theorem witness_HistoryQueryAnswersTheEntry :
    ready.Takes 0 ∧ (∀ e ∈ ready.history.live, e.serial ≠ argSerial (area (beBytes 8 7)))
    ∧ (linked.Takes 0 ∧ linked.entryOf (argSerial (area (beBytes 8 7))) = some entry
      ∧ entry.installedBay = some 0 ∧ (linked.bay 0).pending < 65536 ∧ entry.inkType < 65536 ∧ entry.book < 65536)
    ∧ (unlinked.Takes 0
      ∧ unlinked.entryOf (argSerial (area (beBytes 8 7))) = some { entry with installedBay := none, owed := 5 })
    ∧ (located.Takes 0 ∧ (located.entryOf (argSerial (area (beBytes 8 7)))).map (fun e =>
        (e.journalLocation, decide (e.journalSeq ≤ top32), decide (e.useStamp ≤ top32)))
          = some (some ⟨7, 126⟩, true, true)) := by
  refine ⟨ready_takes, ?_, ⟨linked_takes, ?_⟩, ⟨unlinked_takes, ?_⟩, located_takes, ?_⟩ <;> decide +kernel

/-- An entry in no bay whose RECORD item waits behind an operation. -/
def waitingEntry : State :=
  storing { setChan with history := { History.default with
      live := [{ entry with installedBay := none, journalDue := true }], fifo := [⟨7#64, false⟩] } } (.erase 7)

theorem witness_ForgetSerialFollowsItsConditions :
    ({ ready with latch := true }.Takes 0 ∧ ({ ready with latch := true } : State).latch = true)
    ∧ (ready.Takes 0 ∧ ready.latch = false ∧ ready.entryOf (argSerial (area (beBytes 8 7))) = none)
    ∧ (linked.Takes 0 ∧ linked.latch = false ∧ linked.entryOf (argSerial (area (beBytes 8 7))) = some entry
      ∧ entry.installedBay ≠ none)
    ∧ (unlinked.Takes 0 ∧ unlinked.latch = false
      ∧ unlinked.entryOf (argSerial (area (beBytes 8 7))) = some { entry with installedBay := none, owed := 5 }
      ∧ (after (.forgetSerial 0 0#16 (area (beBytes 8 7))) unlinked).store.mode ≠ .degraded
      ∧ ({ entry with installedBay := none, owed := 5 } : Entry).journalDue = false)
    ∧ (waitingEntry.Takes 0
      ∧ waitingEntry.entryOf (argSerial (area (beBytes 8 7)))
          = some { entry with installedBay := none, journalDue := true }
      ∧ (after (.forgetSerial 0 0#16 (area (beBytes 8 7))) waitingEntry).store.mode ≠ .degraded) := by
  refine ⟨⟨ready_takes, rfl⟩, ⟨ready_takes, ?_⟩, ⟨linked_takes, ?_⟩, ⟨unlinked_takes, ?_⟩, ⟨rfl, rfl, ?_⟩, ?_⟩ <;>
    decide +kernel

/-- The latch on; the latch off beside a FOREIGN bay in STANDBY, and beside a REFILLED one that lacks the
mark. -/
theorem witness_EnforceTurnsTheLatchOn :
    ({ ready with latch := true }.Takes 0 ∧ ({ ready with latch := true } : State).latch = true)
    ∧ (fed 30 { genuine .standby 20 with verdict := .foreign }).Takes 0
    ∧ (fed 30 { genuine .standby 20 with verdict := .foreign }).latch = false
    ∧ ((fed 30 { genuine .standby 20 with verdict := .foreign }).bay 1).state.decided = true
    ∧ ((fed 30 { genuine .standby 20 with verdict := .foreign }).bay 1).state ≠ .drained
    ∧ barReasonFor true ((fed 30 { genuine .standby 20 with verdict := .foreign }).profileOf 1)
        ((fed 30 { genuine .standby 20 with verdict := .foreign }).bay 1) = .foreign
    ∧ ((fed 30 { genuine .standby 20 with verdict := .foreign }).bay 1).book ≠ 0
    ∧ ((fed 30 { genuine .standby 20 with verdict := .refilled }).bay 1).verdict = .refilled
    ∧ ((fed 30 { genuine .standby 20 with verdict := .refilled }).bay 1).authenticated = true
    ∧ ((fed 30 { genuine .standby 20 with verdict := .refilled }).bay 1).tagRefillMark = false := by
  refine ⟨⟨ready_takes, rfl⟩, ?_, ?_⟩
  · unfold State.Takes
    decide +kernel
  · decide +kernel

/-- A FOREIGN bay feeding beside a twin that stands by or is not there. -/
def feedingForeign (twin : Bay) : State := (fed 30 twin).updBay 0 fun x => { x with verdict := .foreign }

theorem witness_EnforceTurnsTheLatchOn_feed :
    (∀ twin ∈ [genuine .standby 20, Bay.default],
      (feedingForeign twin).latch = false ∧ ((feedingForeign twin).bay 0).state = .feeding
      ∧ barReasonFor true ((feedingForeign twin).profileOf 0) ((feedingForeign twin).bay 0) = .foreign
      ∧ ((feedingForeign twin).bay 0).book ≠ 0 ∧ (feedingForeign twin).feedingBay (chanOf 0) = some 0
      ∧ ((feedingForeign twin).slot 0).hand = .free)
    ∧ ({ feedingForeign (genuine .standby 20) with latch := true } : State).eligible (twinOf 0) = true
    ∧ ((feedingForeign (genuine .standby 20)).bay (twinOf 0)).state = .standby
    ∧ ((feedingForeign (genuine .standby 20)).chan (chanOf 0)).residue
        / ((feedingForeign (genuine .standby 20)).bay (twinOf 0)).markSize
        < ((feedingForeign (genuine .standby 20)).bay (twinOf 0)).book
    ∧ ({ feedingForeign Bay.default with latch := true } : State).eligible (twinOf 0) = false
    ∧ ((feedingForeign Bay.default).bay (twinOf 0)).state ≠ .feeding := by decide +kernel

/-- R37, R103: ENFORCE cuts a FOREIGN bay's feed: to the twin, or closed with reason BARRED. -/
theorem test_enforce_cuts_feed :
    let t := after (.enforce 0 0#16 (area [])) (feedingForeign (genuine .standby 20))
    let u := after (.enforce 0 0#16 (area [])) (feedingForeign Bay.default)
    t.feedingBay 0 = some 1 ∧ (t.chan 0).feedCause = .barred ∧ u.feedingBay 0 = none
    ∧ (u.chan 0).closedReason = .barred := by decide +kernel

theorem witness_ClearCountsZeroesItsCounters : ready.Takes 0 := ready_takes

/-- SET_PROFILE: no channel, settings out of range, a warning, an occupied channel whose ink changes, an EMPTY
one, an operation in flight and none. CHECK_STORE: sector 9, sector 8. -/
theorem witness_StoreTicketsFollowTheirConditions :
    ready.Takes 0 ∧ 11 < (12#16).toNat ∧ decodeProfile ((area []).toList.take 22) = none
    ∧ (0#16).toNat = (0 : ChanId).val
    ∧ decodeProfile ((area (encodeProfile profile)).toList.take 22) = some profile
    ∧ (ready.updStore fun x => { x with powerWarning := true }).store.powerWarning = true
    ∧ ready.store.powerWarning = false
    ∧ ((ready.updBay 1 fun _ => genuine .barred 20).chan 0).profile.map (·.inkType) ≠ some profile.inkType
    ∧ ((ready.updBay 1 fun _ => genuine .barred 20).bay (bayB 0)).state ≠ .empty
    ∧ (linked.chan 0).profile.map (·.inkType) = some profile.inkType
    ∧ (ready.bay (bayA 0)).state = .empty ∧ (ready.bay (bayB 0)).state = .empty
    ∧ (storing ready (.erase 0)).store.op ≠ none ∧ ready.store.op = none ∧ ready.store.tickets = []
    ∧ 8 < argNum (area [0#8, 9#8]) 0 2 ∧ argNum (area [0#8, 8#8, 0#8, 1#8]) 0 2 ≤ 8 := by
  refine ⟨ready_takes, ?_⟩
  decide +kernel

/-- A READ_TAG_BLOCK of slot 1 waiting at bay 0. -/
def waiting : State :=
  ((fed 30 Bay.default).updSlot 1 fun _ =>
    { requestSlot .taken 0x12#16 0#16 (area []) 0#16 (Vector.replicate 30 0#8) with
      copy := some { kind := 0x12#16, target := 0#16, args := area [], bay := some 0, result := none } }).setOrder 0 [1]

/-- Engine 0's queue full. -/
def crowded : State :=
  (fed 30 Bay.default).updEng 0 fun x =>
    { x with queue := List.replicate 6 (QueueEntry.mk 1 false 0 0 none) }

theorem waiting_waits : waiting.Waits 0 :=
  ⟨1, [], { kind := 0x12#16, target := 0#16, args := area [], bay := some 0, result := none }, by decide +kernel, by decide +kernel, by decide +kernel, by decide, rfl⟩

theorem waiting_takes : waiting.Takes 0 := by unfold State.Takes; decide +kernel

theorem crowded_takes : crowded.Takes 0 := by unfold State.Takes; decide +kernel

theorem witness_ReadTagBlockFollowsItsConditions :
    ready.Takes 0 ∧ 23 < (24#16).toNat ∧ (23#16).toNat = (23 : BayId).val
    ∧ (ready.port.bayOrder[(23 : BayId)] = [] ∧ 3 < (argByte (area [4#8]) 0).toNat
      ∧ (argByte (area [3#8]) 0).toNat = 3 ∧ (ready.bay 23).state = .empty)
    ∧ (waiting.Takes 0 ∧ waiting.Waits 0 ∧ (waiting.bay 0).state ≠ .empty ∧ (waiting.bay 0).state ≠ .settling
      ∧ (waiting.eng (engOf 0)).queue.length < 6)
    ∧ (crowded.Takes 0 ∧ (crowded.bay 0).state ≠ .empty ∧ (crowded.bay 0).state ≠ .settling
      ∧ 6 ≤ (crowded.eng (engOf 0)).queue.length) := by
  refine ⟨ready_takes, ?_, ?_, ?_, ⟨waiting_takes, waiting_waits, ?_⟩, crowded_takes, ?_⟩ <;> decide +kernel

/-- Bay 0 with a held REFILL_SENSE flag. -/
def holding : State :=
  (fed 30 Bay.default).updBay 0 fun x => { x with sense := { x.sense with held := 0b00100#5 } }

theorem holding_takes : holding.Takes 0 := by unfold State.Takes; decide +kernel

theorem witness_ClearHeldIsCarriedOutAtItsTurn :
    ready.Takes 0 ∧ 23 < (24#16).toNat ∧ (waiting.Takes 0 ∧ waiting.Waits 0)
    ∧ ready.port.bayOrder[(0 : BayId)] = [] ∧ argByte (area []) 0 = 0#8 ∧ 31 < (argByte (area [32#8]) 0).toNat
    ∧ ((0b00100#5 : HeldSet) ≠ 0#5 ∧ (argByte (area [4#8]) 0).toNat = (0b00100#5 : HeldSet).toNat
      ∧ (ready.bay 0).state = .empty)
    ∧ (holding.Takes 0 ∧ (holding.bay 0).state ≠ .empty ∧ holding.port.bayOrder[(0 : BayId)] = []
      ∧ (holding.bay 0).sense.held &&& 0b01000#5 = 0#5
      ∧ (argByte (area [8#8]) 0).toNat = (0b01000#5 : HeldSet).toNat) := by
  refine ⟨ready_takes, ?_, ⟨waiting_takes, waiting_waits⟩, ?_, ?_, ?_, ?_, holding_takes, ?_⟩ <;> decide +kernel

theorem witness_SwitchFeedFollowsItsConditions :
    ready.Takes 0 ∧ 11 < (12#16).toNat ∧ 1 < (argByte (area [2#8]) 0).toNat
    ∧ (0#16).toNat = (0 : ChanId).val ∧ (argByte (area []) 0 = 0#8 ∧ (0 : BayId) = bayA 0)
    ∧ (argByte (area [1#8]) 0 = 1#8 ∧ (1 : BayId) = bayB 0)
    ∧ linked.Takes 0 ∧ linked.feedingBay 0 = some 0 ∧ linked.feedingBay 0 ≠ some 1 ∧ linked.eligible 1 = false
    ∧ (fed 30 (genuine .standby 20)).Takes 0 ∧ (fed 30 (genuine .standby 20)).feedingBay 0 = some (twinOf 1)
    ∧ ((fed 30 (genuine .standby 20)).bay (twinOf 1)).state = .feeding
    ∧ (fed 30 (genuine .standby 20)).eligible 1 = true
    ∧ ((fed 30 (genuine .standby 20)).chan 0).residue < ((fed 30 (genuine .standby 20)).bay 1).markSize := by
  refine ⟨ready_takes, ?_, ?_, ?_, ?_, ?_, linked_takes, ?_, ?_, ?_, fed_takes, ?_⟩ <;> decide +kernel

/-- Bay 0 feeding at marks of 3 µL with book 30, a residue of 2 µL, and bay 1 standing by at marks of 1 µL. -/
def switching (book : Nat) : State :=
  ((fed 30 (genuine .standby book)).updBay 0 fun x => { x with identity := some { ident with markVolume := 3 } }).updChan 0
    fun ch => { ch with residue := 20000000 }

/-- The two marks of the residue drain the new bay at book 2; at book 3 they leave it below switch_marks. -/
theorem witness_SwitchFeedFollowsItsConditions_back :
    ∀ book, book = 2 ∨ book = 3 →
      (switching book).Takes 0 ∧ (switching book).feedingBay 0 = some (twinOf 1)
      ∧ ((switching book).bay (twinOf 1)).state = .feeding
      ∧ (switching book).eligible 1 = true ∧ (switching book).eligible (twinOf 1) = true
      ∧ 0 < ((switching book).bay 1).markSize
      ∧ 2 = ((switching book).chan 0).residue / ((switching book).bay 1).markSize
      ∧ ((switching book).chan 0).residue % ((switching book).bay 1).markSize
          < ((switching book).bay (twinOf 1)).markSize
      ∧ ((switching book).bay 1).book = book ∧ 3 - 2 ≤ (switching book).switchMarks 0
      ∧ (switching book).switchMarks 0 < ((switching book).bay (twinOf 1)).book := by
  rintro book (rfl | rfl) <;> refine ⟨by unfold State.Takes; decide +kernel, ?_⟩ <;> decide +kernel

/-- R102, R110, R180: switched to by a ticket and back at the conversion, the first bay's record comes back to what it
was, under a generation pair. -/
theorem test_switch_and_back_steps_bay :
    let back (book : Nat) : Bool :=
      let t := after (.switchFeed 0 0#16 (area [1#8])) (switching book)
      decide (bayContent (t.bay 0) = bayContent ((switching book).bay 0)) && decide (t.gens.bays[(0 : BayId)] = 2#16)
    back 2 = true ∧ back 3 = true := by decide +kernel

/-! ### Witnesses: self-tests -/

/-- A self-test running. -/
def testing : State := { fed 30 Bay.default with selfTest := { SelfTest.default with running := true, code := 6 } }

theorem testing_takes : testing.Takes 0 := by unfold State.Takes; decide +kernel

theorem witness_KnownAnswerSelfTestsPass : ready.Takes 0 ∧ ready.selfTest.running = false := ⟨ready_takes, rfl⟩

theorem witness_SelfTestsStartOrAreRefused :
    ready.Takes 0 ∧ ready.selfTest.running = false ∧ ready.auth.current = none ∧ ready.auth.fifo = []
    ∧ ({ ready with auth := { fifo := [], current := some (codeFiveRequest, false) } } : State).auth.current ≠ none
    ∧ (storing ready (.erase 0)).store.op ≠ none ∧ ready.store.op = none ∧ ready.store.tickets = []
    ∧ ready.store.powerWarning = false ∧ testing.Takes 0 ∧ testing.selfTest.running = true := by
  refine ⟨ready_takes, rfl, rfl, rfl, ?_, ?_, rfl, rfl, rfl, testing_takes, rfl⟩
  · simp
  · decide +kernel

theorem witness_LoopSelfTestFollowsItsConditions :
    ready.Takes 0 ∧ 23 < (24#8).toNat ∧ (23#8).toNat = (23 : BayId).val ∧ (0#8).toNat = (0 : BayId).val
    ∧ (testing.Takes 0 ∧ testing.port.bayOrder[(0 : BayId)] = [] ∧ testing.selfTest.running = true)
    ∧ (ready.port.bayOrder[(23 : BayId)] = [] ∧ ready.selfTest.running = false ∧ (ready.bay 23).state = .empty)
    ∧ (waiting.Takes 0 ∧ waiting.selfTest.running = false ∧ (waiting.bay 0).state ≠ .empty
      ∧ (waiting.bay 0).state ≠ .settling ∧ (waiting.eng (engOf 0)).queue.length < 6)
    ∧ (crowded.Takes 0 ∧ crowded.selfTest.running = false ∧ 6 ≤ (crowded.eng (engOf 0)).queue.length) := by
  refine ⟨ready_takes, ?_, ?_, ?_, ⟨testing_takes, ?_⟩, ?_, ⟨waiting_takes, ?_⟩, crowded_takes, ?_⟩ <;>
    decide +kernel

/-! ### Witnesses: resets, start-up, the power-fail warning -/

theorem witness_NoticeRegistersAndLines :
    (∀ v, Instr.pfwActive ≠ .noticeEnable v) ∧ (∀ a v, Instr.pfwActive ≠ .hostWrite a v)
    ∧ linked.port.enables = 0#8 ∧ goesOn .pfwActive linked = true :=
  ⟨(fun _ h => nomatch h), (fun _ _ h => nomatch h), by decide +kernel, by decide +kernel⟩

/-- READY, with a sector ACTIVE and with none; and the unused addresses, at the ends of their ranges. -/
theorem witness_NoticeRegistersAndLines_reads :
    ready.port.partState = .ready ∧ (∀ i : SecId, ready.store.sectors[i].state ≠ .active)
    ∧ (ready.updStore fun x => { x with sectors := updAt x.sectors 7 fun y => { y with state := .active } }).store.sectors[
        (7 : SecId)].state = .active
    ∧ (∀ i : SecId, i ≠ 7 → (ready.updStore fun x =>
        { x with sectors := updAt x.sectors 7 fun y => { y with state := .active } }).store.sectors[i].state ≠ .active)
    ∧ (0x900 < 0x1000 ∧ 0xFFF < 0x1000) ∧ (0x1800 < 0x2000 ∧ 0x1FFF < 0x2000) ∧ 0x200C < 0x200D := by
  decide +kernel

/-- Each byte of a record lies in one line of its table. -/
def covers (n : Nat) (table : List Row) : Bool :=
  (List.range n).all fun i => table.countP (fun r => decide (r.1 ≤ i ∧ i < r.1 + r.2.1)) == 1

/-- The tables of section 12.2 name each byte of their records once, 12.3 each byte of a slot. -/
theorem test_tables_cover :
    covers 256 ((29, 1, 0) :: (30, 1, 0) :: ready.headerTable) = true
    ∧ covers 32 (channelTable 0#16 Channel.default) = true ∧ covers 32 (engineTable 0#16 Engine.default 0) = true
    ∧ covers 64 (bayTable 0#16 Bay.default) = true ∧ covers 64 (bayTable 0#16 (genuine .feeding 30)) = true
    ∧ covers 64 (slotTable Slot.default) = true := by decide +kernel

/-- R211, Table 12-5: words of the record of bay 23, FEEDING and GENUINE with book 30 of 1600 marks. -/
theorem test_bay_record_words :
    let s := ready.updBay 23 fun _ => genuine .feeding 30
    s.hostRead 0x8C2 = 0x0601#16 ∧ s.hostRead 0x8C6 = 0x1300#16 ∧ s.hostRead 0x8CE = 7#16
    ∧ s.hostRead 0x8D2 = 1600#16 ∧ s.hostRead 0x8DE = 30#16 := by decide +kernel

/-- The end of each flash operation with a soft reset pending, what it programs read back or not. -/
theorem witness_ResetsClearThePart_pending :
    (∀ op, (storing resetting op).port.resetPending = true ∧ (storing resetting op).port.partState = .ready)
    ∧ (storing resetting (.append 0 1 (tombstoneRecord 9#64 1))).EndsFlash (.recordProgram none)
        ((storing resetting (.append 0 1 (tombstoneRecord 9#64 1))).flash.writeRun (slotBase 0 1)
          (tombstoneRecord 9#64 1).block.toList)
    ∧ (storing resetting (.header 7 1)).EndsFlash (.headerProgram (some (Vector.replicate 32 0#8)))
        ((storing resetting (.header 7 1)).flash.writeRun (slotBase 7 0) (Vector.replicate 32 0#8).toList)
    ∧ (storing resetting (.erase 7)).EndsFlash (.sectorErase [])
        (((storing resetting (.erase 7)).flash.erase (sectorBase (secNumber 7)) 4096).scatter
          (sectorBase (secNumber 7)) 4096 [])
    ∧ (storing resetting (.profileRewrite 2 0 profile)).EndsFlash (.profileRewrite .verified)
        ((storing resetting (.profileRewrite 2 0 profile)).rewriteResult 0 profile .verified)
    ∧ (storing resetting (.checkRead 2 0 8)).EndsFlash .checkStoreRead (storing resetting (.checkRead 2 0 8)).flash
    ∧ (storing resetting (.profileRead 2)).EndsFlash .profileSectorRead (storing resetting (.profileRead 2)).flash
    ∧ (State.reset.updPort fun p => { p with resetPending := true }).port.partState = .starting
    ∧ ready.outside.pfw = false :=
  ⟨fun _ => ⟨rfl, rfl⟩, .append _ _ _ none rfl, .header _ _ (some _) rfl, .erase _ _ rfl, .rewrite _ _ _ _ rfl,
    .check _ _ _ rfl, .profiles _ rfl, rfl, rfl⟩

/-- R169, R198: the end of an erase with a reset pending and PFW active leaves the part STARTING, the sector erased and
the warning shown under one pair of the header. -/
theorem test_pending_reset_takes_effect :
    let t := after (.sectorErase []) ({ storing resetting (.erase 7) with flash := [(0x8000, 0#8)] }.setPfw true)
    t.port.partState = .starting ∧ t.flash = [] ∧ t.store.powerWarning = true ∧ t.gens.header = 2#16 := by
  decide +kernel

theorem witness_ResetsClearThePart :
    ((2#16 : Word) ≠ 1#16 ∧ resetting.port.resetPending = true)
    ∧ (ready.port.resetPending = false ∧ ready.port.partState = .ready ∧ ready.store.op = none)
    ∧ (State.reset.port.resetPending = false ∧ State.reset.port.partState = .starting)
    ∧ ((storing ready (.erase 7)).port.resetPending = false ∧ (storing ready (.erase 7)).store.op = some (.erase 7))
    ∧ resetting.store.op = none ∧ (storing resetting (.erase 7)).store.op ≠ none := by decide +kernel

/-- `starting` with bay 23 occupied, and slot 0 of sector 0 neither good nor blank. -/
def occupied : State :=
  { starting.seat 23 cartridge with flash := [(0, 0#8)] }

/-- A SET_PROFILE of channel 11 listed in slot 3, bay 23 occupied. -/
def listedProfile : State :=
  (State.reset.seat 23 cartridge).updPort fun p =>
    { p with arrivals := [3]
             slots := updAt p.slots 3 fun x =>
               { x with hand := .filled, kind := 0x10#16, target := 11#16, args := area (encodeProfile profile) } }

theorem witness_RebuildMakesThePartReady :
    (occupied.port.partState = .starting ∧ occupied.port.resetPending = false ∧ occupied.StartsClean)
    ∧ 3 ∈ occupied.port.arrivals ∧ occupied.outside.presence[(23 : BayId)] = true
    ∧ occupied.outside.presence[(0 : BayId)] = false ∧ (occupied.flash.judge 0).code = 2#8
    ∧ (∀ c : ChanId, (starting.flash.judge c).code ≠ 2#8)
    ∧ listedProfile.port.partState = .starting ∧ listedProfile.port.resetPending = false
    ∧ listedProfile.StartsClean
    ∧ listedProfile.port.arrivals = [3] ∧ (listedProfile.slot 3).kind = 0x10#16
    ∧ (listedProfile.slot 3).target.toNat = (11 : ChanId).val
    ∧ decodeProfile ((listedProfile.slot 3).args.toList.take 22) = some profile
    ∧ listedProfile.store.powerWarning = false := by
  refine ⟨⟨?_, ?_, fun _ => ?_⟩, ?_, ?_, ?_, ?_, ?_, ?_, ?_, fun _ => ?_, ?_⟩ <;> decide +kernel

/-- The record of the tests' entry. -/
def record : JournalRecord := linked.recordOf { entry with journalDue := true } 1

/-- Bytes from an address on as cells. -/
def cellsAt : Nat → List Byte → Memory
  | _, [] => []
  | a, v :: l => (a, v) :: cellsAt (a + 1) l

/-- The tombstone of another serial. -/
def tomb : JournalRecord := tombstoneRecord 9#64 2

/-- Journal sector 1 headed with sector_seq 1, the tests' record in its slot 1, a tombstone in slot 2 and a slot that
is no record. -/
def journal : Memory :=
  cellsAt 4096 (beBytes 4 1 ++ crcBytes (beBytes 4 1)) ++ cellsAt 4128 record.block.toList
    ++ cellsAt 4160 tomb.block.toList ++ [(4192, 0#8)]

/-- STARTING over `journal`, with no ticket listed. -/
def rebuilding : State := { State.reset with flash := journal }

theorem journal_sectors : ∀ j : SecId, journal.classify j = if j = 0 then .headed 1 else .erased := by
  decide +kernel

theorem journal_records :
    (goodRecord (journal.slot (slotBase 0 1)) = some record ∧ goodRecord (journal.slot (slotBase 0 2)) = some tomb)
    ∧ ∀ slot ∈ recordSlots, slot ≠ 1 → slot ≠ 2 → goodRecord (journal.slot (slotBase 0 slot)) = none := by
  decide +kernel

theorem journal_all : journal.allRecords = [⟨record, 1, ⟨0, 1⟩⟩, ⟨tomb, 1, ⟨0, 2⟩⟩] := by
  have hh : journal.headed = [(0, 1)] := by
    unfold Memory.headed
    simp only [journal_sectors]
    decide
  have hs : recordSlots = 1 :: 2 :: (List.range 125).map (· + 3) := by decide +kernel
  have hr : ((List.range 125).map (· + 3)).filterMap (fun slot =>
      (goodRecord (journal.slot (slotBase 0 slot))).map fun r => (⟨r, 1, ⟨0, slot⟩⟩ : Found)) = [] := by
    refine List.filterMap_eq_nil_iff.mpr fun slot h => ?_
    have h1 : slot ≠ 1 ∧ slot ≠ 2 := by simp only [List.mem_map, List.mem_range] at h; omega
    rw [journal_records.2 slot (by rw [hs]; exact List.mem_cons_of_mem _ (List.mem_cons_of_mem _ h)) h1.1 h1.2]
    rfl
  rw [Memory.allRecords, hh, List.flatMap_singleton, Memory.recordsOf, hs, List.filterMap_cons, List.filterMap_cons,
    journal_records.1.1, journal_records.1.2]
  simp only [Option.map_some, hr]

theorem journal_only {j : SecId} {sec slot : Nat} {r : JournalRecord} (h : journal.Holds j sec slot r) :
    j = 0 ∧ sec = 1 ∧ (slot = 1 ∧ r = record ∨ slot = 2 ∧ r = tomb) := by
  obtain ⟨hc, h1, h2, hr⟩ := h
  rw [journal_sectors] at hc
  split at hc
  · rename_i hj
    subst hj
    refine ⟨rfl, (SectorRead.headed.inj hc).symm, ?_⟩
    by_cases hs : slot = 1
    · rw [hs, journal_records.1.1] at hr
      exact .inl ⟨hs, (Option.some.inj hr).symm⟩
    · by_cases hs2 : slot = 2
      · rw [hs2, journal_records.1.2] at hr
        exact .inr ⟨hs2, (Option.some.inj hr).symm⟩
      · have hm : slot ∈ recordSlots := List.mem_map.mpr ⟨slot - 1, List.mem_range.mpr (by omega), by omega⟩
        rw [journal_records.2 slot hm hs hs2] at hr
        exact nomatch hr
  · exact nomatch hc

/-- A record that is the only one of its serial is the one kept of it. -/
theorem journal_latest : journal.Latest 0 1 1 record ∧ journal.Latest 0 1 2 tomb := by
  have h0 : journal.classify 0 = .headed 1 := by rw [journal_sectors]; rfl
  refine ⟨⟨⟨h0, by decide, by decide, journal_records.1.1⟩, fun j sec slot r h hs => ?_⟩,
    ⟨⟨h0, by decide, by decide, journal_records.1.2⟩, fun j sec slot r h hs => ?_⟩⟩
  · obtain ⟨rfl, -, ⟨rfl, -⟩ | ⟨-, rfl⟩⟩ := journal_only h
    · exact .inl ⟨rfl, rfl⟩
    · exact absurd hs (by decide +kernel)
  · obtain ⟨rfl, -, ⟨-, rfl⟩ | ⟨rfl, -⟩⟩ := journal_only h
    · exact absurd hs (by decide +kernel)
    · exact .inl ⟨rfl, rfl⟩

theorem witness_RebuildFormsTheHistory :
    (rebuilding.port.partState = .starting ∧ rebuilding.port.arrivals = [] ∧ rebuilding.StartsClean)
    ∧ (journal.Latest 0 1 1 record ∧ record.verdict ≠ .none ∧ journal.keptAbove record.seq < 256
      ∧ ∀ f ∈ keptRecords journal.allRecords, f.record.seq = record.seq → f.record.serial = record.serial)
    ∧ (journal.Latest 0 1 2 tomb ∧ tomb.verdict = .none)
    ∧ (∀ j sec slot r, journal.Holds j sec slot r → r.seq < top32)
    ∧ ∀ j sec, journal.classify j = .headed sec → sec < top32 := by
  refine ⟨⟨rfl, rfl, fun _ => by decide +kernel⟩, ⟨journal_latest.1, by decide +kernel, ?_, ?_⟩,
    ⟨journal_latest.2, by decide⟩, fun j sec slot r h => ?_, fun j sec h => ?_⟩
  · rw [Memory.keptAbove, journal_all]
    decide +kernel
  · rw [journal_all]
    decide +kernel
  · obtain ⟨-, -, ⟨-, rfl⟩ | ⟨-, rfl⟩⟩ := journal_only h <;> decide +kernel
  · rw [journal_sectors] at h
    split at h
    · rw [← SectorRead.headed.inj h]
      decide
    · exact nomatch h

/-- A journal sector headed with the largest sector_seq. -/
theorem witness_RebuildMeetsTheLargestSequence :
    Memory.classify [(4100, 0x1D#8), (4101, 0x0F#8)] 0 = .headed top32 := by decide +kernel

/-- A rewrite waiting for slot 2 behind an erase, and a cartridge installed. -/
def rewriting : State :=
  { (linked.updSlot 2 fun x => { x with hand := .taken }).updStore fun x =>
      { x with op := some (.erase 7), tickets := [.setProfile 2 0 profile] } with latch := false }

theorem witness_PowerWarningComesAndGoes :
    (ready.setPfw true).outside.pfw = true ∧ rewriting.outside.pfw = false
    ∧ StoreTicket.setProfile 2 0 profile ∈ rewriting.store.tickets
    ∧ (StoreTicket.setProfile 2 0 profile).isRewrite = true
    ∧ (rewriting.slot (StoreTicket.setProfile 2 0 profile).slot).hand = .taken
    ∧ rewriting.history.Sound ∧ (after .pfwActive rewriting).store.mode ≠ .degraded
    ∧ (after .pfwActive rewriting).history.live.map (·.installedBay) = [some 0] := by
  refine ⟨by decide +kernel, by decide +kernel, by decide +kernel, by decide, by decide +kernel,
    witness_HistoryStaysSound.1, by decide +kernel, by decide +kernel⟩

/-! ### Witnesses: bays -/

/-- READY, with a cartridge that was pulled out earlier. -/
def pulledOut : State := ready.updOutside fun o => { o with pulled := [cartridge] }

/-- Bay 23 SETTLING with its cartridge, a sense timer at bay 0 and channel 0 settling. -/
def timed : State :=
  ((((fed 30 Bay.default).seat 23 cartridge).updBay 23 fun x =>
    { x with state := .settling, settleTimer := some 200000 }).updBay 0 fun x =>
      { x with sense := { x.sense with timer := some 30000000 } }).updChan 0 fun ch =>
        { ch with settleEnd := some 10000000 }

theorem witness_PresenceAndTimers :
    (ready.outside.presence[(0 : BayId)] = false ∧ ready.port.partState = .ready ∧ (ready.bay 0).state = .empty
      ∧ ready.seatingOf (.other cartridge) = some cartridge)
    ∧ (pulledOut.seatingOf (.pulled 0) = some cartridge ∧ pulledOut.seatingOf (.pulled 1) = none)
    ∧ (State.reset.outside.presence[(0 : BayId)] = false ∧ State.reset.port.partState = .starting)
    ∧ timed.outside.presence[(23 : BayId)] = true
    ∧ ((timed.bay 23).state = .settling ∧ (timed.bay 23).settleTimer = some 200000)
    ∧ ((timed.bay 0).sense.timer = some 30000000 ∧ (timed.eng (engOf 0)).activity = .idle)
    ∧ ((onLine timed 0 .burn (.burn 1 0#8) 0).eng (engOf 0)).activity ≠ .idle
    ∧ (ready.bay 0).sense.timer = none ∧ (timed.chan 0).settleEnd = some 10000000
    ∧ (ready.chan 0).settleEnd = none := by decide +kernel

/-- `fed` with bay 0's presence input active and a computation for it under way. -/
def seated (twin : Bay) : State :=
  { (fed 30 twin).seat 0 cartridge with
    auth := { fifo := [], current := some ({ origin := some 0, serial := 7#64, inkType := 41, challenge := 0#128 }, false) } }

theorem witness_RemovalEmptiesTheBay :
    ready.outside.presence[(0 : BayId)] = false
    ∧ ((ready.seat 0 cartridge).outside.presence[(0 : BayId)] = true ∧ ((ready.seat 0 cartridge).bay 0).state = .empty)
    ∧ ((seated Bay.default).outside.presence[(0 : BayId)] = true ∧ ((seated Bay.default).bay 0).state = .feeding
      ∧ (seated Bay.default).eligible (twinOf 0) = false)
    ∧ (seated Bay.default).auth.current.map (fun r => r.1.origin) = some (some 0)
    ∧ ((seated (genuine .standby 20)).bay 0).state = .feeding
    ∧ (seated (genuine .standby 20)).eligible (twinOf 0) = true
    ∧ (seated (genuine .standby 20)).feedingBay (chanOf 0) = some 0
    ∧ ((seated (genuine .standby 20)).chan (chanOf 0)).residue
        < ((seated (genuine .standby 20)).bay (twinOf 0)).markSize := by decide +kernel

/-- Bay 0 seated with a transaction of its own or of bay `b` on the line, a code 9 test of slot 1 in the queue, and
behind it in its order list a CLEAR_HELD of slot 2. -/
def tested (b : BayId) : State :=
  ((((onLine (seated Bay.default) b .burn (.burn 1 0#8) 0).updEng 0 fun x =>
    { x with queue := [QueueEntry.mk 1 true 0 0 none] }).updSlot 1 fun x =>
      { x with hand := .taken
               copy := some { kind := 0x18#16, target := 0#16, args := area [], bay := some 0, result := none } }).updSlot 2
    fun x =>
      { x with hand := .taken
               copy := some { kind := 0x15#16, target := 0#16, args := area [], bay := some 0, result := none } }).setOrder
    0 [1, 2]

theorem tested_work (b : BayId) : (tested b).TagWorkOf 0 (QueueEntry.mk 1 true 0 0 none) :=
  ⟨rfl, .inl (by revert b; decide +kernel)⟩

theorem witness_RemovalEndsTheWorkOfTheBay :
    (tested 0).outside.presence[(0 : BayId)] = true ∧ ((tested 0).bay 0).state ≠ .empty
    ∧ (∀ b : BayId, b = 0 ∨ b = 5 → ((tested b).eng (engOf 0)).activity
        = .attempt { bay := b, origin := .burn, command := .burn 1 0#8, attempts := 1, failureRun := 0, firstAttempt := 0 })
    ∧ (∃ q, (tested 0).TagWorkOf 0 q ∧ q.selfTest = true)
    ∧ (∀ k ∈ (tested 0).port.bayOrder[(0 : BayId)], ((tested 0).slot k).hand = .taken
        ∧ ∃ tk : Taken, ((tested 0).slot k).copy = some tk
          ∧ (tk.kind = 0x15#16 ∨ tk.result ≠ none ∨ ∃ q, (tested 0).TagWorkOf 0 q ∧ q.slot = k))
    ∧ ((tested 0).slot 1).copy.map (·.kind) ≠ some 0x15#16 := by
  have ho : (tested 0).port.bayOrder[(0 : BayId)] = [1, 2] := by decide +kernel
  have hs : ((tested 0).slot 1).hand = .taken ∧ ((tested 0).slot 2).hand = .taken
      ∧ ((tested 0).slot 1).copy
          = some { kind := 0x18#16, target := 0#16, args := area [], bay := some 0, result := none }
      ∧ ((tested 0).slot 2).copy
          = some { kind := 0x15#16, target := 0#16, args := area [], bay := some 0, result := none } := by
    decide +kernel
  refine ⟨by decide +kernel, by decide +kernel, by decide +kernel, ⟨_, tested_work 0, rfl⟩, fun k hk => ?_, ?_⟩
  · rw [ho] at hk
    simp only [List.mem_cons, List.not_mem_nil, or_false] at hk
    obtain rfl | rfl := hk
    · exact ⟨hs.1, _, hs.2.2.1, .inr (.inr ⟨_, tested_work 0, rfl⟩)⟩
    · exact ⟨hs.2.1, _, hs.2.2.2, .inl rfl⟩
  · rw [hs.2.2.1]
    decide

/-- Bay 0 CHALLENGING, with a response of its tag, and a computation under way. -/
def challenging (resp : Option Bytes16) (w : Bool) (l : List AuthRequest) : State :=
  { setChan.updBay 0 fun _ => { genuine .challenging 30 with authenticated := false, tagResponse := resp } with
    auth := { fifo := l, current := some ({ origin := some 0, serial := 7#64, inkType := 41, challenge := 0#128 }, w) } }

/-- The request of the tests' cartridge. -/
def request : AuthRequest := { origin := some 0, serial := 7#64, inkType := 41, challenge := 0#128 }

theorem witness_AuthenticationResultsReachTheirBay :
    (challenging none true []).auth.current = some (request, true)
    ∧ (challenging none true []).auth.fifo = [] ∧ (challenging none true [request]).auth.fifo = [request]
    ∧ (challenging none false []).auth.current = some (request, false) ∧ request.origin = some 0
    ∧ ((challenging none false []).bay 0).state = .challenging
    ∧ ((challenging none false []).bay 0).tagResponse = none
    ∧ (∀ resp, ((challenging (some resp) false []).bay 0).tagResponse = some resp)
    ∧ Config.keyedResponse 7#64 41 0#128 + 1#128 ≠ Config.keyedResponse request.serial request.inkType request.challenge
    ∧ Config.keyedResponse 7#64 41 0#128 = Config.keyedResponse request.serial request.inkType request.challenge := by
  refine ⟨rfl, rfl, rfl, rfl, rfl, by decide +kernel, by decide +kernel, fun _ => rfl, ?_, rfl⟩
  show Config.keyedResponse 7#64 41 0#128 + 1#128 ≠ Config.keyedResponse 7#64 41 0#128
  generalize Config.keyedResponse 7#64 41 0#128 = v
  simp

/-- A code 5 test of slot 1 under computation. -/
def fusedTest : State :=
  { (ready.updSlot 1 fun x => { x with hand := .taken }) with
    auth := { fifo := [], current := some (codeFiveRequest, false) }
    selfTest := { SelfTest.default with running := true, code := 5, slot := some 1 } }

theorem witness_CodeFiveTestEnds :
    fusedTest.auth.current = some (codeFiveRequest, false) ∧ codeFiveRequest.origin = none
    ∧ fusedTest.selfTest.slot = some 1 ∧ (fusedTest.slot 1).hand = .taken :=
  ⟨rfl, rfl, rfl, rfl⟩

/-- A BURN and a SET_FLAG that a removal cuts, and a tag that works on nothing. -/
theorem witness_RemovalCutsTheWorkOfTheTag :
    (∀ w : Option TagWork, ((ready.seat 0 cartridge).updTag 0 fun x => { x with work := w }).outside.tags[(0 : BayId)]
        = some { Tag.fresh cartridge with work := w })
    ∧ ((ready.seat 0 cartridge).updTag 0 fun x =>
        { x with work := some (.burning 2 0#8) }).outside.presence[(0 : BayId)] = true
    ∧ crcGood (Tag.fresh cartridge).cartridge.block1 = true := by
  refine ⟨fun _ => rfl, ?_, ?_⟩ <;> decide +kernel

/-- Each work a tag can have, with its cartridge in bay 0. -/
theorem witness_TagsFinishTheirWork :
    ready.outside.tags[(0 : BayId)] = none
    ∧ ∀ w : Option TagWork, (({ ready with outside := { ready.outside with
        tags := updAt ready.outside.tags 0 fun _ => some { Tag.fresh cartridge with work := w } } } : State).outside.tags[(0 : BayId)])
        = some { Tag.fresh cartridge with work := w } := ⟨by decide +kernel, fun _ => rfl⟩

/-! ### Witnesses: tag bus engines -/

/-- The transaction `onLine` puts on engine 0. -/
def trans (b : BayId) (o : Origin) (c : TagCommand) (run : Nat) : Transaction :=
  { bay := b, origin := o, command := c, attempts := run + 1, failureRun := run, firstAttempt := 0 }

/-- A READ_BLOCK 0 of bay 0 after some failures. -/
def reading (run : Nat) : State := onLine (fed 30 Bay.default) 0 .insertion (.readBlock 0) run

theorem witness_FailedAttemptsAreRetried :
    ((reading 30).eng 0).activity = .attempt (trans 0 .insertion (.readBlock 0) 30)
    ∧ (trans 0 .insertion (.readBlock 0) 30).failureRun + 1 < 32
    ∧ (reading 30).received 0 (.other { code := 0#8, payload := [], crc := 0#16 })
        = some { code := 0#8, payload := [], crc := 0#16 }
    ∧ classify (.readBlock 0) { code := 0#8, payload := [], crc := 0#16 } = .crcBad
    ∧ (reading 30).received 0 (.other (answerFrame busyCode [])) = some (answerFrame busyCode [])
    ∧ classify (.readBlock 0) (answerFrame busyCode []) = .busy
    ∧ max (reading 30).outside.now 99999 < (trans 0 .insertion (.readBlock 0) 30).firstAttempt + 100000
    ∧ (reading 30).received 0 .asSent = none
    ∧ (ready.eng 0).activity = .idle
    ∧ ((ready.updEng 0 fun x => { x with activity := .gap (trans 0 .insertion (.readBlock 0) 1) 1000 }).eng 0).activity
        = .gap (trans 0 .insertion (.readBlock 0) 1) 1000 := by decide +kernel

/-- `reading` beside an eligible twin. -/
def readingBeside (run : Nat) : State := reading run |>.updBay 1 fun _ => genuine .standby 20

theorem witness_LimitsDiscardTransactions_twin :
    ((readingBeside 31).eng 0).activity = .attempt (trans 0 .insertion (.readBlock 0) 31)
    ∧ ((readingBeside 31).bay 0).state = .feeding ∧ (readingBeside 31).eligible (twinOf 0) = true
    ∧ (readingBeside 31).feedingBay (chanOf 0) = some 0
    ∧ ((readingBeside 31).chan (chanOf 0)).residue / ((readingBeside 31).bay (twinOf 0)).markSize
        < ((readingBeside 31).bay (twinOf 0)).book := by decide +kernel

/-- R103: a feeding bay that faults passes its feed to the twin with cause FAULT. -/
theorem test_fault_passes_feed :
    let t := after (.answerWindowTimeout 0 5) (readingBeside 31)
    (t.bay 0).state = .fault ∧ t.feedingBay 0 = some 1 ∧ (t.chan 0).feedCause = .fault := by decide +kernel

/-- The 32nd failure in a row by timeout and by a bad frame, and a BUSY 100 ms after the first attempt, for a
feeding bay beside no eligible twin. -/
theorem witness_LimitsDiscardTransactions :
    ((reading 31).eng 0).activity = .attempt (trans 0 .insertion (.readBlock 0) 31)
    ∧ 31 ≤ (trans 0 .insertion (.readBlock 0) 31).failureRun
    ∧ classify (.readBlock 0) { code := 0#8, payload := [], crc := 0#16 } = .crcBad
    ∧ ((reading 0).eng 0).activity = .attempt (trans 0 .insertion (.readBlock 0) 0)
    ∧ (trans 0 .insertion (.readBlock 0) 0).firstAttempt + 100000 ≤ max (reading 0).outside.now 100000
    ∧ (reading 0).received 0 (.other (answerFrame busyCode [])) = some (answerFrame busyCode [])
    ∧ classify (.readBlock 0) (answerFrame busyCode []) = .busy
    ∧ ((reading 31).bay 0).state = .feeding ∧ (reading 31).eligible (twinOf 0) = false := by decide +kernel

/-- Engine 0 reading block 0 of bay 0 for the code 9 test of slot 1, with or without a first copy. -/
def loopReading (first : Option Block) (run : Nat) : State :=
  { onLine (((fed 30 Bay.default).updSlot 1 fun x =>
      { x with hand := .taken
               copy := some { kind := 0x18#16, target := 0#16, args := area [], bay := some 0, result := none } }).setOrder
      0 [1] |>.updEng 0 fun x => { x with queue := [QueueEntry.mk 1 true 0 0 first] }) 0 .selfTest (.readBlock 0) run with
    selfTest := { SelfTest.default with running := true, code := 9, bay := some 0, slot := some 1 } }

theorem loopReading_alone (first : Option Block) (run : Nat) : (loopReading first run).AloneAt 0 1 0x18#16 :=
  ⟨rfl, rfl, _, rfl, rfl, rfl⟩

/-- The 32nd failure of the first read of a code 9 test. -/
theorem witness_CodeNineTestIsDiscarded :
    ((loopReading none 31).eng 0).activity = .attempt (trans 0 .selfTest (.readBlock 0) 31)
    ∧ 31 ≤ (trans 0 .selfTest (.readBlock 0) 31).failureRun
    ∧ ((loopReading none 31).eng 0).queue = [QueueEntry.mk 1 true 0 0 none]
    ∧ (loopReading none 31).AloneAt 0 1 0x18#16 :=
  ⟨rfl, by decide, rfl, loopReading_alone _ _⟩

/-- A burn of 2 marks on the line, from a gauge of 30 with 5 pending. -/
def burning : State :=
  onLine ((fed 25 Bay.default).updBay 0 fun x =>
    { x with tagGauge := 30, pending := 5, burnInFlight := some ⟨2, 30⟩, burnToken := 1#8 }) 0 .burn (.burn 2 0#8) 0

theorem witness_BurnsAreConfirmed :
    (burning.eng 0).activity = .attempt (trans 0 .burn (.burn 2 0#8) 0)
    ∧ (burning.bay 0).burnInFlight = some ⟨2, 30⟩ ∧ 2 ≤ (burning.bay 0).pending ∧ 2 < (burning.bay 0).tagGauge
    ∧ (burning.bay 0).state.decided = true
    ∧ ((burning.bay 0).state = .barred → burning.eligible 0 = false)
    ∧ ((barredBay .closed Bay.default).bay 0).state = .barred ∧ (barredBay .closed Bay.default).eligible 0 = false
    ∧ (∀ f, burning.received 0 (.other f) = some f)
    ∧ classify (.burn 2 0#8) (answerFrame ackCode (0#8 :: beBytes 2 28)) = .ack (.burned (30 - 2))
    ∧ classify (.burn 2 0#8) (answerFrame ackCode (0#8 :: beBytes 2 29)) = .ack (.burned 29) ∧ 29 ≠ 30 - 2
    ∧ classify (.burn 2 0#8) (answerFrame refusedCode []) = .refused
    ∧ hasKind (burning.bay 0).sense.held .burnMismatch = false := by
  refine ⟨by decide +kernel, by decide +kernel, by decide +kernel, by decide +kernel, by decide +kernel,
    by decide +kernel, by decide +kernel, by decide +kernel, fun _ => rfl, ?_⟩
  decide +kernel

/-- The last burn of a bay that has drained: 2 marks pending of a gauge of 2, its entry linked. -/
def burningOut : State :=
  onLine (linked.updBay 0 fun x =>
    { x with state := .drained, tagGauge := 2, pending := 2, book := 0, burnInFlight := some ⟨2, 2⟩
             burnToken := 1#8 }) 0 .burn (.burn 2 0#8) 0

/-- `burning` under the latch beside an eligible twin, linked to its entry. -/
def burningLatched : State :=
  { (burning.updBay 0 fun x => { x with entry := some 7#64 }).updBay 1 fun _ => genuine .standby 20 with
    latch := true, history := { History.default with live := [{ entry with book := 25 }] } }

theorem witness_BurnsAreConfirmed_latched :
    (burningLatched.eng 0).activity = .attempt (trans 0 .burn (.burn 2 0#8) 0) ∧ burningLatched.latch = true
    ∧ (burningLatched.bay 0).state = .feeding ∧ burningLatched.eligible 0 = true
    ∧ burningLatched.eligible (twinOf 0) = true ∧ burningLatched.feedingBay (chanOf 0) = some 0
    ∧ (burningLatched.chan (chanOf 0)).residue / (burningLatched.bay (twinOf 0)).markSize
        < (burningLatched.bay (twinOf 0)).book
    ∧ (burningLatched.bay 0).entry = some 7#64 ∧ burningLatched.entryOf 7#64 = some { entry with book := 25 }
    ∧ (burningLatched.bay 0).verdict ≠ .foreign ∧ burning.eligible (twinOf 0) = false
    ∧ hasKind (burningLatched.bay 0).sense.held .burnMismatch = false := by decide +kernel

/-- R86, R129, R131: a mismatch of a burn of 2 takes a snapshot of book 25, gauge 28 and pending 3. -/
theorem test_burn_mismatch_snapshot :
    let t := after (.tagAnswerFrame 0 (.other (answerFrame ackCode (0#8 :: beBytes 2 29))) 5) burningLatched
    (t.bay 0).sense.snapshot = some { kind := .burnMismatch, book := 25, tagGauge := 28, pending := 3
                                      estimate := none, discrepancy := none }
    ∧ (t.bay 0).state = .barred ∧ t.feedingBay 0 = some 1 ∧ (t.bay 0).wants.burn = false
    ∧ (t.entryOf 7#64).map (·.seen) = some 0b100000#6 := by decide +kernel

theorem witness_LastBurnIsConfirmed :
    (burningOut.eng 0).activity = .attempt (trans 0 .burn (.burn 2 0#8) 0)
    ∧ (burningOut.bay 0).burnInFlight = some ⟨2, 2⟩ ∧ 2 ≤ (burningOut.bay 0).pending
    ∧ 2 = (burningOut.bay 0).tagGauge ∧ (burningOut.bay 0).state.decided = true
    ∧ ((burningOut.bay 0).state = .barred → burningOut.eligible 0 = false)
    ∧ classify (.burn 2 0#8) (answerFrame ackCode (0#8 :: beBytes 2 0)) = .ack (.burned (2 - 2))
    ∧ (burningOut.bay 0).entry = some 7#64 ∧ burningOut.store.mode ≠ .degraded
    ∧ hasKind (burningOut.bay 0).sense.held .burnMismatch = false ∧ 1 ≠ 2 - 2 := by decide +kernel

theorem burningOut_sound : burningOut.history.Sound := by unfold History.Sound; decide +kernel

/-- Bay 0 IDENTIFYING, its engine reading a block. -/
def identifying (n : Fin 4) : State :=
  onLine (setChan.updBay 0 fun x =>
    { x with state := .identifying, identity := if n = 0 then none else some ident
             wants := { x.wants with insertion := some (if n = 0 then .readIdentity else .readGauge) } })
    0 .insertion (.readBlock n) 0

/-- A READ_BLOCK's ACK with a block. -/
def blockFrame (n : Fin 4) (b : Block) : AnswerFrame := answerFrame ackCode (natByte n.val :: b.toList)

/-- A good block 0, a bad one, a good gauge at the capacity, and one past it. -/
theorem witness_InsertionReadsIdentifyTheCartridge :
    (∀ n, ((identifying n).eng 0).activity = .attempt (trans 0 .insertion (.readBlock n) 0)
      ∧ ((identifying n).bay 0).state = .identifying)
    ∧ (∀ n f, (identifying n).received 0 (.other f) = some f)
    ∧ classify (.readBlock 0) (blockFrame 0 block0) = .ack (.block block0) ∧ identityOf block0 = some ident
    ∧ classify (.readBlock 0) (blockFrame 0 (block1 5)) = .ack (.block (block1 5)) ∧ identityOf (block1 5) = none
    ∧ ((identifying 1).bay 0).identity = some ident
    ∧ classify (.readBlock 1) (blockFrame 1 (block1 1600)) = .ack (.block (block1 1600))
    ∧ gaugeOf ident.capacityMarks (block1 1600) = some { gauge := 1600, depleted := false, refillMark := false }
    ∧ classify (.readBlock 1) (blockFrame 1 (block1 1601)) = .ack (.block (block1 1601))
    ∧ gaugeOf ident.capacityMarks (block1 1601) = none := by
  refine ⟨by decide +kernel, fun _ _ => rfl, ?_⟩
  decide +kernel

/-- An authentication engine that is idle, and one at work with a request behind it. -/
theorem witness_InsertionReadsIdentifyTheCartridge_request :
    ((identifying 1).auth.current = none ∧ (identifying 1).auth.fifo = [])
    ∧ ({ identifying 1 with auth := { fifo := [request], current := some (request, true) } } : State).auth.current
        ≠ none := by decide +kernel

/-- Bay 0 CHALLENGING for a tag of gauge `g`, beside an entry with book 30, owed 5 and a verdict. -/
def reconciling (g : Nat) (v : Verdict) (mark : Bool) : State :=
  onLine ({ setChan.updBay 0 fun _ =>
    { genuine .challenging g with
      authenticated := false, verdict := .none, expectedResponse := some 0#128, tagRefillMark := mark } with
    history := { History.default with live := [{ entry with installedBay := none, owed := 5, verdict := v }] } })
    0 .insertion (.challenge 0#128) 0

/-- A CHALLENGE's ACK with the response 0. -/
def responseFrame : AnswerFrame := answerFrame ackCode (List.replicate 16 0#8)

/-- The last answer of an insertion at bay 0, by what the state shows of the bay and the history table. -/
theorem aboutToReconcile (s : State)
    (ha : (s.eng 0).activity = .attempt (trans 0 .insertion (.challenge 0#128) 0))
    (hb : (s.bay 0).state = .challenging ∧ (s.bay 0).gaugeKnown = true ∧ (s.bay 0).identity = some ident
      ∧ (s.bay 0).expectedResponse = some 0#128)
    (hh : (s.history.live.map (·.serial)).Nodup
      ∧ s.history.live.length + s.history.tombs.length ≤ Config.historyPlaces)
    (hr : (s.chan (chanOf 0)).residue < (s.bay 0).markSize) :
    s.AboutToReconcile 0 (.other responseFrame) 0 ident :=
  ⟨⟨_, _, _, responseFrame, ha, rfl, rfl, rfl, rfl, by decide +kernel, hb.2.2.2⟩, hb.1, hb.2.1, hb.2.2.1, hh, hr⟩

/-- The two responses of bay 0 meet at the CHALLENGE's ACK, equal and not, and at the computation's end. -/
theorem responsesMeet (s : State) (expected : Bytes16)
    (ha : (s.eng 0).activity = .attempt (trans 0 .insertion (.challenge 0#128) 0))
    (he : (s.bay 0).expectedResponse = some expected) :
    s.ResponsesMeet 0 (.tagAnswerFrame 0 (.other responseFrame) 5) (max s.outside.now 5) 0#128 expected :=
  .answered 0 5 (.other responseFrame) _ 0#128 0#128 expected responseFrame ha rfl rfl rfl rfl (by decide +kernel) he

theorem responsesMeet_computed (resp : Bytes16) :
    (awaiting resp .closed Bay.default).ResponsesMeet 0 .authComputationComplete 0 resp
      (Config.keyedResponse 7#64 41 0#128) :=
  .computed { origin := some 0, serial := 7#64, inkType := 41, challenge := 0#128 } resp rfl rfl rfl

/-- `reconciling` beside a feeding bay 1. -/
def reconcilingBeside (book : Nat) : State :=
  ((reconciling 35 .genuine false).updChan 0 fun ch => { ch with feedState := .openB }).updBay 1 fun _ =>
    genuine .feeding book

/-- A matched insertion against an entry of book 30 and owed 5, latch on: clean, on a CLOSED channel and beside a feeding
twin; one whose tag carries the mark, latch off; and one without a gauge. -/
theorem witness_ReconciledBayIsTakenUp :
    (reconciling 35 .genuine false).ReconcilesTo 0 ident 30 5
    ∧ { reconciling 35 .genuine false with latch := true }.ReconcilesClean 0 ident
    ∧ (reconciling 35 .genuine true).ReconcilesTo 0 ident 30 5 ∧ (reconciling 35 .genuine true).latch = false
    ∧ (reconciling 35 .genuine false).profileOf 0 = some profile ∧ profile.inkType = ident.inkType
    ∧ (((reconciling 35 .genuine false).bay 0).state = .challenging
      ∧ ((reconciling 35 .genuine false).bay 0).gaugeKnown = true
      ∧ ((reconciling 35 .genuine false).bay 0).identity = some ident)
    ∧ ((reconciling 35 .genuine false).chan (chanOf 0)).residue / ((reconciling 35 .genuine false).bay 0).markSize < 30
    ∧ (reconciling 35 .genuine false).feedingBay (chanOf 0) = none
    ∧ (reconciling 35 .genuine false).eligible (twinOf 0) = false
    ∧ (reconcilingBeside 20).feedingBay (chanOf 0) = some (twinOf 0)
    ∧ ((reconcilingBeside 20).bay (twinOf 0)).state = .feeding
    ∧ 20 ≤ (reconcilingBeside 20).switchMarks (chanOf 0) ∧ ¬ 21 ≤ (reconcilingBeside 21).switchMarks (chanOf 0)
    ∧ (((reconciling 35 .genuine false).updBay 0 fun x => { x with gaugeKnown := false }).bay 0).gaugeKnown = false := by
  have he : (reconciling 35 .genuine false).entryOf ident.serial
      = some { entry with installedBay := none, owed := 5 } := by decide +kernel
  have hm : (reconciling 35 .genuine true).entryOf ident.serial
      = some { entry with installedBay := none, owed := 5 } := by decide +kernel
  refine ⟨⟨?_, ?_, ?_⟩, ⟨?_, ?_, ?_, ?_⟩, ⟨?_, ?_, ?_⟩, ?_⟩
  · intro h hh _; cases he.symm.trans hh; decide +kernel
  · intro h hh hn; cases he.symm.trans hh; exact absurd rfl hn
  · intro hn; exact absurd (he.symm.trans hn) nofun
  · decide +kernel
  · decide +kernel
  · decide +kernel
  · intro h hh
    have hl : ({ reconciling 35 .genuine false with latch := true } : State).entryOf ident.serial
        = some { entry with installedBay := none, owed := 5 } := he
    cases hl.symm.trans hh; decide +kernel
  · intro h hh _; cases hm.symm.trans hh; decide +kernel
  · intro h hh hn; cases hm.symm.trans hh; exact absurd rfl hn
  · intro hn; exact absurd (hm.symm.trans hn) nofun
  · decide +kernel

/-- Bay 0 IDENTIFYING without an identity, at its READ_BLOCK 1: a gauge of 4095, one of 0 and a bad block. -/
theorem witness_InsertionWithoutIdentityEnds :
    (((identifying 1).updBay 0 fun x => { x with identity := none }).eng 0).activity
        = .attempt (trans 0 .insertion (.readBlock 1) 0)
    ∧ (((identifying 1).updBay 0 fun x => { x with identity := none }).bay 0).state = .identifying
    ∧ (((identifying 1).updBay 0 fun x => { x with identity := none }).bay 0).gaugeKnown = false
    ∧ classify (.readBlock 1) (blockFrame 1 (block1 0)) = .ack (.block (block1 0))
    ∧ (gaugeOf 4095 (block1 4095)).map (·.gauge) = some 4095 ∧ (gaugeOf 4095 (block1 0)).map (·.gauge) = some 0
    ∧ gaugeOf 4095 (block1 4096) = none := by decide +kernel

/-! ### Witnesses: what an engine grants -/

/-- Engine 0 at the READ_SENSE of bay 0, which is BARRED; bay 5 and the engine as given. -/
def granting (w : Wants) (x : Engine → Engine) : State :=
  ((onLine (setChan.updBay 0 fun _ => genuine .barred 20) 0 .sense .readSense 0).updBay 5 fun _ =>
    { genuine .standby 20 with wants := w, pending := 17, tagGauge := 37 }).updEng 0 x

/-- The same once the engine is IDLE, as it arbitrates. -/
def granted (w : Wants) (x : Engine → Engine) : State :=
  ((granting w x).atTime 5).updEng 0 fun y => { y with activity := .idle }

/-- A READ_TAG_BLOCK of bay 3 at the head of the queue. -/
def queued (passes : Nat) (x : Engine) : Engine :=
  { x with queue := [QueueEntry.mk 1 false 3 2 none], headPasses := passes }

theorem firstBay_five {s : State} (has : Bay → Prop) (hp : (s.eng 0).pointer = 5)
    (h : has (s.bay 5)) (hn : ∀ k : Fin 5, ¬ has (s.bay ⟨k.val, by omega⟩)) : s.FirstBay 0 has 5 := by
  have hs : ∀ j (_ : j ≤ 6), 1 ≤ j → s.searched 0 j = ⟨j - 1, by omega⟩ := by
    intro j hj h1
    apply Fin.ext
    show 6 * 0 + ((s.eng 0).pointer.val + j) % 6 = j - 1
    have hv : (s.eng 0).pointer.val = 5 := congrArg Fin.val hp
    omega
  refine ⟨6, by decide, by decide, (hs 6 (by decide) (by decide)).symm, h, ?_⟩
  intro j h1 h6
  rw [hs j (by omega) h1]
  exact hn ⟨j - 1, by omega⟩

/-- The ACK of a bay no longer sensed, and each of the five grants that can follow it. -/
theorem witness_EnginesGrant :
    ((granting Wants.none id).eng 0).activity = .attempt (trans 0 .sense .readSense 0)
    ∧ ((granting Wants.none id).bay 0).state.sensed = false
    ∧ classify .readSense (answerFrame ackCode [100#8, 1#8]) = .ack (.level 100#8 true)
    ∧ (granted { Wants.none with burn := true } (queued 4)).Grants 0 (.head (QueueEntry.mk 1 false 3 2 none))
    ∧ (granted { Wants.none with insertion := some .readGauge } (queued 3)).Grants 0 (.insertion 5 .readGauge)
    ∧ (granted { Wants.none with burn := true } (queued 3)).Grants 0 (.account 5)
    ∧ (granted { Wants.none with sense := true } (queued 0)).Grants 0 (.head (QueueEntry.mk 1 false 3 2 none))
    ∧ (granted { Wants.none with sense := true } id).Grants 0 (.sense 5) := by
  refine ⟨rfl, rfl, by decide +kernel, .due _ [] rfl (by decide), ?_, ?_, ?_, ?_⟩
  · refine .insertion 5 .readGauge (fun h => absurd h.2 (by decide)) (firstBay_five _ rfl ?_ ?_) rfl <;>
      unfold Bay.HasStep <;> decide +kernel
  · refine .account 5 (fun h => absurd h.2 (by decide)) ?_ (firstBay_five _ rfl ?_ ?_) <;>
      simp only [State.NoBay, Bay.HasStep, Bay.HasAccount] <;> decide +kernel
  · refine .head _ [] ?_ ?_ rfl <;> simp only [State.NoBay, Bay.HasStep, Bay.HasAccount] <;> decide +kernel
  · refine .sense 5 ?_ ?_ rfl (firstBay_five _ rfl ?_ ?_) <;>
      simp only [State.NoBay, Bay.HasStep, Bay.HasAccount, Bay.HasSense] <;> decide +kernel

/-- Gauges 29, 30, 35 and 36 against book 30 and owed 5; the three verdicts an entry can hold; the tag's mark. -/
theorem witness_ReconciliationFollowsTheGauge :
    (∀ x ∈ [(29, Verdict.genuine, false), (30, .refilled, false), (35, .foreign, false), (36, .genuine, false),
        (30, .genuine, true)],
      (reconciling x.1 x.2.1 x.2.2).AboutToReconcile 0 (.other responseFrame) 0 ident
      ∧ (reconciling x.1 x.2.1 x.2.2).entryOf ident.serial
          = some { entry with installedBay := none, owed := 5, verdict := x.2.1 }
      ∧ ((reconciling x.1 x.2.1 x.2.2).bay 0).tagGauge = x.1
      ∧ ((reconciling x.1 x.2.1 x.2.2).bay 0).tagRefillMark = x.2.2)
    ∧ 29 < 30 ∧ 30 ≤ 30 + 5 ∧ 35 ≤ 30 + 5 ∧ 30 + 5 < 36 := by
  refine ⟨fun x hx => ⟨?_, ?_⟩, by decide⟩
  · simp only [List.mem_cons, List.not_mem_nil, or_false] at hx
    obtain rfl | rfl | rfl | rfl | rfl := hx <;> apply aboutToReconcile <;> decide +kernel
  · revert x; decide +kernel

/-- 256 entries of serials 1000 and up, used in that order, all journal-due or none. -/
def fullTable (due : Bool) : History :=
  { History.default with
    live := (List.range 256).map fun k =>
      { entry with serial := BitVec.ofNat 64 (1000 + k), installedBay := none, useStamp := k + 1, journalDue := due }
    useCounter := 256 }

/-- `reconciling` with another history table. -/
def reconcilingIn (h : History) : State := { reconciling 30 .genuine false with history := h }

theorem fullTable_evicts (v w : Entry) (hv : v ∈ (fullTable false).live) (h1 : v.useStamp = 1)
    (hw : w ∈ (fullTable false).live) (hne : w ≠ v) : v.useStamp < w.useStamp := by
  simp only [fullTable, List.mem_map] at hv hw
  obtain ⟨k, -, rfl⟩ := hv
  obtain ⟨l, -, rfl⟩ := hw
  simp only at h1 ⊢
  by_contra hle
  exact hne (by rw [show l = k by omega])

/-- A serial seated elsewhere; one held for a tombstone; a free place; a full table with an entry to evict and with
none. -/
theorem witness_ReconciliationWithoutOwnEntry :
    (∀ h ∈ [{ History.default with live := [{ entry with installedBay := some 5 }] },
        { History.default with tombs := [7#64], fifo := [⟨7#64, true⟩] }, History.default,
        fullTable false, fullTable true],
      (reconcilingIn h).AboutToReconcile 0 (.other responseFrame) 0 ident)
    ∧ (reconcilingIn { History.default with live := [{ entry with installedBay := some 5 }] }).entryOf ident.serial
        = some { entry with installedBay := some 5 }
    ∧ (ident.serial ∈ [7#64]
      ∧ (reconcilingIn { History.default with tombs := [7#64], fifo := [⟨7#64, true⟩] }).entryOf ident.serial = none)
    ∧ (ident.serial ∉ History.default.tombs ∧ (reconcilingIn History.default).entryOf ident.serial = none)
    ∧ ((reconcilingIn (fullTable false)).entryOf ident.serial = none ∧ ident.serial ∉ (fullTable false).tombs
      ∧ 256 ≤ (fullTable false).live.length + (fullTable false).tombs.length
      ∧ (∃ v ∈ (fullTable false).live, v.evictable = true
        ∧ ∀ w ∈ (fullTable false).live, w.evictable = true → w ≠ v → v.useStamp < w.useStamp))
    ∧ ((reconcilingIn (fullTable true)).entryOf ident.serial = none
      ∧ (∀ v ∈ (fullTable true).live, v.evictable = false)
      ∧ 256 ≤ (fullTable true).live.length + (fullTable true).tombs.length) := by
  refine ⟨fun h hh => ?_, by decide +kernel, by decide +kernel, by decide +kernel,
    ⟨by decide +kernel, by decide +kernel, by decide +kernel, ?_⟩, by decide +kernel, by decide +kernel,
    by decide +kernel⟩
  · simp only [List.mem_cons, List.not_mem_nil, or_false] at hh
    obtain rfl | rfl | rfl | rfl | rfl := hh <;> apply aboutToReconcile <;> decide +kernel
  · have hv : { entry with serial := 1000#64, installedBay := none, useStamp := 1, journalDue := false }
        ∈ (fullTable false).live := by decide +kernel
    exact ⟨_, hv, rfl, fun w hw _ hne => fullTable_evicts _ w hv rfl hw hne⟩

/-- A sample on its way from bay 0: `w` samples are in the window, under a profile. -/
def sampling (q : Profile) (w : Nat) (settling : Bool) : State :=
  onLine (((fed 30 Bay.default).updBay 0 fun x => { x with sense := { x.sense with windowCount := w } }).updChan 0
    fun ch => { ch with profile := some q, settleEnd := if settling then some 9 else none }) 0 .sense .readSense 0

/-- A READ_SENSE's ACK. -/
def senseFrame (reading : Byte) (ok : Bool) : AnswerFrame := answerFrame ackCode [reading, boolByte ok]

/-- Bay 0 feeding beside a twin, its window one sample short with counts, under a latch; a POS sample is due. -/
def windowEnding (pos neg : Nat) (latch : Bool) (twin : Bay) : State :=
  { onLine (((fed 30 twin).updBay 0 fun x =>
      { x with entry := some 7#64
               sense := { x.sense with windowCount := 7, posCount := pos, negCount := neg } }).updChan 0
        fun ch => { ch with settleEnd := none }) 0 .sense .readSense 0 with
    latch := latch, history := { History.default with live := [entry] } }

/-- Eight samples with five POS or five NEG end a window of 8; readings 100 and 40 are POS and NEG at book 30. -/
theorem witness_FlagWritesAndSamples_checks :
    (∀ latch, ((windowEnding 4 0 latch (genuine .standby 20)).eng 0).activity
        = .attempt (trans 0 .sense .readSense 0)
      ∧ ((windowEnding 4 0 latch (genuine .standby 20)).bay 0).state.sensed = true
      ∧ ((windowEnding 4 0 latch (genuine .standby 20)).chan 0).settleEnd = none
      ∧ (windowEnding 4 0 latch (genuine .standby 20)).profileOf 0 = some profile
      ∧ ((windowEnding 4 0 latch (genuine .standby 20)).bay 0).sense.held = 0#5
      ∧ (windowEnding 4 0 latch (genuine .standby 20)).eligible 0 = true
      ∧ (windowEnding 4 0 latch (genuine .standby 20)).eligible 1 = true
      ∧ (windowEnding 4 0 latch Bay.default).eligible 1 = false)
    ∧ profile.window ≤ 7 + 1 ∧ profile.window < (4 + 1) * 2 ∧ ¬ profile.window < (3 + 1) * 2
    ∧ (profile.tolerance : Int) < (estimateOf 100 40 220 1600 : Int) - 30
    ∧ (estimateOf 40 40 220 1600 : Int) - 30 < -(profile.tolerance : Int)
    ∧ classify .readSense (senseFrame 100#8 true) = .ack (.level 100#8 true) ∧ Verdict.genuine ≠ .none
    ∧ Verdict.genuine ≠ .unread := by decide +kernel

/-- R126, R130, R131, R103: REFILL_SENSE under the latch bars the bay, takes its snapshot, raises ALERT and passes the
feed to the twin; LEAK_SENSE leaves it feeding. -/
theorem test_checks_at_window_end :
    let t := after (.tagAnswerFrame 0 (.other (senseFrame 100#8 true)) 5) (windowEnding 4 0 true (genuine .standby 20))
    let u := after (.tagAnswerFrame 0 (.other (senseFrame 40#8 true)) 5) (windowEnding 0 4 true (genuine .standby 20))
    (t.bay 0).state = .barred ∧ (t.bay 0).barReason = .held ∧ (t.bay 0).verdict = .refilled
    ∧ (t.bay 0).sense.snapshot.map (·.estimate) = some (some 533) ∧ t.notified .alert = true
    ∧ t.feedingBay 0 = some 1 ∧ (t.chan 0).feedCause = .barred ∧ (t.bay 0).wants.refillMark = true
    ∧ (u.bay 0).state = .feeding ∧ (u.bay 0).sense.held = 0b01000#5 ∧ (u.bay 0).verdict = .genuine := by
  decide +kernel

theorem witness_FlagWritesAndSamples :
    classify (.setFlag .depleted) (answerFrame ackCode [1#8]) = .ack .flagSet
    ∧ classify (.setFlag .refillMark) (answerFrame ackCode [2#8]) = .ack .flagSet
    ∧ ((onLine (fed 30 Bay.default) 0 .depletedWrite (.setFlag .depleted) 0).eng 0).activity
        = .attempt (trans 0 .depletedWrite (.setFlag .depleted) 0)
    ∧ ((onLine (fed 30 Bay.default) 0 .refillMarkWrite (.setFlag .refillMark) 0).eng 0).activity
        = .attempt (trans 0 .refillMarkWrite (.setFlag .refillMark) 0)
    ∧ classify .readSense (senseFrame 43#8 false) = .ack (.level 43#8 false)
    ∧ classify .readSense (senseFrame 43#8 true) = .ack (.level 43#8 true)
    ∧ ((onLine ready 0 .sense .readSense 0).bay 0).state.sensed = false
    ∧ (((sampling profile 0 true).eng 0).activity = .attempt (trans 0 .sense .readSense 0)
      ∧ ((sampling profile 0 true).bay 0).state.sensed = true ∧ ((sampling profile 0 true).chan 0).settleEnd ≠ none)
    ∧ (((sampling { profile with sFull := 40 } 0 false).chan 0).settleEnd = none
      ∧ (sampling { profile with sFull := 40 } 0 false).profileOf 0 = some { profile with sFull := 40 })
    ∧ ((sampling profile 6 false).profileOf 0 = some profile ∧ profile.sFull ≠ profile.sEmpty
      ∧ ((sampling profile 6 false).bay 0).sense.windowCount + 1 < profile.window
      ∧ profile.window ≤ ((sampling profile 7 false).bay 0).sense.windowCount + 1) := by decide +kernel

/-- Engine 0 reading block 3 of bay 0 for the ticket of slot 1. -/
def ticketRead (run : Nat) : State :=
  onLine (waiting.updEng 0 fun x => { x with queue := [QueueEntry.mk 1 false 0 3 none] }) 0 .ticket (.readBlock 3) run

theorem witness_TagReadsAreAnswered :
    ((ticketRead 31).eng 0).activity = .attempt (trans 0 .ticket (.readBlock 3) 31)
    ∧ ((ticketRead 31).eng 0).queue = [QueueEntry.mk 1 false 0 3 none]
    ∧ (ticketRead 31).AloneAt 0 1 0x12#16
    ∧ (ticketRead 31).received 0 (.other (blockFrame 3 (block1 5))) = some (blockFrame 3 (block1 5))
    ∧ classify (.readBlock 3) (blockFrame 3 (block1 5)) = .ack (.block (block1 5))
    ∧ (ticketRead 31).port.parked[(0 : EngId)] = [] ∧ 31 ≤ (trans 0 .ticket (.readBlock 3) 31).failureRun := by
  refine ⟨by decide +kernel, by decide +kernel, ⟨rfl, rfl, _, rfl, rfl, rfl⟩, ?_⟩
  decide +kernel

/-- The second read of a code 9 test with a CLEAR_HELD of the bay behind it: the test's end is stated, not the bays. -/
theorem witness_CodeNineReadsEnd_behind :
    ((loopReading (some block0) 0).setOrder 0 [1, 2]).port.bayOrder[(0 : BayId)] ≠ [1]
    ∧ (((loopReading (some block0) 0).setOrder 0 [1, 2]).eng 0).queue = [QueueEntry.mk 1 true 0 0 (some block0)] := by
  decide +kernel

/-- The two reads of a code 9 test, the second with an equal copy and with another. -/
theorem witness_CodeNineReadsEnd :
    (∀ first ∈ [none, some block0, some (block1 5)],
      ((loopReading first 0).eng 0).activity = .attempt (trans 0 .selfTest (.readBlock 0) 0)
      ∧ ((loopReading first 0).eng 0).queue = [QueueEntry.mk 1 true 0 0 first]
      ∧ (loopReading first 0).received 0 (.other (blockFrame 0 block0)) = some (blockFrame 0 block0)
      ∧ (loopReading first 0).AloneAt 0 1 0x18#16)
    ∧ classify (.readBlock 0) (blockFrame 0 block0) = .ack (.block block0) ∧ block1 5 ≠ block0 :=
  ⟨fun first _ => ⟨rfl, rfl, rfl, loopReading_alone _ _⟩, by decide +kernel, by decide +kernel⟩

/-! ### Witnesses: the flash -/

/-- The record of the installed entry being programmed into the last free slot but one of journal sector 1. -/
def appending : State :=
  { linked with
    history := { linked.history with
      live := [{ entry with journalDue := true }], fifo := [{ serial := 7#64, tombstone := false }] }
    store := { linked.store with
      op := some (.append 0 126 record), nextJournalSeq := 1
      sectors := updAt linked.store.sectors 0 fun _ => { state := .active, seq := some 1, nextSlot := 126 } } }

/-- The same program in the last slot of the sector, another sector erased, the entry changed since it was taken. -/
def fullAppending : State :=
  appending.updStore fun x =>
    { x with op := some (.append 0 127 record), changed := true
             sectors := updAt x.sectors 0 fun y => { y with nextSlot := 127 } }

theorem witness_RecordProgramsEnd :
    (appending.store.op = some (.append 0 126 record) ∧ appending.port.resetPending = false
      ∧ appending.port.partState = .ready ∧ appending.store.mode = .normal
      ∧ appending.history.fifo = [{ serial := 7#64, tombstone := false }] ∧ 7#64 = record.serial
      ∧ record.verdict ≠ .none ∧ appending.entryOf record.serial = some { entry with journalDue := true }
      ∧ appending.store.changed = false ∧ appending.flash.wf = true
      ∧ appending.store.nextJournalSeq < top32
      ∧ appending.store.sectors[(0 : SecId)].state = .active
      ∧ appending.store.sectors[(0 : SecId)].nextSlot < 127 ∧ appending.store.tickets = []
      ∧ appending.store.victim = none)
    ∧ (fullAppending.store.sectors[(0 : SecId)].nextSlot = 127
      ∧ fullAppending.store.sectors[(0 : SecId)].state = .active ∧ fullAppending.store.changed = true
      ∧ (after (.recordProgram none) fullAppending).store.mode ≠ .degraded)
    ∧ appending.history.Sound ∧ Vector.replicate 32 0#8 ≠ record.block ∧ appending.store.retry = none
    ∧ (appending.updStore fun x => { x with retry := some (record, 7) }).store.retry = some (record, 7) := by
  refine ⟨by decide +kernel, by decide +kernel, ?_, by decide +kernel⟩
  unfold History.Sound
  decide +kernel

/-- `appending` with the record in flight and the head item of two kinds. -/
def tombAppending (r : JournalRecord) (tombstone : Bool) : State :=
  { appending with
    history := { appending.history with tombs := [r.serial], fifo := [{ serial := r.serial, tombstone := tombstone }] }
    store := { appending.store with op := some (.append 0 126 r) } }

/-- `appending` with the journal degraded since. -/
def degradedAppending : State :=
  { appending with
    history := { appending.history with live := [entry], fifo := [] }
    store := { appending.store with mode := .degraded } }

/-- A tombstone written; a record whose item has become a tombstone and the other way round; and an append that ends
with the journal degraded. -/
theorem witness_RecordProgramsEnd_kinds :
    (∀ b, (tombAppending tomb b).store.op = some (.append 0 126 tomb) ∧ (tombAppending tomb b).store.mode = .normal
      ∧ (tombAppending tomb b).history.fifo = [{ serial := tomb.serial, tombstone := b }]
      ∧ (tombAppending tomb b).store.sectors[(0 : SecId)].nextSlot < 127
      ∧ (tombAppending record b).store.op = some (.append 0 126 record))
    ∧ tomb.verdict = .none ∧ false = decide (tomb.verdict ≠ .none) ∧ true = decide (record.verdict ≠ .none)
    ∧ (tombAppending tomb true).history.Sound ∧ (tombAppending record true).history.Sound
    ∧ degradedAppending.store.op = some (.append 0 126 record) ∧ degradedAppending.store.mode = .degraded
    ∧ degradedAppending.history.fifo = [] ∧ degradedAppending.history.joining = []
    ∧ degradedAppending.history.Sound := by
  refine ⟨by decide +kernel, by decide +kernel, by decide +kernel, by decide +kernel, ?_, ?_, by decide +kernel,
    by decide +kernel, by decide +kernel, by decide +kernel, ?_⟩ <;> unfold History.Sound <;> decide +kernel

/-- R161: a tombstone written frees its place; a RECORD item that stands for a tombstone's record stays, its place
held. -/
theorem test_tombstone_written :
    (after (.recordProgram none) (tombAppending tomb true)).history.tombs = []
    ∧ (after (.recordProgram none) (tombAppending tomb true)).history.fifo = []
    ∧ (after (.recordProgram none) (tombAppending tomb false)).history.fifo = [⟨9#64, false⟩]
    ∧ (after (.recordProgram none) (tombAppending record true)).history.fifo = [⟨7#64, true⟩] := by decide +kernel

/-- R167: an append that ends while the journal is degraded still locates its record. -/
theorem test_degraded_append_locates :
    ((after (.recordProgram none) degradedAppending).entryOf 7#64).map (·.journalLocation) = some (some ⟨0, 126⟩) := by
  decide +kernel

theorem witness_HeadersAndErasesEnd :
    ((storing ready (.header 7 1)).port.resetPending = false ∧ (storing ready (.header 7 1)).port.partState = .ready
      ∧ (storing ready (.header 7 1)).store.nextSectorSeq < top32
      ∧ (storing ready (.header 7 1)).store.op = some (.header 7 1))
    ∧ Vector.replicate 32 0#8 ≠ headerBlock 1
    ∧ (storing ready (.erase 7)).store.op = some (.erase 7)
    ∧ leftOk 4096 [(4095, 0#8)] = true ∧ [(4095, 0#8)] ≠ ([] : List (Nat × Byte))
    ∧ ((storing ready (.erase 7)).updStore fun x => { x with mode := .waiting, victim := some 7 }).store.mode = .waiting
    ∧ ((storing ready (.erase 7)).updStore fun x => { x with mode := .waiting, victim := some 7 }).store.victim = some 7
    := by decide +kernel

/-- Eight sectors, those below `full` FULL with rising sector_seq, those below `dirty` DIRTY and the others ERASED, and
an entry whose latest record lies in sector 0. -/
def worn (full dirty : Nat) (op : FlashOp) : State :=
  { storing ready op with
    history := { History.default with
      live := [{ entry with journalLocation := some ⟨0, 1⟩, installedBay := none }]
      fifo := [⟨9#64, true⟩, ⟨8#64, true⟩], tombs := [9#64, 8#64] }
    store := { (storing ready op).store with
      sectors := Vector.ofFn fun j =>
        if j.val < full then { state := .full, seq := some (j.val + 1), nextSlot := 128 }
        else if j.val < dirty then { state := .dirty, seq := none, nextSlot := 0 }
        else { state := .erased, seq := none, nextSlot := 0 } } }

/-- One FULL sector that an entry names, the others but sector 7 RETIRED, whose erase as the victim is in flight while
appends wait. -/
def wornOne : State :=
  (worn 1 1 (.erase 7)).updStore fun x =>
    { x with mode := .waiting, victim := some 7
             sectors := Vector.ofFn fun j =>
               if j.val = 0 ∨ j.val = 7 then x.sectors[j] else { state := .retired, seq := none, nextSlot := 0 } }

/-- `worn` with sector 7 ACTIVE, its last slot being written. -/
def wornAppending (full dirty : Nat) : State :=
  (worn full dirty (.append 7 127 (tombstoneRecord 9#64 1))).updStore fun x =>
    { x with nextJournalSeq := 1
             sectors := updAt x.sectors 7 fun _ => { state := .active, seq := some 9, nextSlot := 127 } }

theorem worn_sound (full dirty : Nat) (op : FlashOp) : (worn full dirty op).history.Sound := by
  show History.Sound { History.default with
      live := [{ entry with journalLocation := some ⟨0, 1⟩, installedBay := none }]
      fifo := [⟨9#64, true⟩, ⟨8#64, true⟩], tombs := [9#64, 8#64] }
  unfold History.Sound
  decide +kernel

/-- The reclaim check with 2, 3 and 1 other sectors ERASED, and with no FULL one; a failed header with and without
another ERASED sector; a failed erase that leaves 2 sectors, and one while appends wait. -/
theorem witness_HeadersAndErasesEnd_reclaim :
    ((worn 5 5 (.header 7 9)).othersIn 7 .erased = 2 ∧ (worn 4 4 (.header 7 9)).othersIn 7 .erased = 3
      ∧ (worn 6 6 (.erase 7)).othersIn 7 .erased = 1 ∧ 0 < (worn 6 6 (.erase 7)).othersIn 7 .full
      ∧ (worn 0 0 (.header 7 9)).othersIn 7 .full = 0 ∧ (worn 5 5 (.header 7 9)).store.victim = none
      ∧ (worn 5 5 (.header 7 9)).store.mode = .normal ∧ (worn 6 6 (.erase 7)).store.mode ≠ .degraded
      ∧ ((worn 6 6 (.erase 7)).updStore fun x => { x with victim := some 7 }).store.victim = some 7
      ∧ (worn 5 5 (.header 7 9)).history.fifo ≠ [])
    ∧ (worn 7 7 (.header 7 9)).NoSlotBeside 7 ∧ 0 < (worn 7 7 (.header 7 9)).othersIn 7 .full
    ∧ 7 - ((ready.updStore fun x => { x with sectors := Vector.ofFn fun j => if j.val < 5
        then { state := .retired, seq := none, nextSlot := 0 } else x.sectors[j] }).othersIn 7 .retired) = 2
    ∧ ((worn 7 7 (.erase 7)).othersIn 7 .erased = 0 ∧ (worn 7 7 (.erase 7)).othersIn 7 .dirty = 0
      ∧ (∃ e ∈ (worn 7 7 (.erase 7)).history.live, e.journalLocation.map (·.sector) = some (0 : SecId))
      ∧ (0 : SecId) ≠ 7) := by
  refine ⟨by decide +kernel, ?_, by decide +kernel, by decide +kernel, by decide +kernel⟩
  unfold State.NoSlotBeside
  decide +kernel

/-- A failed erase of the victim, two other sectors ERASED, and three; and one while appends wait with nothing left to
erase, the FULL sector's record named. -/
theorem witness_HeadersAndErasesEnd_failed :
    ((worn 5 5 (.erase 7)).othersIn 7 .erased = 2 ∧ 0 < (worn 5 5 (.erase 7)).othersIn 7 .full
      ∧ 3 ≤ 7 - (worn 5 5 (.erase 7)).othersIn 7 .retired ∧ (worn 4 4 (.erase 7)).othersIn 7 .erased = 3
      ∧ (worn 5 5 (.erase 7)).store.mode ≠ .degraded)
    ∧ (wornOne.othersIn 7 .erased = 0 ∧ wornOne.othersIn 7 .dirty = 0 ∧ 0 < wornOne.othersIn 7 .full
      ∧ wornOne.store.victim = some 7 ∧ wornOne.store.mode = .waiting
      ∧ ∀ x : SecId, x ≠ 7 → wornOne.store.sectors[x].state = .full →
          ∃ e ∈ wornOne.history.live, e.journalLocation.map (·.sector) = some x) := by
  decide +kernel

/-- R164, R165: a failed erase of the victim starts the next reclaim, and degrades the journal where that stalls. -/
theorem test_failed_victim_erase_reclaims :
    (after (.sectorErase [(0, 0#8)]) ((worn 5 5 (.erase 7)).updStore fun x => { x with victim := some 7 })).store.victim
      = some 0
    ∧ (after (.sectorErase [(0, 0#8)]) wornOne).store.mode = .degraded := by decide +kernel

/-- An installed entry that becomes due while no slot can be had and sectors 6 and 7 are DIRTY. -/
def warnedWorn : State :=
  { worn 6 8 (.erase 6) with
    history := { History.default with live := [{ entry with journalLocation := some ⟨0, 1⟩ }] } }

theorem witness_PowerWarningComesAndGoes_waiting :
    warnedWorn.outside.pfw = false ∧ warnedWorn.history.live = [{ entry with journalLocation := some ⟨0, 1⟩ }]
    ∧ entry.installedBay ≠ none ∧ entry.journalDue = false ∧ warnedWorn.history.Sound
    ∧ warnedWorn.store.mode = .normal ∧ warnedWorn.store.sectors[(6 : SecId)].state = .dirty
    ∧ warnedWorn.NoSlotBeside 6 := by
  refine ⟨by decide +kernel, by decide +kernel, by decide +kernel, by decide +kernel, ?_, by decide +kernel,
    by decide +kernel, ?_⟩
  · unfold History.Sound
    decide +kernel
  · unfold State.NoSlotBeside
    decide +kernel

/-- The last slot of the last sector, with a DIRTY sector to erase and with none. -/
theorem witness_HeadersAndErasesEnd_waiting :
    (∀ full, full = 6 ∨ full = 7 → (wornAppending full 7).store.op = some (.append 7 127 (tombstoneRecord 9#64 1))
      ∧ (wornAppending full 7).history.fifo = [⟨9#64, true⟩, ⟨8#64, true⟩] ∧ (wornAppending full 7).NoSlotBeside 7
      ∧ (wornAppending full 7).store.sectors[(7 : SecId)].state = .active
      ∧ (wornAppending full 7).store.sectors[(7 : SecId)].nextSlot = 127)
    ∧ 0 < (wornAppending 6 7).othersIn 7 .dirty ∧ (wornAppending 7 7).othersIn 7 .dirty = 0
    ∧ (wornAppending 6 7).store.victim = none ∧ (wornAppending 6 7).store.nextJournalSeq < top32
    ∧ (∃ e ∈ (wornAppending 7 7).history.live, e.serial ≠ (tombstoneRecord 9#64 1).serial
        ∧ e.journalLocation.map (·.sector) = some (0 : SecId)) := by
  refine ⟨?_, by decide +kernel⟩
  rintro full (rfl | rfl) <;> unfold State.NoSlotBeside <;> decide +kernel

/-- R163 to R165: an end of the last slot waits with the oldest sector as victim, its entry due, where a DIRTY sector is
left, and degrades the journal where none is. -/
theorem test_last_slot_waits :
    let t := after (.recordProgram none) (wornAppending 6 7)
    let u := after (.recordProgram none) (wornAppending 7 7)
    t.store.mode = .waiting ∧ t.store.victim = some 0 ∧ t.history.fifo = [⟨8#64, true⟩, ⟨7#64, false⟩]
    ∧ u.store.mode = .degraded ∧ u.history.tombs = [] := by decide +kernel

/-- R164: a sector that becomes ACTIVE with two ERASED left starts a reclaim of the oldest FULL one. -/
theorem test_header_starts_reclaim :
    (after (.headerProgram none) (worn 5 5 (.header 7 9))).store.victim = some 0
    ∧ (after (.headerProgram none) (worn 4 4 (.header 7 9))).store.victim = none := by decide +kernel

/-- The rewrite of channel 0 for slot 2, from no profile. -/
def settingUp : State :=
  storing (ready.updSlot 2 fun x => { x with hand := .taken }) (.profileRewrite 2 0 profile)

theorem witness_ProfileRewritesEnd :
    settingUp.store.op = some (.profileRewrite 2 0 profile) ∧ settingUp.port.resetPending = false
    ∧ settingUp.port.partState = .ready ∧ (settingUp.slot 2).hand = .taken
    ∧ (settingUp.bay (bayA 0)).state = .empty ∧ (settingUp.bay (bayB 0)).state = .empty
    ∧ (settingUp.chan 0).unbooked + (settingUp.chan 0).residue < top64 ∧ (settingUp.chan 0).profile = none
    ∧ ((storing (setChan.updSlot 2 fun x => { x with hand := .taken }) (.profileRewrite 2 0 profile)).chan 0).profile.map
        (·.inkType) = some profile.inkType
    ∧ ((setByTicket).chan 0).profile.map (·.tallySource) ≠ some profile.tallySource
    ∧ settingUp.rewriteVerifies 0 profile (.failed 0 [(5, 0#8)]) = false
    ∧ settingUp.rewriteVerifies 0 profile (.failed 1 []) = false
    ∧ settingUp.rewriteVerifies 0 profile (.failed 1 (cellsAt 0 (profileRecord 0 profile).toList)) = true
    ∧ (settingUp.updBay (bayB 0) fun x => { x with state := .settling }).store.op = some (.profileRewrite 2 0 profile)
    ∧ BayState.vacant .empty = true ∧ BayState.vacant .settling = true := by
  decide +kernel

/-- Channel 0 fed by bay 0, whose window holds samples, with a rewrite that changes the tolerance and one that changes
nothing of the window. -/
def retuning (p : Profile) : State :=
  storing (((fed 30 Bay.default).updBay 0 fun x =>
    { x with sense := { x.sense with windowCount := 3, posCount := 2, negCount := 1 } }).updSlot 2 fun x =>
      { x with hand := .taken }) (.profileRewrite 2 0 p)

theorem witness_ProfileRewritesEnd_windows :
    (∀ p, (retuning p).store.op = some (.profileRewrite 2 0 p)) ∧ chanOf 0 = 0 ∧ chanOf 2 ≠ 0
    ∧ ((retuning profile).slot 2).hand = .taken
    ∧ ((retuning profile).chan 0).profile.map (·.inkType) = some { profile with tolerance := 25 }.inkType
    ∧ ((retuning profile).chan 0).profile.map (fun q => (q.sEmpty, q.sFull, q.tolerance, q.window))
        ≠ some (profile.sEmpty, profile.sFull, 25, profile.window)
    ∧ ((retuning profile).chan 0).profile.map (fun q => (q.sEmpty, q.sFull, q.tolerance, q.window))
        = some (profile.sEmpty, profile.sFull, profile.tolerance, profile.window) := by
  refine ⟨fun _ => rfl, ?_⟩
  decide +kernel

/-- R116: a change of tolerance empties the window; a change of low_marks does not. -/
theorem test_rewrite_empties_window :
    ((after (.profileRewrite .verified) (retuning { profile with tolerance := 25 })).bay 0).sense.windowCount = 0
    ∧ ((after (.profileRewrite .verified) (retuning { profile with lowMarks := 31 })).bay 0).sense.windowCount = 3 := by
  decide +kernel

/-- The CHECK_STORE of slot 2 over one sector and over all; the code 6 read with a good and a damaged slot. -/
theorem witness_FlashReadsAreAnswered :
    (storing (ready.updSlot 2 fun x => { x with hand := .taken }) (.checkRead 2 0 8)).store.op
        = some (.checkRead 2 0 8)
    ∧ ((storing (ready.updSlot 2 fun x => { x with hand := .taken }) (.checkRead 2 0 8)).slot 2).hand = .taken
    ∧ (storing (ready.updSlot 2 fun x => { x with hand := .taken }) (.checkRead 2 0 8)).port.resetPending = false
    ∧ (storing (ready.updSlot 2 fun x => { x with hand := .taken }) (.checkRead 2 0 8)).port.partState = .ready
    ∧ (storing ready (.profileRead 2)).store.op = some (.profileRead 2)
    ∧ (∀ c : ChanId, (ready.flash.judge c).code ≠ 2#8)
    ∧ (Memory.judge [(0, 0#8)] 0).code = 2#8 := by decide +kernel

/-! ### Single steps -/

/-- R72, R75: a purge of 1 µL at marks of 1 µL takes one mark of the feeding bay. -/
theorem test_purge_takes_one_mark :
    ((after (.purgePost 0 0#16 (area [0#8, 1#8])) (fed 30 Bay.default)).bay 0).book = 29
    ∧ ((after (.purgePost 0 0#16 (area [0#8, 1#8])) (fed 30 Bay.default)).bay 0).pending = 1 := by decide +kernel

/-- R18: a cartridge set in an EMPTY bay leaves it SETTLING. -/
theorem test_presence_settles : ((after (.presenceActive 5 (.other cartridge)) ready).bay 5).state = .settling := by
  decide +kernel

/-- R137: a first attempt that is not answered leads to a gap of 1 ms. -/
theorem test_timeout_leads_to_gap :
    ((after (.answerWindowTimeout 0 700) (reading 0)).eng 0).activity
      = .gap { trans 0 .insertion (.readBlock 0) 0 with failureRun := 1 } 1700 := by decide +kernel

/-- R85: a confirmed burn of 2 leaves gauge 28, pending 3 and book 25. -/
theorem test_burn_confirmed :
    let x := (after (.tagAnswerFrame 0 (.other (answerFrame ackCode (0#8 :: beBytes 2 28))) 5) burning).bay 0
    x.tagGauge = 28 ∧ x.pending = 3 ∧ x.book = 25 := by decide +kernel

/-- R46, R47: a gauge of 35 against book 30 and owed 5 is wholly owed. -/
theorem test_owed_gauge :
    let x := (after (.tagAnswerFrame 0 (.other responseFrame) 5) (reconciling 35 .genuine false)).bay 0
    x.book = 30 ∧ x.pending = 5 ∧ x.verdict = .genuine := by decide +kernel

/-- R166: an erase that leaves one byte retires its sector. -/
theorem test_failed_erase_retires :
    ((after (.sectorErase [(4095, 0#8)]) (storing ready (.erase 7))).store.sectors[(7 : SecId)]).state = .retired := by
  decide +kernel

/-- R197: RESET_REQ at READY with the flash idle leaves the part STARTING. -/
theorem test_reset_request : (after (.resetReq 1#16) ready).port.partState = .starting := by decide +kernel

/-- R56: a known serial in no bay is forgotten, and its place held for a tombstone. -/
theorem test_forget_serial :
    (after (.forgetSerial 0 0#16 (area (beBytes 8 7))) unlinked).history.live = []
    ∧ (after (.forgetSerial 0 0#16 (area (beBytes 8 7))) unlinked).history.tombs = [7#64] := by decide +kernel

/-- R55: a query of a serial the table does not hold is answered NOT_FOUND, code 7. -/
theorem test_query_not_found :
    ((after (.historyQuery 0 0#16 (area (beBytes 8 7))) ready).slot 0).status = 0x0007#16 := by decide +kernel

/-- R78: an accepted frame writes its temperature and factor, here unchanged, under a generation pair of the
header. -/
theorem test_accepted_frame_steps_header :
    (after (.tallyFrame (frame 6 0)) (setChan.updChan 0 fun ch =>
      { ch with seqStarted := true, lastSeq := 5#16, lastTemp := 50, lastFactor := 4096 })).gens.header = 2#16 := by
  decide +kernel

/-- R49: an entry that has changed since the writer took it is due again once its record is written. -/
theorem test_changed_entry_is_due_again :
    (after (.recordProgram none) (appending.updStore fun x => { x with changed := true })).history.fifo
      = [⟨7#64, false⟩] := by decide +kernel

/-- R199: a listed SET_PROFILE finds its bay EMPTY at the flash, and the occupied bay settles after it. -/
theorem test_listed_profile_begins :
    let t := after .startupRebuildComplete listedProfile
    t.store.op = some (.profileRewrite 3 11 profile) ∧ (t.bay 23).state = .settling := by decide +kernel

/-- R156: an erase named as failing that leaves nothing has verified, and the rewrite goes on. -/
theorem test_rewrite_goes_by_read_back :
    ((after (.profileRewrite (.failed 0 [])) settingUp).slot 2).status = 0x0001#16
    ∧ ((after (.profileRewrite (.failed 1 (cellsAt 0 (profileRecord 0 profile).toList))) settingUp).slot 2).status
        = 0x0001#16
    ∧ ((after (.profileRewrite (.failed 1 [])) settingUp).slot 2).status = 0x000D#16 := by decide +kernel

/-- R193: CLEAR_COUNTS steps the records of its counters, here all 0, and no bay's. -/
theorem test_clear_counts_steps_records :
    let g := (after (.clearCounts 0 0#16 (area [])) ready).gens
    g.header = 2#16 ∧ g.channels[(11 : ChanId)] = 2#16 ∧ g.engines[(3 : EngId)] = 2#16
    ∧ g.bays[(0 : BayId)] = 0#16 := by decide +kernel

/-- R201: a code 2 test repeated with the same outcome shows its start and end under a generation pair. -/
theorem test_repeated_test_steps_header :
    (after (.selfTestCode2 0 0#8) { ready with selfTest :=
      { running := false, code := 2, bay := none, result := 2, failCause := .none, slot := none } }).gens.header
      = 2#16 := by decide +kernel

/-- R136, R143: a sense want granted as it is raised steps the bay's record, and the engine's. -/
theorem test_granted_sense_steps_bay :
    let g := (after (.senseTimerExpiry 0) timed).gens
    g.bays[(0 : BayId)] = 2#16 ∧ g.engines[(0 : EngId)] = 2#16 ∧ g.bays[(1 : BayId)] = 0#16 := by decide +kernel

/-- R84, R146: with a READ_SENSE set aside, a burn of 17 pending marks is granted for 16 of them, token 0. -/
theorem test_burn_granted :
    let t := after (.tagAnswerFrame 0 (.other (answerFrame ackCode [100#8, 1#8])) 5)
      (granting { Wants.none with burn := true } (queued 3))
    (t.eng 0).activity = .attempt { trans 5 .burn (.burn 16 0#8) 0 with firstAttempt := 5 }
    ∧ (t.eng 0).headPasses = 4 ∧ (t.bay 5).burnToken = 1#8 := by decide +kernel

/-- R90: the burn that empties the tag raises the DEPLETED write, which the engine grants. -/
theorem test_last_burn_writes_depleted :
    let t := after (.tagAnswerFrame 0 (.other (answerFrame ackCode (0#8 :: beBytes 2 0))) 5) burningOut
    (t.bay 0).tagGauge = 0 ∧ (t.bay 0).wants.burn = false
    ∧ (t.eng 0).activity = .attempt { trans 0 .depletedWrite (.setFlag .depleted) 0 with firstAttempt := 5 } := by
  decide +kernel

/-- R212: two link frames with stray 1 bits between them; the second is cut short by a third. -/
theorem test_link_bits :
    linkCommands Receiver.idle (lineBits (frame 5 3).toList ++ [true, false, true, true]
        ++ (lineBits (frame 6 1).toList).take 60 ++ lineBits (frame 7 0).toList)
      = [.tallyFrame (frame 5 3), .tallyFrameBroken, .tallyFrame (frame 7 0)] := by decide +kernel

/-- R212: 0xA5 on a line, most significant bit first, and the closing 0. -/
theorem test_byte_bits :
    byteBits 0xA5#8 = [true, false, true, false, false, true, false, true, false] := by decide

/-- R57: the RECORD item of a forgotten serial becomes a TOMBSTONE item in its place. -/
theorem test_forget_turns_item :
    (after (.forgetSerial 0 0#16 (area (beBytes 8 7))) waitingEntry).history.fifo = [⟨7#64, true⟩] := by
  decide +kernel

end Sys2Proof.Tests
end

section
/-! SUPPORT. The bytes of values, blocks with their CRC, and what a receiver of a line makes of any frame's bits. -/

namespace Sys2Proof.Machine

/-! ### Runs of bytes and their values (R211) -/

@[simp] theorem length_beBytes (n v : Nat) : (beBytes n v).length = n := by
  induction n with
  | zero => rfl
  | succ n ih => simp [beBytes, ih]

/-- The bytes of a value read on after `acc`. -/
theorem foldl_beBytes (n v acc : Nat) :
    (beBytes n v).foldl (fun a b => a * 256 + b.toNat) acc = acc * 256 ^ n + v % 256 ^ n := by
  induction n generalizing acc with
  | zero => simp [beBytes, Nat.mod_one]
  | succ n ih =>
    rw [beBytes, List.foldl_cons, ih, Nat.mod_pow_succ, BitVec.toNat_ofNat]
    ring

theorem ofBytes_beBytes (n v : Nat) : ofBytes (beBytes n v) = v % 256 ^ n := by
  rw [ofBytes, foldl_beBytes]; simp

/-- A run of bytes reads a value below `256 ^ length`, read on after `acc`. -/
theorem foldl_bytes_lt (l : List Byte) (acc : Nat) :
    l.foldl (fun a b => a * 256 + b.toNat) acc < (acc + 1) * 256 ^ l.length := by
  induction l generalizing acc with
  | nil => simp
  | cons b l ih =>
    have hb : acc * 256 + b.toNat + 1 ≤ (acc + 1) * 256 := by have := b.isLt; omega
    calc _ < (acc * 256 + b.toNat + 1) * 256 ^ l.length := ih _
      _ ≤ (acc + 1) * 256 * 256 ^ l.length := Nat.mul_le_mul_right _ hb
      _ = (acc + 1) * 256 ^ (b :: l).length := by rw [List.length_cons, pow_succ]; ring

theorem fieldAt_lt (l : List Byte) (k n : Nat) : fieldAt l k n < 256 ^ n :=
  calc fieldAt l k n < (0 + 1) * 256 ^ ((l.drop k).take n).length := foldl_bytes_lt _ 0
    _ ≤ 256 ^ n := by
      rw [zero_add, one_mul]
      exact Nat.pow_le_pow_right (by decide) (List.length_take_le _ _)

/-- A field that a run of bytes holds in front is the value written there. -/
theorem fieldAt_append_beBytes (l m : List Byte) (n v : Nat) :
    fieldAt (l ++ (beBytes n v ++ m)) l.length n = v % 256 ^ n := by
  rw [fieldAt, List.drop_left, List.take_left' (length_beBytes n v), ofBytes_beBytes]

/-! ### Sealed blocks (R1) -/

/-- A list of the right length is laid into its places as it is. -/
theorem toList_fitList {α : Type} (n : Nat) (d : α) (l : List α) (h : l.length = n) :
    (fitList n d l).toList = l := by
  apply List.ext_getElem
  · simp [h]
  · intro i _ hi
    simp [fitList, hi]

theorem fitList_toList {α : Type} {n : Nat} (d : α) (v : Vector α n) : fitList n d v.toList = v :=
  Vector.toList_inj.mp (toList_fitList n d _ (by simp))

@[simp] theorem length_crcBytes (l : List Byte) : (crcBytes l).length = 2 := length_beBytes ..

/-- Thirty bytes and their CRC fill a block. -/
theorem toList_sealed (content : List Byte) (h : content.length = 30) :
    (Machine.sealed content).toList = content ++ crcBytes content := by
  rw [Machine.sealed, toList_fitList 30 _ _ h, toList_fitList 32 _ _ (by simp [h])]

theorem contentOf_sealed (content : List Byte) (h : content.length = 30) :
    contentOf (Machine.sealed content) = content := by
  rw [contentOf, toList_sealed content h, List.take_left' h]

theorem crcGood_sealed (content : List Byte) (h : content.length = 30) :
    crcGood (Machine.sealed content) = true := by
  have stored : fieldAt (Machine.sealed content).toList 30 2 = (crc16 content).toNat := by
    have hf := fieldAt_append_beBytes content [] 2 (crc16 content).toNat
    rw [h, List.append_nil] at hf
    rw [toList_sealed content h, crcBytes, hf]
    exact Nat.mod_eq_of_lt (crc16 content).isLt
  rw [crcGood, contentOf_sealed content h, stored, beq_self_eq_true]

/-- Settles O6: what `sealed` stores behind the content is the CRC that `crcGood` computes again. -/
theorem sealedBlocksAreGood : Obligations.SealedBlocksAreGood :=
  fun content h => ⟨crcGood_sealed content h, contentOf_sealed content h⟩

/-! ### A frame on a line (R212) -/

/-- A frame under way holds no more than the eight data bits of one byte. -/
def Receiver.Fits (r : Receiver) : Prop := ∀ x, r.part = some x → x.bits.length ≤ 8

theorem Receiver.fits_idle : Receiver.idle.Fits := nofun

theorem Receiver.fits_hear {r : Receiver} (h : r.Fits) (whole : List Byte → Bool) (d : Bool) :
    (r.hear whole d).1.Fits := by
  obtain ⟨ones, part⟩ := r
  cases part with
  | none =>
    intro x hx
    simp only [Receiver.hear] at hx
    split at hx <;> cases hx
    exact Nat.zero_le 8
  | some y =>
    intro x hx
    simp only [Receiver.hear, PartFrame.hear] at hx
    split at hx
    · next hlt => cases hx; simpa using hlt
    · split at hx
      · cases hx
      · split at hx <;> cases hx
        exact Nat.zero_le 8

theorem Receiver.fits_hearAll {r : Receiver} (h : r.Fits) (whole : List Byte → Bool) (l : List Bool) :
    (r.hearAll whole l).1.Fits := by
  induction l generalizing r with
  | nil => exact h
  | cons d l ih => exact ih (Receiver.fits_hear h whole d)

/-- 1 bits inside a frame fill up the byte under way and break the frame at its closing bit. -/
theorem hearAll_ones_breaks (whole : List Byte → Bool) (j k : Nat) (x : PartFrame) (h : x.bits.length + j = 8) :
    Receiver.hearAll { ones := k, part := some x } whole (List.replicate (j + 1) true)
      = ({ ones := min 16 (k + j + 1), part := none }, [.broken]) := by
  induction j generalizing k x with
  | zero => simp_all [Receiver.hearAll, Receiver.hear, PartFrame.hear]
  | succ j ih =>
    have hlt : x.bits.length < 8 := by omega
    rw [List.replicate_succ, Receiver.hearAll]
    simp only [Receiver.hear, PartFrame.hear, if_pos hlt, if_true]
    rw [ih _ _ (by simp; omega)]
    simp
    omega

/-- The start pattern opens a frame, whatever stood before it; a frame under way is broken by it. -/
theorem hearAll_startPattern_of_fits (whole : List Byte → Bool) (r : Receiver) (h : r.Fits) :
    (r.hearAll whole startPattern).1 = { ones := 0, part := some { bytes := [], bits := [] } }
      ∧ (r.hearAll whole startPattern).2.findSome? answerEvent = none := by
  obtain ⟨k, part⟩ := r
  cases part with
  | none => simp [hearAll_startPattern]
  | some x =>
    obtain ⟨j, hj⟩ : ∃ j, x.bits.length + j = 8 := ⟨8 - x.bits.length, by have := h x rfl; omega⟩
    have split : startPattern = List.replicate (j + 1) true ++ (List.replicate (14 - j + 1) true ++ [false]) := by
      rw [startPattern, ← List.append_assoc, List.replicate_append_replicate]
      congr 2; omega
    have full : min 16 (min 16 (k + j + 1) + (14 - j) + 1) = 16 := by omega
    rw [split, hearAll_append, hearAll_ones_breaks whole j k x hj, hearAll_append, hearAll_ones, full]
    simp [Receiver.hearAll, Receiver.hear, answerEvent]

/-- Bytes that leave a frame incomplete are taken up one after the other. -/
theorem hearAll_bytes (whole : List Byte → Bool) (l m : List Byte)
    (h : ∀ p, p <+: l ++ m → whole p = false) :
    Receiver.hearAll { ones := 0, part := some { bytes := l, bits := [] } } whole (m.flatMap byteBits)
      = ({ ones := 0, part := some { bytes := l ++ m, bits := [] } }, []) := by
  induction m generalizing l with
  | nil => simp [Receiver.hearAll]
  | cons b m ih =>
    have hb : whole (l ++ [b]) = false := h _ ⟨m, by simp⟩
    rw [List.flatMap_cons, hearAll_append, hearAll_byteBits, hb]
    simp [ih (l ++ [b]) (by simpa using h)]

/-- The data bits of a byte inside a frame wait for its closing bit. -/
theorem hearAll_dataBits (whole : List Byte → Bool) (k : Nat) (l : List Byte) (b : Byte) :
    ∃ k', Receiver.hearAll { ones := k, part := some { bytes := l, bits := [] } } whole (dataBits b)
      = ({ ones := k', part := some { bytes := l, bits := dataBits b } }, []) := by
  simp [dataBits, Receiver.hearAll, Receiver.hear, PartFrame.hear]

/-- The last bit of a frame: a 0 makes it complete where its bytes are, a 1 breaks it. -/
theorem hear_closingBit (whole : List Byte → Bool) (k : Nat) (l : List Byte) (b : Byte) (d : Bool)
    (h : whole (l ++ [b]) = true) :
    (Receiver.hear { ones := k, part := some { bytes := l, bits := dataBits b } } whole d).2
      = some (if d then .broken else .frame (l ++ [b])) := by
  have hlen : ¬ (dataBits b).length < 8 := by simp [dataBits]
  cases d <;> simp [Receiver.hear, PartFrame.hear, hlen, h]

end Sys2Proof.Machine
end

section
/-! SUPPORT. Answer frames on a tag line, what a tag's frames are classified as, and what a ready tag does at each
command. -/

namespace Sys2Proof.Machine

/-! ### Answer frames on a tag line (R14, R212) -/

/-- A line's frame but for its last bit: the receiver waits for the closing bit of the last byte. -/
theorem hearAll_frame_but_last (whole : List Byte → Bool) (r : Receiver) (hr : r.Fits) (l : List Byte) (b : Byte)
    (h : ∀ p, p <+: l → whole p = false) :
    (∃ k, (r.hearAll whole (startPattern ++ (l.flatMap byteBits ++ dataBits b))).1
      = { ones := k, part := some { bytes := l, bits := dataBits b } })
      ∧ (r.hearAll whole (startPattern ++ (l.flatMap byteBits ++ dataBits b))).2.findSome? answerEvent = none := by
  obtain ⟨opened, quiet⟩ := hearAll_startPattern_of_fits whole r hr
  obtain ⟨k, hk⟩ := hearAll_dataBits whole 0 l b
  rw [hearAll_append, opened, hearAll_append, hearAll_bytes whole [] l h, List.nil_append, hk]
  exact ⟨⟨k, rfl⟩, by simp [quiet]⟩

theorem length_answerBytes (f : AnswerFrame) : (answerBytes f).length = f.payload.length + 4 := by
  simp [answerBytes, coveredBytes]

/-- The bytes of an answer frame are complete with the last of them, and not before. -/
theorem answerWhole_take (f : AnswerFrame) (h : f.payload.length ≤ 255) (k : Nat) :
    answerWhole ((answerBytes f).take k) = decide (f.payload.length + 4 ≤ k) := by
  match k with
  | 0 | 1 => simp [answerBytes, coveredBytes, answerWhole]
  | k + 2 =>
    have hn : f.payload.length % 256 = f.payload.length := Nat.mod_eq_of_lt (by omega)
    simp only [answerBytes, coveredBytes, List.cons_append, List.take_succ_cons, answerWhole, List.length_take,
      List.length_append, length_beBytes, BitVec.toNat_ofNat, Nat.reducePow, hn]
    rw [Bool.eq_iff_iff, beq_iff_eq, decide_eq_true_iff]
    omega

/-- An answer frame's bytes spell the frame. -/
theorem answerOfBytes_answerBytes (f : AnswerFrame) (h : f.payload.length ≤ 255) :
    answerOfBytes (answerBytes f) = f := by
  have hn : (byteAt (answerBytes f) 1).toNat = f.payload.length := by
    simp [answerBytes, coveredBytes, byteAt]; omega
  have hcrc : fieldAt (answerBytes f) (f.payload.length + 2) 2 = f.crc.toNat := by
    have hf := fieldAt_append_beBytes (coveredBytes f) [] 2 f.crc.toNat
    rw [List.append_nil] at hf
    exact hf.trans (Nat.mod_eq_of_lt f.crc.isLt)
  rw [answerOfBytes, hn, hcrc]
  simp [answerBytes, coveredBytes, byteAt]

/-- The bits of an answer frame: everything before its closing bit leaves no complete frame, the closing 0 completes
it, and a 1 in its place breaks it. -/
theorem hearAll_answerBits (f : AnswerFrame) (hf : f.payload.length ≤ 255) (r : Receiver) (hr : r.Fits) :
    (r.hearAll answerWhole (answerBits f).dropLast).2.findSome? answerEvent = none
      ∧ answerBits f = (answerBits f).dropLast ++ [false]
      ∧ ∀ d, (r.hearAll answerWhole ((answerBits f).dropLast ++ [d])).2.findSome? answerEvent
          = if d then none else some f := by
  obtain ⟨l, b, hlb⟩ : ∃ l b, answerBytes f = l ++ [b] :=
    ⟨_, _, (List.dropLast_append_getLast fun h => by simpa [h] using length_answerBytes f).symm⟩
  have hlen : l.length = f.payload.length + 3 := by
    have := length_answerBytes f; rw [hlb, List.length_append, List.length_singleton] at this; omega
  have early : ∀ p, p <+: l → answerWhole p = false := by
    intro p hp
    have htake : p = (answerBytes f).take p.length :=
      List.prefix_iff_eq_take.mp (hp.trans (hlb ▸ List.prefix_append l [b]))
    rw [htake, answerWhole_take f hf, decide_eq_false_iff_not]
    have := hp.length_le; omega
  have last : answerWhole (l ++ [b]) = true := by
    have hw := answerWhole_take f hf (f.payload.length + 4)
    rwa [List.take_of_length_le (length_answerBytes f).le, decide_eq_true le_rfl, hlb] at hw
  have bits : answerBits f = startPattern ++ (l.flatMap byteBits ++ dataBits b) ++ [false] := by
    simp [answerBits, lineBits, hlb, byteBits]
  have lead : (answerBits f).dropLast = startPattern ++ (l.flatMap byteBits ++ dataBits b) := by
    rw [bits, List.dropLast_concat]
  obtain ⟨⟨k, hk⟩, quiet⟩ := hearAll_frame_but_last answerWhole r hr l b early
  rw [lead]
  refine ⟨quiet, bits, fun d => ?_⟩
  rw [hearAll_append, hk]
  simp only [Receiver.hearAll, hear_closingBit answerWhole k l b d last, List.findSome?_append, quiet]
  cases d
  · simp [answerEvent, ← hlb, answerOfBytes_answerBytes f hf]
  · simp [answerEvent]

/-- An answer frame is heard behind any bits in which no frame is complete. -/
theorem answerHeard_append (l : List Bool) (hl : answerHeard l = none) (f : AnswerFrame)
    (hf : f.payload.length ≤ 255) : answerHeard (l ++ answerBits f) = some f := by
  have fits := Receiver.fits_hearAll Receiver.fits_idle answerWhole l
  obtain ⟨-, bits, closing⟩ := hearAll_answerBits f hf _ fits
  rw [answerHeard] at hl ⊢
  rw [hearAll_append, List.findSome?_append, hl, bits]
  exact closing false

theorem answerHeard_answerBits (f : AnswerFrame) (hf : f.payload.length ≤ 255) :
    answerHeard (answerBits f) = some f := answerHeard_append [] rfl f hf

/-- Without its last bit no frame is complete. -/
theorem answerHeard_take (f : AnswerFrame) (hf : f.payload.length ≤ 255) (n : Nat)
    (hn : n < (answerBits f).length) :
    answerHeard ((answerBits f).take n) = none := by
  obtain ⟨quiet, -, -⟩ := hearAll_answerBits f hf _ Receiver.fits_idle
  have cut : (answerBits f).take n ++ (answerBits f).dropLast.drop n = (answerBits f).dropLast := by
    conv => rhs; rw [← List.take_append_drop n (answerBits f).dropLast]
    rw [List.dropLast_eq_take, List.take_take, min_eq_left (by omega)]
  rw [← cut, hearAll_append, List.findSome?_append, Option.or_eq_none_iff] at quiet
  exact quiet.1

theorem answerHeard_broken (f : AnswerFrame) (hf : f.payload.length ≤ 255) :
    answerHeard ((answerBits f).dropLast ++ [true]) = none :=
  (hearAll_answerBits f hf _ Receiver.fits_idle).2.2 true

/-! ### The classification of a tag's frames (R14) -/

@[simp] theorem Tag.ackBurn_reply (t : Tag) (token : Byte) (g : Nat) :
    (t.ackBurn token g).reply = some (answerFrame ackCode (token :: beBytes 2 g)) := rfl
@[simp] theorem Tag.ack_gauge (t : Tag) (l : List Byte) : (t.ack l).gauge = t.gauge := rfl
@[simp] theorem Tag.ack_hasFlag (t : Tag) (l : List Byte) (f : TagFlag) : (t.ack l).hasFlag f = t.hasFlag f := rfl
@[simp] theorem Tag.ackBurn_gauge (t : Tag) (token : Byte) (g : Nat) : (t.ackBurn token g).gauge = t.gauge := rfl
@[simp] theorem Tag.ackBurn_burnMemory (t : Tag) (token : Byte) (g : Nat) :
    (t.ackBurn token g).burnMemory = t.burnMemory := rfl

/-- An ACK is classified by its payload alone: its CRC is right. -/
theorem classify_ack {c : TagCommand} {l : List Byte} {p : Payload} (h : ackPayload c l = some p) :
    classify c (answerFrame ackCode l) = .ack p := by
  simp [classify, answerFrame, coveredBytes, h, ackCode, busyCode, refusedCode]

@[simp] theorem classify_busy (c : TagCommand) : classify c (answerFrame busyCode []) = .busy := by
  simp [classify, answerFrame, coveredBytes]

@[simp] theorem classify_refused (n : Nat) (token : Byte) :
    classify (.burn n token) (answerFrame refusedCode []) = .refused := by
  simp [classify, answerFrame, coveredBytes, TagCommand.mayRefuse, refusedCode, busyCode]

@[simp] theorem classify_ack_block (b : Fin 4) (blk : Block) :
    classify (.readBlock b) (answerFrame ackCode (natByte b.val :: blk.toList)) = .ack (.block blk) := by
  apply classify_ack
  have hb : b.val % 256 = b.val := by omega
  simp [ackPayload, byteAt, natByte, hb, fitList_toList]

@[simp] theorem classify_ack_response (c r : Bytes16) :
    classify (.challenge c) (answerFrame ackCode (beBytes 16 r.toNat)) = .ack (.response r) := by
  apply classify_ack
  have hr : r.toNat % 256 ^ 16 = r.toNat := Nat.mod_eq_of_lt r.isLt
  rw [ackPayload, if_pos (length_beBytes 16 _), ofBytes_beBytes, hr, BitVec.ofNat_toNat, BitVec.setWidth_eq]

theorem classify_ack_burned (n : Nat) (token : Byte) {g : Nat} (h : g < 65536) :
    classify (.burn n token) (answerFrame ackCode (token :: beBytes 2 g)) = .ack (.burned g) := by
  apply classify_ack
  have hg : fieldAt (token :: beBytes 2 g) 1 2 = g := by
    have hf := fieldAt_append_beBytes [token] [] 2 g
    rw [List.append_nil] at hf
    exact hf.trans (Nat.mod_eq_of_lt h)
  simp [ackPayload, byteAt, hg]

@[simp] theorem classify_ack_flagSet (f : TagFlag) :
    classify (.setFlag f) (answerFrame ackCode [f.code]) = .ack .flagSet := by
  apply classify_ack; simp [ackPayload, byteAt]

@[simp] theorem classify_ack_level (reading : Byte) (ok : Bool) :
    classify .readSense (answerFrame ackCode [reading, boolByte ok]) = .ack (.level reading ok) := by
  apply classify_ack; cases ok <;> simp [ackPayload, byteAt, boolByte]

/-! ### Block 1 rewritten (R3) -/

theorem Tag.gauge_lt (t : Tag) : t.gauge < 65536 := fieldAt_lt _ 0 2

theorem toList_rewrite_block1 (t : Tag) (g : Nat) (flags : Byte) :
    ∃ rest, (t.rewrite g flags).cartridge.block1.toList = beBytes 2 g ++ (flags :: rest) :=
  ⟨_, by
    rw [Tag.rewrite, toList_sealed _ (by simp [contentOf]), List.append_assoc, List.append_assoc]
    rfl⟩

theorem Tag.rewrite_gauge (t : Tag) {g : Nat} (flags : Byte) (h : g < 65536) : (t.rewrite g flags).gauge = g := by
  obtain ⟨rest, hr⟩ := toList_rewrite_block1 t g flags
  rw [Tag.gauge, gaugeField, hr]
  exact (fieldAt_append_beBytes [] _ 2 g).trans (Nat.mod_eq_of_lt h)

@[simp] theorem Tag.rewrite_burnMemory (t : Tag) (g : Nat) (flags : Byte) :
    (t.rewrite g flags).burnMemory = t.burnMemory := by rw [Tag.rewrite]

@[simp] theorem Tag.rewrite_flags (t : Tag) (g : Nat) (flags : Byte) : (t.rewrite g flags).flags = flags := by
  obtain ⟨rest, hr⟩ := toList_rewrite_block1 t g flags
  rw [Tag.flags, hr]
  simp [byteAt]

@[simp] theorem Tag.rewrite_crcGood (t : Tag) (g : Nat) (flags : Byte) :
    crcGood (t.rewrite g flags).cartridge.block1 = true := crcGood_sealed _ (by simp [contentOf])

/-- A flag or-ed into the flags byte is set. -/
theorem Tag.rewrite_hasFlag (t : Tag) (g : Nat) (flags : Byte) (f : TagFlag) :
    (t.rewrite g (flags ||| f.bit)).hasFlag f = true := by
  have absorb : (flags ||| f.bit) &&& f.bit = f.bit := by
    apply BitVec.eq_of_getLsbD_eq
    intro i _
    rw [BitVec.getLsbD_and, BitVec.getLsbD_or, Bool.and_comm, Bool.or_comm]
    exact inf_sup_self
  rw [Tag.hasFlag, Tag.rewrite_flags, absorb]
  cases f <;> rfl

/-! ### What a ready tag does at each command (R7 to R12) -/

/-- A repeated challenge is answered from the stored response (R8). -/
theorem Tag.hearChallenge_stored {t : Tag} {c r : Bytes16} (h : t.stored = some (c, r)) (atOnce : Bool) :
    t.hearChallenge c atOnce = t.ack (beBytes 16 r.toNat) := by
  simp [Tag.hearChallenge, h]

/-- A new challenge answered within the attempt replaces the stored one (R8). -/
theorem Tag.hearChallenge_atOnce {t : Tag} {c : Bytes16} (h : ∀ r, t.stored ≠ some (c, r)) :
    t.hearChallenge c true = { t with stored := some (c, keyRespond t.cartridge.key c) }.ack
      (beBytes 16 (keyRespond t.cartridge.key c).toNat) := by
  unfold Tag.hearChallenge
  split
  · next c' r' hs =>
    have hc : c' ≠ c := fun hc => h r' (hc ▸ hs)
    rw [if_neg hc, if_pos rfl]
  · rfl

/-- A new challenge a tag goes on with empties the store (R8). -/
theorem Tag.hearChallenge_busy {t : Tag} {c : Bytes16} (h : ∀ r, t.stored ≠ some (c, r)) :
    t.hearChallenge c false = { t with stored := none, work := some (.responding c) }.busy := by
  unfold Tag.hearChallenge
  split
  · next c' r' hs =>
    have hc : c' ≠ c := fun hc => h r' (hc ▸ hs)
    rw [if_neg hc, if_neg Bool.false_ne_true]
  · next hs => rw [← hs]; rfl

/-- A repeated token is answered from the burn memory (R10). -/
theorem Tag.hearBurn_repeat {t : Tag} {token : Byte} {g : Nat} (h : t.burnMemory = some (token, g)) (n : Nat)
    (atOnce : Bool) : t.hearBurn n token atOnce = t.ackBurn token g := by
  simp [Tag.hearBurn, h]

theorem Tag.hearBurn_new {t : Tag} {token : Byte} (h : ∀ g, t.burnMemory ≠ some (token, g)) (n : Nat)
    (atOnce : Bool) : t.hearBurn n token atOnce = t.hearNewBurn n token atOnce := by
  unfold Tag.hearBurn
  split
  · next tok g hm =>
    have ht : tok ≠ token := fun ht => h g (ht ▸ hm)
    rw [if_neg ht]
  · rfl

/-- A BURN past the gauge is refused (R9). -/
theorem Tag.hearNewBurn_past {t : Tag} {n : Nat} (h : t.gauge < n) (token : Byte) (atOnce : Bool) :
    t.hearNewBurn n token atOnce = t.refuse := if_pos h

/-- The state of a tag that takes up a BURN: the burn memory holds its token and the gauge to come (R9). -/
theorem Tag.hearNewBurn_within {t : Tag} {n : Nat} (h : n ≤ t.gauge) (token : Byte) (atOnce : Bool) :
    t.hearNewBurn n token atOnce
      = if atOnce then
          ({ t with burnMemory := some (token, t.gauge - n) }.rewrite (t.gauge - n) t.flags).ackBurn token (t.gauge - n)
        else { t with burnMemory := some (token, t.gauge - n), work := some (.burning n token) }.busy :=
  if_neg (Nat.not_lt.mpr h)

theorem Tag.hearSetFlag_set {t : Tag} {f : TagFlag} (h : t.hasFlag f = true) (atOnce : Bool) :
    t.hearSetFlag f atOnce = t.ack [f.code] := if_pos h

theorem Tag.hearSetFlag_clear {t : Tag} {f : TagFlag} (h : t.hasFlag f = false) (atOnce : Bool) :
    t.hearSetFlag f atOnce = if atOnce then (t.rewrite t.gauge (t.flags ||| f.bit)).ack [f.code]
      else { t with work := some (.writing f) }.busy := if_neg (by simp [h])

/-- A working tag answers BUSY to every command. -/
theorem Tag.hear_working {t : Tag} (h : t.work ≠ none) (c : TagCommand) (atOnce : Bool) (reading : Byte)
    (ok : Bool) :
    t.hear c atOnce reading ok = t.busy := by
  obtain ⟨w, hw⟩ := Option.ne_none_iff_exists'.mp h
  simp only [Tag.hear, hw]

end Sys2Proof.Machine
end

section
/-! SUPPORT. The answers of a ready tag, as the engine hears and classifies them. -/

namespace Sys2Proof.Machine

/-- A repeated BURN is answered from the burn memory as its first was. -/
theorem Tag.hearBurn_repeat_ack {t : Tag} {token : Byte} {g : Nat} (h : t.burnMemory = some (token, g))
    (hg : g < 65536) (n : Nat) (atOnce : Bool) :
    (t.hearBurn n token atOnce).reply.map (classify (.burn n token)) = some (.ack (.burned g))
      ∧ (t.hearBurn n token atOnce).cartridge = t.cartridge ∧ (t.hearBurn n token atOnce).work = t.work := by
  rw [Tag.hearBurn_repeat h]
  exact ⟨congrArg some (classify_ack_burned n token hg), rfl, rfl⟩

/-- A new BURN within the gauge, done within the attempt: the gauge falls once, also where the token is repeated. -/
theorem Tag.hearBurn_atOnce {t : Tag} {n : Nat} {token : Byte} (hnew : ∀ g, t.burnMemory ≠ some (token, g))
    (h : n ≤ t.gauge) :
    (t.hearBurn n token true).reply.map (classify (.burn n token)) = some (.ack (.burned (t.gauge - n)))
      ∧ (t.hearBurn n token true).gauge = t.gauge - n
      ∧ ((t.hearBurn n token true).hearBurn n token true).gauge = t.gauge - n := by
  have hg : t.gauge - n < 65536 := lt_of_le_of_lt (Nat.sub_le _ _) t.gauge_lt
  have acked := (Tag.hearBurn_new hnew n true).trans ((Tag.hearNewBurn_within h token true).trans (if_pos rfl))
  have burned : (t.hearBurn n token true).gauge = t.gauge - n := by
    rw [acked, Tag.ackBurn_gauge, Tag.rewrite_gauge _ _ hg]
  have kept : (t.hearBurn n token true).burnMemory = some (token, t.gauge - n) := by
    rw [acked, Tag.ackBurn_burnMemory, Tag.rewrite_burnMemory]
  refine ⟨?_, burned, ?_⟩
  · rw [acked, Tag.ackBurn_reply, Option.map_some, classify_ack_burned n token hg]
  · rw [Tag.hearBurn_repeat kept, Tag.ackBurn_gauge, burned]

/-- SET_FLAG at a ready tag: the flag is set within the attempt; where it stands already the tag has nothing to do,
and otherwise it may go on working. -/
theorem Tag.hearSetFlag_answers (t : Tag) (f : TagFlag) :
    (t.hearSetFlag f true).reply.map (classify (.setFlag f)) = some (.ack .flagSet)
      ∧ (t.hearSetFlag f true).hasFlag f = true ∧ (t.hearSetFlag f true).gauge = t.gauge
      ∧ (t.hasFlag f = true →
          (t.hearSetFlag f false).reply.map (classify (.setFlag f)) = some (.ack .flagSet)
          ∧ (t.hearSetFlag f false).cartridge = t.cartridge ∧ (t.hearSetFlag f false).work = t.work)
      ∧ (t.hasFlag f = false →
          (t.hearSetFlag f false).reply.map (classify (.setFlag f)) = some .busy
          ∧ (t.hearSetFlag f false).cartridge = t.cartridge
          ∧ (t.hearSetFlag f false).work = some (.writing f)) := by
  have acked := congrArg some (classify_ack_flagSet f)
  cases hf : t.hasFlag f with
  | true =>
    simp only [Tag.hearSetFlag_set hf]
    exact ⟨acked, hf, rfl, fun _ => ⟨acked, rfl, rfl⟩, nofun⟩
  | false =>
    rw [Tag.hearSetFlag_clear hf, Tag.hearSetFlag_clear hf, if_pos rfl, if_neg Bool.false_ne_true, Tag.ack_gauge,
      Tag.rewrite_gauge _ _ t.gauge_lt, Tag.ack_hasFlag, Tag.rewrite_hasFlag]
    exact ⟨acked, rfl, rfl, nofun, fun _ => ⟨congrArg some (classify_busy _), rfl, rfl⟩⟩

/-- Settles O8: the line hears the frame a tag sends, and each way a tag takes a command sends a frame that
`classify` reads back. -/
theorem readyTagAnswersAreUnderstood : Obligations.ReadyTagAnswersAreUnderstood := by
  refine ⟨fun f hf => ⟨answerHeard_answerBits f hf, fun g n hg hn => ?brokenOff, answerHeard_take f hf,
    answerHeard_broken f hf⟩, fun t => ⟨fun b => ?read, fun c hnew => ?challenge, fun c r atOnce h => ?stored,
    fun n token hnew h => ?burn, fun n token hnew h atOnce => ?past,
    fun n g token atOnce h hg => Tag.hearBurn_repeat_ack h hg n atOnce, t.hearSetFlag_answers,
    fun reading ok => ?sense, fun c atOnce reading ok h => ?working⟩⟩
  case brokenOff => exact answerHeard_append _ (answerHeard_take g hg n hn) f hf
  case read => exact ⟨congrArg some (classify_ack_block b (t.block b)), rfl, rfl⟩
  case challenge =>
    rw [Tag.hearChallenge_atOnce hnew, Tag.hearChallenge_busy hnew]
    exact ⟨congrArg some (classify_ack_response c _), rfl, congrArg some (classify_busy _), rfl, rfl⟩
  case stored =>
    rw [Tag.hearChallenge_stored h]
    exact ⟨congrArg some (classify_ack_response c r), rfl, rfl⟩
  case burn =>
    obtain ⟨acked, burned, once⟩ := Tag.hearBurn_atOnce hnew h
    refine ⟨acked, burned, once, ?_⟩
    rw [Tag.hearBurn_new hnew, Tag.hearNewBurn_within h, if_neg Bool.false_ne_true]
    exact ⟨congrArg some (classify_busy _), rfl, rfl, rfl⟩
  case past =>
    rw [Tag.hearBurn_new hnew, Tag.hearNewBurn_past h]
    exact ⟨congrArg some (classify_refused n token), rfl⟩
  case sense =>
    exact ⟨congrArg some (classify_ack_level reading ok), congrArg some (classify_busy _), rfl⟩
  case working =>
    rw [Tag.hear_working h]
    exact ⟨congrArg some (classify_busy c), rfl, rfl⟩

end Sys2Proof.Machine
end

section
/-! SUPPORT. What a tag becomes when its work ends, what a removal leaves of it, and that neither the end of an event nor
the removal of a bay touches the other cartridges. -/

namespace Sys2Proof.Machine

/-! ### A working tag that finishes (R5) -/

theorem Tag.finish_idle {t : Tag} (h : t.work = none) : t.finish = t := by
  simp only [Tag.finish, h]

theorem Tag.finish_burning {t : Tag} {n : Nat} {token : Byte} (h : t.work = some (.burning n token)) :
    t.finish = { t.rewrite (t.gauge - n) t.flags with work := none } := by
  simp only [Tag.finish, h]

theorem Tag.finish_writing {t : Tag} {f : TagFlag} (h : t.work = some (.writing f)) :
    t.finish = { t.rewrite t.gauge (t.flags ||| f.bit) with work := none } := by
  simp only [Tag.finish, h]

theorem Tag.finish_responding {t : Tag} {c : Bytes16} (h : t.work = some (.responding c)) :
    t.finish = { t with stored := some (c, keyRespond t.cartridge.key c), work := none } := by
  simp only [Tag.finish, h]

theorem Tag.finish_measuring {t : Tag} (h : t.work = some .measuring) : t.finish = { t with work := none } := by
  simp only [Tag.finish, h]

@[simp] theorem Tag.finish_work (t : Tag) : t.finish.work = none := by
  unfold Tag.finish
  split
  · next h => exact h
  all_goals rfl

/-- A tag that finishes rewrites block 1 alone. -/
theorem Tag.finish_keeps (t : Tag) :
    t.finish.cartridge.block0 = t.cartridge.block0 ∧ t.finish.cartridge.block2 = t.cartridge.block2
      ∧ t.finish.cartridge.block3 = t.cartridge.block3 ∧ t.finish.cartridge.key = t.cartridge.key := by
  unfold Tag.finish
  split <;> simp [Tag.rewrite]

/-- The end of a burn: its marks are gone, under a good CRC (R9). -/
theorem Tag.finish_burns {t : Tag} {n : Nat} {token : Byte} (h : t.work = some (.burning n token)) :
    t.finish.gauge = t.gauge - n ∧ t.finish.flags = t.flags ∧ crcGood t.finish.cartridge.block1 = true := by
  have hg : t.gauge - n < 65536 := lt_of_le_of_lt (Nat.sub_le _ _) t.gauge_lt
  rw [Tag.finish_burning h]
  exact ⟨t.rewrite_gauge t.flags hg, t.rewrite_flags _ _, t.rewrite_crcGood _ _⟩

/-- The end of a flag write: its flag is set, under a good CRC (R11). -/
theorem Tag.finish_writes {t : Tag} {f : TagFlag} (h : t.work = some (.writing f)) :
    t.finish.hasFlag f = true ∧ t.finish.gauge = t.gauge ∧ crcGood t.finish.cartridge.block1 = true := by
  rw [Tag.finish_writing h]
  exact ⟨t.rewrite_hasFlag _ _ f, t.rewrite_gauge _ t.gauge_lt, t.rewrite_crcGood _ _⟩

/-! ### A tag that loses power (R5) -/

/-- A burn cut short leaves block 1 torn, or the gauge lower by some of its marks. -/
theorem losePower_burning {t : Tag} {n : Nat} {token : Byte} (d : Nat) (h : t.work = some (.burning n token))
    (good : crcGood (t.losePower d).block1 = true) :
    (∃ k, k ≤ n ∧ (Tag.fresh (t.losePower d)).gauge = t.gauge - k)
      ∧ (Tag.fresh (t.losePower d)).flags = t.flags := by
  have cut : t.losePower d
      = maybeTorn d (t.rewrite (t.gauge - min n (Config.cutMarks d)) t.flags).cartridge := by
    simp only [Tag.losePower, h]
  have hg : t.gauge - min n (Config.cutMarks d) < 65536 := lt_of_le_of_lt (Nat.sub_le _ _) t.gauge_lt
  rw [cut] at good
  rw [cut, maybeTorn_of_good d _ good]
  exact ⟨⟨_, min_le_left _ _, t.rewrite_gauge t.flags hg⟩, t.rewrite_flags _ _⟩

/-- A flag write cut short leaves block 1 torn, or the flag as it was or set. -/
theorem losePower_writing {t : Tag} {f : TagFlag} (d : Nat) (h : t.work = some (.writing f))
    (good : crcGood (t.losePower d).block1 = true) :
    (Tag.fresh (t.losePower d)).gauge = t.gauge
      ∧ ((Tag.fresh (t.losePower d)).flags = t.flags ∨ (Tag.fresh (t.losePower d)).flags = t.flags ||| f.bit) := by
  have cut : t.losePower d = maybeTorn d
      (t.rewrite t.gauge (if Config.cutFlag d then t.flags ||| f.bit else t.flags)).cartridge := by
    simp only [Tag.losePower, h]
  rw [cut] at good
  rw [cut, maybeTorn_of_good d _ good]
  refine ⟨t.rewrite_gauge _ t.gauge_lt, ?_⟩
  have flags := t.rewrite_flags t.gauge (if Config.cutFlag d then t.flags ||| f.bit else t.flags)
  cases hc : Config.cutFlag d with
  | true => rw [hc, if_pos rfl] at flags; exact .inr flags
  | false => rw [hc, if_neg Bool.false_ne_true] at flags; exact .inl flags

/-- Any other work leaves the cartridge as it is. -/
theorem losePower_other {t : Tag} (d : Nat) (hb : ∀ n token, t.work ≠ some (.burning n token))
    (hw : ∀ f, t.work ≠ some (.writing f)) : t.losePower d = t.cartridge := by
  unfold Tag.losePower
  split
  · next n token h => exact absurd h (hb n token)
  · next f h => exact absurd h (hw f)
  all_goals rfl

/-! ### The store controller leaves what stands outside alone -/

@[simp] theorem makeDue_outside (s : State) (serial : Serial) : (s.makeDue serial).outside = s.outside := by
  unfold State.makeDue
  split
  · rfl
  · split
    · rfl
    · split <;> rfl

@[simp] theorem makeAllDue_outside (s : State) (l : List Serial) : (s.makeAllDue l).outside = s.outside := by
  unfold State.makeAllDue
  induction l generalizing s with
  | nil => rfl
  | cons x l ih => exact (ih _).trans (makeDue_outside s x)

@[simp] theorem noteChange_outside (s before : State) : (s.noteChange before).outside = s.outside := by
  obtain h | h := noteChange_cases s before <;> rw [h]
  rfl

@[simp] theorem degrade_outside (s : State) : s.degrade.outside = s.outside := by
  unfold State.degrade; split <;> rfl

@[simp] theorem reclaimCheck_outside (s : State) : s.reclaimCheck.outside = s.outside := by
  unfold State.reclaimCheck
  split
  · rfl
  · split
    · rfl
    · exact makeAllDue_outside _ _

@[simp] theorem watchJournal_outside (s : State) : s.watchJournal.outside = s.outside := by
  have waiting : s.startWaiting.outside = s.outside := by
    unfold State.startWaiting
    split
    · exact reclaimCheck_outside _
    · rfl
  unfold State.watchJournal State.stalledTest
  split
  · exact (degrade_outside _).trans waiting
  · exact waiting

@[simp] theorem serveTickets_outside (l : List StoreTicket) (s : State) :
    (State.serveTickets l s).outside = s.outside := by
  induction l generalizing s with
  | nil => rfl
  | cons x l ih =>
    cases x with
    | setProfile k c p =>
      unfold State.serveTickets
      split
      · exact (ih _).trans (State.writeAnswer_outside ..)
      · rfl
    | checkStore k first last => rfl
    | selfTest k => rfl

@[simp] theorem startAppend_outside (s : State) : s.startAppend.outside = s.outside := by
  unfold State.startAppend
  split
  · rfl
  · split
    · rfl
    · split
      · rfl
      · split <;> rfl

@[simp] theorem startVictimErase_outside (s : State) : s.startVictimErase.outside = s.outside := by
  unfold State.startVictimErase
  split
  · split <;> rfl
  · rfl

@[simp] theorem startDirtyErase_outside (s : State) : s.startDirtyErase.outside = s.outside := by
  unfold State.startDirtyErase
  split
  · rfl
  · split <;> rfl

theorem orElseStart_outside (s : State) (f : State → State) (h : ∀ x, (f x).outside = x.outside) :
    (s.orElseStart f).outside = s.outside := by
  unfold State.orElseStart
  split
  · rfl
  · exact h s

@[simp] theorem startStore_outside (s : State) : s.startStore.outside = s.outside := by
  unfold State.startStore
  split
  · rfl
  · split
    · exact (orElseStart_outside _ _ fun x => serveTickets_outside _ x).trans (startAppend_outside s)
    · unfold State.startNormal
      rw [orElseStart_outside _ _ startDirtyErase_outside, orElseStart_outside _ _ startAppend_outside,
        orElseStart_outside _ _ startVictimErase_outside, serveTickets_outside]

@[simp] theorem advanceStore_outside (s before : State) : (s.advanceStore before).outside = s.outside := by
  unfold State.advanceStore
  rw [startStore_outside]
  exact (watchJournal_outside _).trans (noteChange_outside s before)

/-! ### The end of an event seats no tag -/

/-- A change of seated tags seats none. -/
theorem updTag_tags_none (s : State) (b x : BayId) (f : Tag → Tag) (h : s.outside.tags[b] = none) :
    (s.updTag x f).outside.tags[b] = none := by
  by_cases hx : b = x
  · subst hx; exact (updAt_self ..).trans (congrArg (Option.map f) h)
  · exact (updAt_other _ _ _ _ hx).trans h

theorem startTransaction_tags_none (s : State) (first : Nat) (e : EngId) (x b : BayId) (o : Origin) (c : TagCommand)
    (h : s.outside.tags[b] = none) : (s.startTransaction first e x o c).outside.tags[b] = none :=
  updTag_tags_none (s.updEng e _) b x _ h

theorem grant_tags_none (s : State) (first : Nat) (e : EngId) (w : Work) (b : BayId)
    (h : s.outside.tags[b] = none) : (s.grant first e w).outside.tags[b] = none := by
  cases w with
  | insertion x st => exact startTransaction_tags_none (s.notePass e x true) _ _ _ _ _ _ h
  | head q => exact startTransaction_tags_none (s.notePass e q.bay false) _ _ _ _ _ _ h
  | sense x => exact startTransaction_tags_none ((s.notePass e x false).updBay x _) _ _ _ _ _ _ h
  | account x =>
    unfold State.grant
    simp only
    split
    · exact startTransaction_tags_none (s.notePass e x true) _ _ _ _ _ _ h
    · split
      · exact startTransaction_tags_none (s.notePass e x true) _ _ _ _ _ _ h
      · exact startTransaction_tags_none ((s.notePass e x true).updBay x _) _ _ _ _ _ _ h

theorem arbitrate_tags_none (first : Nat) (s : State) (e : EngId) (b : BayId) (h : s.outside.tags[b] = none) :
    (s.arbitrate first e).outside.tags[b] = none := by
  unfold State.arbitrate
  split
  · split
    · exact grant_tags_none s first e _ b h
    · exact h
  all_goals exact h

theorem arbitrateAll_tags_none (s : State) (first : Nat) (b : BayId) (h : s.outside.tags[b] = none) :
    (s.arbitrateAll first).outside.tags[b] = none :=
  arbitrate_tags_none first _ 3 b <| arbitrate_tags_none first _ 2 b <| arbitrate_tags_none first _ 1 b <|
    arbitrate_tags_none first s 0 b h

/-- A bay without a tag is without one when the event has ended. -/
theorem endEvent_tags_none (s before : State) (b : BayId) (h : s.outside.tags[b] = none) :
    (s.endEvent before).outside.tags[b] = none := by
  unfold State.endEvent State.advanceWork
  rw [State.publishSince_outside]
  refine arbitrateAll_tags_none _ _ b ?_
  rw [advanceStore_outside]
  exact h

/-- The end of an event leaves the pulled cartridges alone. -/
theorem KeptAtEnd.pulled {s t : State} (h : KeptAtEnd s t) : t.outside.pulled = s.outside.pulled :=
  (congrArg Outside.pulled h.outside :)

/-! ### The removal of a bay (R34) -/

theorem emptiedEntry_outside (s : State) (q : QueueEntry) : (s.emptiedEntry q).outside = s.outside := by
  unfold State.emptiedEntry
  split <;> rfl

theorem foldl_emptiedEntry_outside (l : List QueueEntry) (s : State) :
    (l.foldl State.emptiedEntry s).outside = s.outside := by
  induction l generalizing s with
  | nil => rfl
  | cons q l ih => exact (ih _).trans (emptiedEntry_outside s q)

theorem fillQueue_outside (s : State) (e : EngId) : (s.fillQueue e).outside = s.outside := rfl

theorem removeAtEngine_outside (s : State) (b : BayId) : (s.removeAtEngine b).outside = s.outside := by
  unfold State.removeAtEngine
  simp only [fillQueue_outside, State.updBay_outside, State.updPort_outside, State.updEng_outside,
    foldl_emptiedEntry_outside]
  split
  · split <;> rfl
  · split <;> rfl
  · rfl

theorem unlinkEntry_outside (s : State) (b : BayId) : (s.unlinkEntry b).outside = s.outside := by
  unfold State.unlinkEntry
  split
  · rfl
  · exact makeDue_outside _ _

theorem withdrawAuth_outside (s : State) (b : BayId) : (s.withdrawAuth b).outside = s.outside := rfl

theorem clearBay_outside (s : State) (b : BayId) : (s.clearBay b).outside = s.outside := rfl

/-- Answering tickets leaves the seated tags and the pulled cartridges alone. -/
theorem AnswerTouches.cartridges {c : ChanId} {s t : State} (h : AnswerTouches c s t) :
    t.outside.tags = s.outside.tags ∧ t.outside.pulled = s.outside.pulled :=
  ⟨(congrArg Outside.tags h.outside :), (congrArg Outside.pulled h.outside :)⟩

/-- What a removal does to the part leaves the seated tags and the pulled cartridges alone. -/
theorem removeBay_cartridges (s : State) (b : BayId) :
    (s.removeBay b).outside.tags = s.outside.tags ∧ (s.removeBay b).outside.pulled = s.outside.pulled := by
  have fedOn (u : State) (p : Prop) [Decidable p] :
      (if p then u.feedLost b .removed else u).outside = u.outside := by
    split
    · exact (touches_feedLost u b .removed).outside
    · rfl
  have served (u : State) := (answer_serveBay u b).cartridges
  unfold State.removeBay
  simp only [served, fedOn, clearBay_outside, unlinkEntry_outside, withdrawAuth_outside, removeAtEngine_outside,
    and_self]

theorem unseat_tags (s : State) (b : BayId) : (s.unseat b).outside.tags[b] = none := updAt_self ..

/-- A removal pulls the cartridge as its loss of power leaves it and empties the place of its tag. -/
theorem exec_bayRemoval_outside (b : BayId) (s : State) (x : Tag) (seated : s.outside.presence[b] = true)
    (tag : s.outside.tags[b] = some x) :
    ∃ t, exec (.bayRemoval b) s = .next t
      ∧ t.outside.pulled = x.losePower s.outside.cutDraws :: s.outside.pulled ∧ t.outside.tags[b] = none := by
  have pulled := unseat_pulled s b x tag
  have gone := unseat_tags s b
  refine ⟨_, congrArg Host.Outcome.next (if_pos seated), ?_⟩
  simp only
  split
  · exact ⟨pulled, gone⟩
  · obtain ⟨tags, kept⟩ := removeBay_cartridges (s.unseat b) b
    exact ⟨(kept_endEvent _ s).pulled.trans (kept.trans pulled), endEvent_tags_none _ s b (by rw [tags]; exact gone)⟩

/-- Settles O49: a removal leaves the cartridge that `Tag.losePower` gives, and the end of a tag's work changes
its own tag by `Tag.finish` and nothing else. -/
theorem tagsFinishTheirWork : Obligations.TagsFinishTheirWork := by
  refine ⟨fun b s x seated tag => ?removal, fun b s => ⟨s.updTag b Tag.finish, rfl, rfl,
    fun b' hb => updAt_other _ _ _ _ hb, updTag_tags_none s b b _, fun x tag => ?finished⟩⟩
  case removal =>
    obtain ⟨t, ran, pulled, gone⟩ := exec_bayRemoval_outside b s x seated tag
    obtain ⟨block0, block2, block3, key⟩ := losePower_keeps x s.outside.cutDraws
    exact ⟨t, _, ran, pulled, gone, block0, block2, block3, key, fun n token h => losePower_burning _ h,
      fun f h => losePower_writing _ h, losePower_other _⟩
  case finished =>
    have here : (s.updTag b Tag.finish).outside.tags[b] = some x.finish :=
      (updAt_self ..).trans (congrArg (Option.map Tag.finish) tag)
    obtain ⟨block0, block2, block3, key⟩ := x.finish_keeps
    refine ⟨x.finish, here, x.finish_work, block0, block2, block3, key, fun n token => Tag.finish_burns,
      fun f => Tag.finish_writes, fun c h => ?_, fun h => ?_⟩
    · rw [Tag.finish_responding h]
      exact ⟨rfl, rfl⟩
    · obtain h | h := h
      · exact Tag.finish_measuring h
      · rw [Tag.finish_idle h, ← h]

end Sys2Proof.Machine
end

section
/-! SUPPORT. The state after a reset: its blocks, what the host reads of it, and the promises it meets. -/

namespace Sys2Proof.Machine

/-! ### The blocks at their reset values -/

@[simp] theorem reset_bay (b : BayId) : State.reset.bay b = Bay.default := by simp [State.bay, State.reset]

@[simp] theorem reset_chan (c : ChanId) : State.reset.chan c = Channel.default := by simp [State.chan, State.reset]

@[simp] theorem reset_eng (e : EngId) : State.reset.eng e = Engine.default := by simp [State.eng, State.reset]

@[simp] theorem reset_slot (k : SlotId) : State.reset.slot k = Slot.default := by
  simp [State.slot, State.reset, Port.default]

/-! ### What the host reads after a reset (R178, R181, R197) -/

theorem byteAt_zeros (n k : Nat) : byteAt (zeros n) k = 0#8 := by
  simp only [byteAt, zeros, List.getD_eq_getElem?_getD, List.getElem?_replicate]
  split <;> rfl

/-- A run of zero bytes reads zero at every word. -/
theorem wordAt_zeros (n k : Nat) : wordAt (zeros n) k = 0#16 := by
  simp only [wordAt, byteAt_zeros]
  rfl

/-- Every field of the header is encoded as zero at its reset value. -/
theorem reset_header : recordBytes State.reset.gens.header State.reset.headerContent = zeros 152 := by
  decide +kernel

/-- Every field of a slot is encoded as zero at its reset value. -/
theorem reset_slot_bytes : Slot.default.bytes = zeros 64 := by decide +kernel

/-- Records read zero while the part is STARTING (R181). -/
theorem readRecord_starting (s : State) (a : Nat) (h : s.port.partState = .starting) : s.readRecord a = 0#16 :=
  if_pos h

/-- Every word of the exchange memory reads zero after a reset. -/
theorem reset_hostRead (a : Nat) (h : a < 0x2000) : State.reset.hostRead a = 0#16 := by
  unfold State.hostRead
  split
  · rw [reset_header, wordAt_zeros]
  · split
    · exact readRecord_starting _ _ rfl
    · split
      · rw [reset_slot, reset_slot_bytes, wordAt_zeros]
      · simp [State.readRegister, show a ≠ 0x2000 by omega, show a ≠ 0x2002 by omega, show a ≠ 0x2004 by omega,
          show a ≠ 0x2008 by omega, show a ≠ 0x200A by omega]

/-- Settles O2: each block by its reset value, the exchange memory by the encoding of each record. -/
theorem resetValues : Obligations.ResetValues := by
  refine ⟨⟨fun b => ?bays, rfl, rfl, rfl, rfl, rfl, rfl, rfl, fun c => ?chans, fun e => ?engines, fun k => ?slots,
    rfl, rfl, rfl, rfl, rfl, rfl, rfl, rfl⟩, reset_hostRead⟩
  case bays => simp [Bay.default]
  case chans => simp [State.feedA, State.feedB, Channel.default]
  case engines => simp [Engine.default]
  case slots => simp [Slot.default]

/-! ### The promises at reset -/

/-- An EMPTY bay is not eligible. -/
theorem eligible_empty (s : State) (b : BayId) (h : (s.bay b).state = .empty) : s.eligible b = false := by
  simp [State.eligible, h, BayState.decided]

/-- With every bay EMPTY and every channel CLOSED the feed is sound. -/
theorem feedSound_of_vacant (s : State) (hb : ∀ b, (s.bay b).state = .empty)
    (hc : ∀ c, (s.chan c).feedState = .closed) : s.FeedSound := by
  refine ⟨fun b => ?_, fun b h => ?_, fun b _ => eligible_empty s b (hb b), fun b _ => eligible_empty s b (hb b),
    fun b h => ?_⟩
  · simp [hb, State.feedingBay, hc]
  all_goals simp [hb, BayState.sensed] at h

/-- An engine without a want and without a queue has nothing to grant. -/
theorem chooseWork_none (s : State) (e : EngId) (hw : ∀ b, (s.bay b).wants = Wants.none) (hq : (s.eng e).queue = []) :
    s.chooseWork e = none := by
  have insertion (l : List BayId) : s.insertionWork l = none := by
    induction l with
    | nil => rfl
    | cons b l ih => simp [State.insertionWork, hw, Wants.none, ih]
  simp [State.chooseWork, hq, insertion, State.accountWork, State.senseWork, hw, Wants.none, Wants.account]

/-- Settles O3: every list is empty, every bay EMPTY, every channel CLOSED and every figure 0. -/
theorem resetIsSound : Obligations.ResetIsSound := by
  refine ⟨fun b => ?balanced, fun b => ?sensed, fun c => ?conserved,
    feedSound_of_vacant _ (fun b => by rw [reset_bay]; rfl) (fun c => by rw [reset_chan]; rfl), ?history, ?entries,
    ?arrivals, fun e => ?queues, fun e _ => chooseWork_none _ e (fun b => by rw [reset_bay]; rfl) (by rw [reset_eng]; rfl),
    fun _ => ⟨rfl, rfl, rfl, rfl, rfl, rfl, rfl, rfl⟩, wf_reset, ?gens⟩
  case balanced => simp [Bay.Balanced, Bay.default, Wants.none]
  case sensed => simp [Bay.SensedOnlyWhileFit, Bay.default, Wants.none, Sense.default]
  case conserved => simp [Channel.Conserved, Channel.default, top64]
  case history => exact ⟨List.nodup_nil, Nat.zero_le _⟩
  case entries => exact ⟨fun b serial h => by simp [Bay.default] at h, fun e he => nomatch he⟩
  case arrivals => exact ⟨List.nodup_nil, fun k hk => (nomatch hk), fun h => nomatch h⟩
  case queues => simp [Engine.default]
  case gens => simp [Generations.Even, State.reset, Generations.default]

end Sys2Proof.Machine
end

section
/-! SUPPORT. What each operation of the bay controller and of the feed selector does to a bay and its channel: the
equations behind the laws of Laws/Feed.lean. -/

namespace Sys2Proof.Machine

/-! ### Two changes of one place -/

theorem updAt_updAt {α : Type} {n : Nat} (v : Vector α n) (i : Fin n) (f g : α → α) :
    updAt (updAt v i f) i g = updAt v i (g ∘ f) := by
  simp [updAt]

/-- Two changes of one bay context are one. -/
theorem updBay_updBay (s : State) (b : BayId) (f g : Bay → Bay) :
    (s.updBay b f).updBay b g = s.updBay b (g ∘ f) := by
  simp only [State.updBay, updAt_updAt]

/-- What a change of a bay context makes of the context as it stands decides the change. -/
theorem updBay_congr {s : State} {b : BayId} {f g : Bay → Bay} (h : f (s.bay b) = g (s.bay b)) :
    s.updBay b f = s.updBay b g := by
  have : f s.bays[b] = g s.bays[b] := h
  simp only [State.updBay, updAt, this]

/-- A change that leaves a bay context as it stands is none. -/
theorem updBay_eq_self {s : State} {b : BayId} {f : Bay → Bay} (h : f (s.bay b) = s.bay b) : s.updBay b f = s := by
  have same : f s.bays[b.val] = s.bays[b.val] := h
  simp [State.updBay, updAt, same]

/-- One bay context after a change of one. -/
theorem bay_updBay (s : State) (b x : BayId) (f : Bay → Bay) :
    (s.updBay b f).bay x = if x = b then f (s.bay x) else s.bay x := by
  split
  · next h => subst h; exact State.bay_updBay_self ..
  · next h => exact State.bay_updBay_other _ _ _ _ h

@[simp] theorem State.bay_raise (s : State) (n : Notice) (b : BayId) : (s.raise n).bay b = s.bay b := rfl
@[simp] theorem State.chan_raise (s : State) (n : Notice) (c : ChanId) : (s.raise n).chan c = s.chan c := rfl
@[simp] theorem State.chan_updBay (s : State) (b : BayId) (f : Bay → Bay) (c : ChanId) :
    (s.updBay b f).chan c = s.chan c := rfl
@[simp] theorem State.bay_updChan (s : State) (c : ChanId) (f : Channel → Channel) (b : BayId) :
    (s.updChan c f).bay b = s.bay b := rfl

/-! ### A change of bay state (R35, R117, R118, R124) -/

/-- A bay context after `moveBay` has changed its state, a sense timer started then expiring at `expiry`. -/
def Bay.moved (x : Bay) (st : BayState) (expiry : Nat) : Bay :=
  if x.state = st then x
  else if st.sensed ∧ ¬ x.state.sensed then
    { x with state := st, sense := { x.sense with timer := some expiry }.emptyWindow }
  else if x.state.sensed ∧ ¬ st.sensed then
    { x with state := st, sense := { x.sense with timer := none }, wants := { x.wants with sense := false } }
  else { x with state := st }

theorem bay_moveBay_self (s : State) (b : BayId) (st : BayState) :
    (s.moveBay b st).bay b
      = (s.bay b).moved st (s.outside.now + sensePeriodOf (s.profileOf b) * 1000000) := by
  unfold State.moveBay Bay.moved
  simp only
  split
  · rfl
  · have began (u : State) (k : Bool) : ((if k = true then u.raise .level else u).bay b) = u.bay b := by
      split <;> rfl
    split
    · split <;> simp only [State.emptyWindow, State.startSenseTimer, State.bay_updBay_self, State.bay_raise] <;> rfl
    · split
      · split <;> simp only [State.bay_updBay_self, State.bay_raise]
      · split <;> simp only [State.bay_updBay_self, State.bay_raise]

/-- What neither a change of the bay's context nor a notice changes, a move leaves alone. -/
theorem moveBay_keeps {α : Type} (s : State) (b : BayId) (st : BayState) (p : State → α)
    (hp : ∀ (u : State) (f : Bay → Bay), p (u.updBay b f) = p u) (hr : ∀ u n, p (State.raise u n) = p u) :
    p (s.moveBay b st) = p s := by
  have level (u : State) (k : Prop) [Decidable k] : p (if k then u.raise .level else u) = p u := by
    split
    · exact hr u _
    · rfl
  unfold State.moveBay
  simp only
  split
  · rfl
  · split
    · simp only [State.emptyWindow, State.startSenseTimer, hp, level, hr]
    · split <;> simp only [hp, level, hr]

@[simp] theorem bay_moveBay_other (s : State) (b x : BayId) (st : BayState) (h : x ≠ b) :
    (s.moveBay b st).bay x = s.bay x :=
  moveBay_keeps s b st (·.bay x) (fun u f => State.bay_updBay_other u b x f h) fun _ _ => rfl

@[simp] theorem chan_moveBay (s : State) (b : BayId) (st : BayState) (c : ChanId) :
    (s.moveBay b st).chan c = s.chan c := moveBay_keeps s b st (·.chan c) (fun _ _ => rfl) fun _ _ => rfl

@[simp] theorem moved_state (x : Bay) (st : BayState) (n : Nat) : (x.moved st n).state = st := by
  unfold Bay.moved
  split
  · next h => exact h
  · split
    · rfl
    · split <;> rfl

/-- A move changes the state, the sense timer, the window counts and the sense want. -/
theorem moved_keeps {α : Type} (x : Bay) (st : BayState) (n : Nat) (p : Bay → α)
    (hp : ∀ y : Bay, p { y with state := st } = p y)
    (ht : ∀ (y : Bay) (t : Option Nat), p { y with sense := { y.sense with timer := t } } = p y)
    (hw : ∀ y : Bay, p { y with sense := y.sense.emptyWindow } = p y)
    (hs : ∀ y : Bay, p { y with wants := { y.wants with sense := false } } = p y) : p (x.moved st n) = p x := by
  unfold Bay.moved
  split
  · rfl
  · split
    · exact (hw { x with state := st, sense := { x.sense with timer := some n } }).trans
        ((ht { x with state := st } (some n)).trans (hp x))
    · split
      · exact (hs { x with state := st, sense := { x.sense with timer := none } }).trans
          ((ht { x with state := st } none).trans (hp x))
      · exact hp x

@[simp] theorem moved_verdict (x : Bay) (st : BayState) (n : Nat) : (x.moved st n).verdict = x.verdict :=
  moved_keeps x st n (·.verdict) (fun _ => rfl) (fun _ _ => rfl) (fun _ => rfl) fun _ => rfl
@[simp] theorem moved_barReason (x : Bay) (st : BayState) (n : Nat) : (x.moved st n).barReason = x.barReason :=
  moved_keeps x st n (·.barReason) (fun _ => rfl) (fun _ _ => rfl) (fun _ => rfl) fun _ => rfl
@[simp] theorem moved_identity (x : Bay) (st : BayState) (n : Nat) : (x.moved st n).identity = x.identity :=
  moved_keeps x st n (·.identity) (fun _ => rfl) (fun _ _ => rfl) (fun _ => rfl) fun _ => rfl
@[simp] theorem moved_gaugeKnown (x : Bay) (st : BayState) (n : Nat) : (x.moved st n).gaugeKnown = x.gaugeKnown :=
  moved_keeps x st n (·.gaugeKnown) (fun _ => rfl) (fun _ _ => rfl) (fun _ => rfl) fun _ => rfl
@[simp] theorem moved_tagGauge (x : Bay) (st : BayState) (n : Nat) : (x.moved st n).tagGauge = x.tagGauge :=
  moved_keeps x st n (·.tagGauge) (fun _ => rfl) (fun _ _ => rfl) (fun _ => rfl) fun _ => rfl
@[simp] theorem moved_pending (x : Bay) (st : BayState) (n : Nat) : (x.moved st n).pending = x.pending :=
  moved_keeps x st n (·.pending) (fun _ => rfl) (fun _ _ => rfl) (fun _ => rfl) fun _ => rfl
@[simp] theorem moved_book (x : Bay) (st : BayState) (n : Nat) : (x.moved st n).book = x.book :=
  moved_keeps x st n (·.book) (fun _ => rfl) (fun _ _ => rfl) (fun _ => rfl) fun _ => rfl
@[simp] theorem moved_entry (x : Bay) (st : BayState) (n : Nat) : (x.moved st n).entry = x.entry :=
  moved_keeps x st n (·.entry) (fun _ => rfl) (fun _ _ => rfl) (fun _ => rfl) fun _ => rfl
@[simp] theorem moved_burnInFlight (x : Bay) (st : BayState) (n : Nat) : (x.moved st n).burnInFlight = x.burnInFlight :=
  moved_keeps x st n (·.burnInFlight) (fun _ => rfl) (fun _ _ => rfl) (fun _ => rfl) fun _ => rfl
@[simp] theorem moved_held (x : Bay) (st : BayState) (n : Nat) : (x.moved st n).sense.held = x.sense.held :=
  moved_keeps x st n (·.sense.held) (fun _ => rfl) (fun _ _ => rfl) (fun _ => rfl) fun _ => rfl

/-! ### The classes of states (Table 2-1, R30) -/

/-- A sensed bay is decided on. -/
theorem decided_of_sensed {st : BayState} (h : st.sensed = true) : st.decided = true := by
  cases st with
  | standby | feeding => rfl
  | _ => exact nomatch h

/-- A decided bay that is not sensed is BARRED or DRAINED. -/
theorem out_of_unsensed {st : BayState} (decided : st.decided = true) (unsensed : st.sensed = false) :
    st = .barred ∨ st = .drained := by
  cases st with
  | barred => exact .inl rfl
  | drained => exact .inr rfl
  | standby | feeding => exact nomatch unsensed
  | _ => exact nomatch decided

/-! ### What Table 2-3 reads (R30) -/

/-- What the conditions of Table 2-3 read of a bay context beside its book. -/
def Bay.merit (x : Bay) : Option Identity × Bool × HeldSet × Verdict :=
  (x.identity, x.gaugeKnown, x.sense.held, x.verdict)

/-- Nothing that Table 2-3 reads beside the books differs between two states. -/
structure SameMerit (s t : State) : Prop where
  latch   : t.latch = s.latch
  profile : ∀ c, (t.chan c).profile = (s.chan c).profile
  merit   : ∀ b, (t.bay b).merit = (s.bay b).merit

theorem SameMerit.refl (s : State) : SameMerit s s := ⟨rfl, fun _ => rfl, fun _ => rfl⟩

theorem SameMerit.trans {s t u : State} (h : SameMerit s t) (k : SameMerit t u) : SameMerit s u :=
  ⟨k.latch.trans h.latch, fun c => (k.profile c).trans (h.profile c), fun b => (k.merit b).trans (h.merit b)⟩

theorem SameMerit.identity {s t : State} (h : SameMerit s t) (b : BayId) : (t.bay b).identity = (s.bay b).identity :=
  congrArg (·.1) (h.merit b)

theorem SameMerit.markSize {s t : State} (h : SameMerit s t) (b : BayId) :
    (t.bay b).markSize = (s.bay b).markSize := by
  simp only [Bay.markSize, h.identity b]

theorem SameMerit.profileOf {s t : State} (h : SameMerit s t) (b : BayId) : t.profileOf b = s.profileOf b :=
  h.profile _

/-- The reason a bay fails Table 2-3 for is a matter of its merit, the latch and the profile. -/
theorem barReasonFor_merit {latch : Bool} {p : Option Profile} {x y : Bay} (h : x.merit = y.merit) :
    barReasonFor latch p x = barReasonFor latch p y := by
  simp only [Bay.merit, Prod.mk.injEq] at h
  obtain ⟨identity, gauge, held, verdict⟩ := h
  simp only [barReasonFor, identity, gauge, held, verdict]

theorem SameMerit.barReasonOf {s t : State} (h : SameMerit s t) (b : BayId) : t.barReasonOf b = s.barReasonOf b := by
  unfold State.barReasonOf
  rw [h.latch, h.profileOf b, barReasonFor_merit (h.merit b)]

/-- A bay is eligible that is decided on, fails no condition and has a mark left. -/
theorem eligible_iff (s : State) (b : BayId) :
    s.eligible b = true ↔ (s.bay b).state.decided = true ∧ s.barReasonOf b = .none ∧ 0 < (s.bay b).book := by
  simp [State.eligible, State.meetsConditions]

/-- A bay is not eligible that is not decided on, fails a condition or has no mark left. -/
theorem not_eligible_iff (s : State) (b : BayId) :
    s.eligible b = false ↔ ((s.bay b).state.decided = true → s.barReasonOf b = .none → (s.bay b).book = 0) := by
  rw [← Bool.not_eq_true, eligible_iff, not_and, not_and]
  simp only [Nat.pos_iff_ne_zero, not_not]

theorem meetsConditions_congr {s t : State} {b : BayId} (reason : t.barReasonOf b = s.barReasonOf b)
    (book : (t.bay b).book = (s.bay b).book) : t.meetsConditions b = s.meetsConditions b := by
  simp only [State.meetsConditions, reason, book]

theorem eligible_congr {s t : State} {b : BayId} (reason : t.barReasonOf b = s.barReasonOf b)
    (decided : (t.bay b).state.decided = (s.bay b).state.decided) (book : (t.bay b).book = (s.bay b).book) :
    t.eligible b = s.eligible b := by
  simp only [State.eligible, meetsConditions_congr reason book, decided]

theorem SameMerit.meetsConditions {s t : State} (h : SameMerit s t) (b : BayId)
    (hb : (t.bay b).book = (s.bay b).book) : t.meetsConditions b = s.meetsConditions b :=
  meetsConditions_congr (h.barReasonOf b) hb

/-- Eligibility changes with the state, the book or the merit of a bay alone. -/
theorem SameMerit.eligible {s t : State} (h : SameMerit s t) (b : BayId)
    (hd : (t.bay b).state.decided = (s.bay b).state.decided) (hb : (t.bay b).book = (s.bay b).book) :
    t.eligible b = s.eligible b := eligible_congr (h.barReasonOf b) hd hb

/-! ### The feed selector's operations keep what Table 2-3 reads -/

theorem FeedTouches.sameMerit {c : ChanId} {s t : State} (h : FeedTouches c s t)
    (held : ∀ b, (t.bay b).sense.held = (s.bay b).sense.held) : SameMerit s t where
  latch := h.latch
  profile := fun x => by
    by_cases e : x = c
    · rw [e]; exact h.profile
    · rw [h.chans x e]
  merit := fun b => by
    obtain ⟨_, known⟩ := h.gauge b
    simp only [Bay.merit, h.identity b, known, held b, h.verdict b]

end Sys2Proof.Machine
end

section
/-! SUPPORT. What charging and feed selection leave of every bay context, and the equations of a conversion, of a turn of
the feed and of what follows it. -/

namespace Sys2Proof.Machine

/-! ### What the feed selector leaves of a bay -/

/-- A bay context but for what charging and the feed selector change: state, bar reason, book and pending, the burn and
sense wants, the sense timer and the window counts. -/
def Bay.aside (x : Bay) : Bay :=
  { x with
    state := .empty, barReason := .none, book := 0, pending := 0
    wants := { x.wants with burn := false, sense := false }
    sense := { x.sense with timer := none, windowCount := 0, posCount := 0, negCount := 0 } }

/-- Every bay keeps what charging and the feed selector do not change. -/
def KeepsAside (s t : State) : Prop := ∀ b, (t.bay b).aside = (s.bay b).aside

theorem KeepsAside.refl (s : State) : KeepsAside s s := fun _ => rfl

theorem KeepsAside.trans {s t u : State} (h : KeepsAside s t) (k : KeepsAside t u) : KeepsAside s u :=
  fun b => (k b).trans (h b)

theorem Bay.merit_of_aside {x y : Bay} (h : y.aside = x.aside) : y.merit = x.merit := by
  have identity : y.identity = x.identity := congrArg (·.identity) h
  have known : y.gaugeKnown = x.gaugeKnown := congrArg (·.gaugeKnown) h
  have held : y.sense.held = x.sense.held := congrArg (·.sense.held) h
  have verdict : y.verdict = x.verdict := congrArg (·.verdict) h
  simp only [Bay.merit, identity, known, held, verdict]

theorem FeedTouches.merits {c : ChanId} {s t : State} (h : FeedTouches c s t) (k : KeepsAside s t) :
    SameMerit s t :=
  h.sameMerit fun b => congrArg (·.sense.held) (k b)

theorem aside_of_bays {s t : State} (h : t.bays = s.bays) : KeepsAside s t := fun b => by
  simp only [State.bay, h]

theorem aside_updBay (s : State) (b : BayId) (f : Bay → Bay) (h : ∀ x, (f x).aside = x.aside) :
    KeepsAside s (s.updBay b f) := fun x => by
  rw [bay_updBay]
  split
  · exact h _
  · rfl

@[simp] theorem makeDue_bays (s : State) (serial : Serial) : (s.makeDue serial).bays = s.bays := by
  unfold State.makeDue
  split
  · rfl
  · split
    · rfl
    · split <;> rfl

@[simp] theorem makeDue_channels (s : State) (serial : Serial) : (s.makeDue serial).channels = s.channels := by
  unfold State.makeDue
  split
  · rfl
  · split
    · rfl
    · split <;> rfl

@[simp] theorem followBook_bays (s : State) (b : BayId) (n : Nat) : (s.followBook b n).bays = s.bays := by
  unfold State.followBook
  split
  · rfl
  · simp only
    split
    · exact makeDue_bays _ _
    · rfl

@[simp] theorem followBook_channels (s : State) (b : BayId) (n : Nat) : (s.followBook b n).channels = s.channels := by
  unfold State.followBook
  split
  · rfl
  · simp only
    split
    · exact makeDue_channels _ _
    · rfl

@[simp] theorem levelCrossing_bays (s : State) (b : BayId) (n : Nat) : (s.levelCrossing b n).bays = s.bays := by
  unfold State.levelCrossing
  split
  · rfl
  · split <;> rfl

@[simp] theorem levelCrossing_channels (s : State) (b : BayId) (n : Nat) :
    (s.levelCrossing b n).channels = s.channels := by
  unfold State.levelCrossing
  split
  · rfl
  · split <;> rfl

@[simp] theorem raiseBurnWant_channels (s : State) (b : BayId) : (s.raiseBurnWant b).channels = s.channels := by
  unfold State.raiseBurnWant
  split <;> rfl

/-- The burn want of a bay set to what `raiseBurnWant` makes of it. -/
theorem raiseBurnWant_eq (s : State) (b : BayId) :
    s.raiseBurnWant b = s.updBay b fun x => { x with wants := { x.wants with burn := x.wants.burn || x.burnDue } } := by
  unfold State.raiseBurnWant
  split
  · next h => exact updBay_congr (by simp [h])
  · next h => exact (updBay_eq_self (by simp [Bool.eq_false_iff.mpr h])).symm

theorem aside_raiseBurnWant (s : State) (b : BayId) : KeepsAside s (s.raiseBurnWant b) := by
  rw [raiseBurnWant_eq]
  exact aside_updBay s b _ fun _ => rfl

theorem aside_moveBay (s : State) (b : BayId) (st : BayState) : KeepsAside s (s.moveBay b st) := fun x => by
  by_cases h : x = b
  · subst h
    rw [bay_moveBay_self]
    exact moved_keeps _ st _ Bay.aside (fun _ => rfl) (fun _ _ => rfl) (fun _ => rfl) fun _ => rfl
  · rw [bay_moveBay_other _ _ _ _ h]

theorem aside_emptyWindow (s : State) (b : BayId) : KeepsAside s (s.emptyWindow b) := aside_updBay s b _ fun _ => rfl

/-! ### A conversion (R72, R73) -/

/-- The marks of a conversion charged: residue, totals, book and pending, without the effects of R73. -/
def State.chargeMarks (s : State) (c : ChanId) (b : BayId) : State :=
  (s.updChan c fun ch =>
    { ch with
      residue := ch.residue - s.marksDue c b * (s.bay b).markSize
      charged := satAdd top64 ch.charged (s.marksApplied c b * (s.bay b).markSize) }.addUnbooked
        ((s.marksDue c b - s.marksApplied c b) * (s.bay b).markSize)).updBay b fun x =>
    { x with book := x.book - s.marksApplied c b, pending := x.pending + s.marksApplied c b }

theorem convert_eq (s : State) (c : ChanId) (b : BayId) :
    s.convert c b = if s.marksApplied c b = 0 then s.chargeMarks c b
      else (((s.chargeMarks c b).followBook b (s.bay b).book).raiseBurnWant b).levelCrossing b (s.bay b).book := rfl

/-- What the history, a burn want and a notice do not change, a conversion changes as it charges its marks. -/
theorem convert_keeps {α : Type} (s : State) (c : ChanId) (b : BayId) (p : State → α)
    (hf : ∀ u : State, p (u.followBook b (s.bay b).book) = p u) (hb : ∀ u : State, p (u.raiseBurnWant b) = p u)
    (hl : ∀ u : State, p (u.levelCrossing b (s.bay b).book) = p u) : p (s.convert c b) = p (s.chargeMarks c b) := by
  rw [convert_eq]
  split
  · rfl
  · rw [hl, hb, hf]

/-- The channel that a conversion leaves. -/
theorem chan_convert (s : State) (c : ChanId) (b : BayId) :
    (s.convert c b).chan c
      = { s.chan c with
          residue := (s.chan c).residue - s.marksDue c b * (s.bay b).markSize
          charged := satAdd top64 (s.chan c).charged (s.marksApplied c b * (s.bay b).markSize) }.addUnbooked
        ((s.marksDue c b - s.marksApplied c b) * (s.bay b).markSize) := by
  refine (convert_keeps s c b (·.chan c) (fun u => ?_) (fun u => ?_) fun u => ?_).trans
    (State.chan_updChan_self s c _)
  all_goals simp only [State.chan, followBook_channels, raiseBurnWant_channels, levelCrossing_channels]

/-- The bay charged at a conversion: book and pending, and the burn want where marks were applied. -/
theorem bay_convert_self (s : State) (c : ChanId) (b : BayId) :
    ∃ burn, (s.convert c b).bay b
      = { s.bay b with
          book := (s.bay b).book - s.marksApplied c b, pending := (s.bay b).pending + s.marksApplied c b
          wants := { (s.bay b).wants with burn := burn } } := by
  have charged : (s.chargeMarks c b).bay b = _ := State.bay_updBay_self ..
  rw [convert_eq]
  split
  · exact ⟨(s.bay b).wants.burn, charged⟩
  · refine ⟨((s.bay b).wants.burn || ((s.chargeMarks c b).bay b).burnDue), ?_⟩
    rw [raiseBurnWant_eq]
    simp only [State.bay, levelCrossing_bays]
    refine (State.bay_updBay_self ..).trans ?_
    simp only [State.bay, followBook_bays]
    rw [show (s.chargeMarks c b).bays[b] = _ from charged]
    rfl

/-- A conversion leaves every other bay alone. -/
theorem bay_convert_other (s : State) (c : ChanId) (b x : BayId) (h : x ≠ b) :
    (s.convert c b).bay x = s.bay x := by
  refine (convert_keeps s c b (·.bay x) (fun u => ?_) (fun u => ?_) fun u => ?_).trans
    (State.bay_updBay_other _ _ _ _ h)
  · simp only [State.bay, followBook_bays]
  · rw [raiseBurnWant_eq]
    exact State.bay_updBay_other _ _ _ _ h
  · simp only [State.bay, levelCrossing_bays]

theorem aside_convert (s : State) (c : ChanId) (b : BayId) : KeepsAside s (s.convert c b) := fun x => by
  by_cases h : x = b
  · subst h
    obtain ⟨burn, e⟩ := bay_convert_self s c x
    rw [e]
    rfl
  · rw [bay_convert_other s c b x h]

/-- The residue left is less than a mark of the bay charged (R72 step 3). -/
theorem residue_convert (s : State) (c : ChanId) (b : BayId) :
    ((s.convert c b).chan c).residue = (s.chan c).residue % (s.bay b).markSize := by
  rw [chan_convert]
  exact (Nat.mod_eq_sub_div_mul).symm

/-! ### Turning the feed (R98) -/

theorem chanOf_bayA : ∀ c : ChanId, chanOf (bayA c) = c := by decide

theorem chanOf_bayB : ∀ c : ChanId, chanOf (bayB c) = c := by decide

theorem twinOf_ne : ∀ b : BayId, twinOf b ≠ b := by decide

theorem twinOf_twinOf : ∀ b : BayId, twinOf (twinOf b) = b := by decide

/-- The bays of a channel are one and its twin. -/
theorem eq_or_twin : ∀ b x : BayId, chanOf x = chanOf b → x = b ∨ x = twinOf b := by decide

/-- The bay whose valve `openState` opens. -/
theorem opened_bay : ∀ b : BayId, (match openState b with
    | .closed => none
    | .openA => some (bayA (chanOf b))
    | .openB => some (bayB (chanOf b))) = some b := by decide

theorem feedingBay_of_open {s : State} {b : BayId} (h : (s.chan (chanOf b)).feedState = openState b) :
    s.feedingBay (chanOf b) = some b := by
  unfold State.feedingBay
  rw [h]
  exact opened_bay b

theorem feedingBay_congr {s t : State} {c : ChanId} (h : (t.chan c).feedState = (s.chan c).feedState) :
    t.feedingBay c = s.feedingBay c := by
  unfold State.feedingBay
  rw [h]

theorem feedingBay_none_iff (s : State) (c : ChanId) : s.feedingBay c = none ↔ (s.chan c).feedState = .closed := by
  unfold State.feedingBay
  split <;> simp [*]

/-- The bay that a turn leaves: to STANDBY where it was still FEEDING. -/
def State.leaveFeed (s : State) (b : BayId) : State :=
  match s.feedingBay (chanOf b) with
  | some old => if old ≠ b ∧ (s.bay old).state = BayState.feeding then s.moveBay old .standby else s
  | none => s

theorem turnTo_eq (s : State) (b : BayId) (cause : FeedCause) :
    s.turnTo (chanOf b) b cause = ((s.leaveFeed b).moveBay b .feeding).updChan (chanOf b) fun ch =>
      { ch with feedState := openState b, closedReason := .none, feedCause := cause } := rfl

/-- Only the twin can be the bay left, and only where its valve is open and it still feeds. -/
theorem leaveFeed_cases (s : State) (b : BayId) :
    s.leaveFeed b = s ∧ ¬ (s.feedingBay (chanOf b) = some (twinOf b) ∧ (s.bay (twinOf b)).state = .feeding)
      ∨ s.leaveFeed b = s.moveBay (twinOf b) .standby ∧ s.feedingBay (chanOf b) = some (twinOf b)
        ∧ (s.bay (twinOf b)).state = .feeding := by
  unfold State.leaveFeed
  split
  · next old ho =>
    split
    · next h =>
      obtain ⟨hn, hf⟩ := h
      have twin : old = twinOf b := (eq_or_twin b old (chanOf_feedingBay s _ old ho)).resolve_left hn
      subst twin
      exact .inr ⟨rfl, ho, hf⟩
    · next h =>
      refine .inl ⟨rfl, fun ⟨open', feeds⟩ => h ?_⟩
      obtain rfl : old = twinOf b := Option.some.inj (ho.symm.trans open')
      exact ⟨twinOf_ne b, feeds⟩
  · next ho => exact .inl ⟨rfl, fun ⟨open', _⟩ => nomatch ho.symm.trans open'⟩

/-- The bay a turn leaves is its twin alone. -/
theorem bay_leaveFeed (s : State) (b : BayId) : (s.leaveFeed b).bay b = s.bay b := by
  obtain ⟨h, _⟩ | ⟨h, _⟩ := leaveFeed_cases s b <;> rw [h]
  exact bay_moveBay_other _ _ _ _ (twinOf_ne b).symm

theorem leaveFeed_keeps {α : Type} (s : State) (b : BayId) (p : State → α)
    (hp : ∀ (u : State) (f : Bay → Bay), p (u.updBay (twinOf b) f) = p u) (hr : ∀ u n, p (State.raise u n) = p u) :
    p (s.leaveFeed b) = p s := by
  obtain ⟨h, _⟩ | ⟨h, _⟩ := leaveFeed_cases s b <;> rw [h]
  exact moveBay_keeps s _ _ p hp hr

theorem aside_leaveFeed (s : State) (b : BayId) : KeepsAside s (s.leaveFeed b) := by
  obtain ⟨h, _⟩ | ⟨h, _⟩ := leaveFeed_cases s b <;> rw [h]
  · exact .refl s
  · exact aside_moveBay s _ _

theorem aside_turnTo (s : State) (b : BayId) (cause : FeedCause) :
    KeepsAside s (s.turnTo (chanOf b) b cause) := by
  rw [turnTo_eq]
  exact (aside_leaveFeed s b).trans (aside_moveBay _ b .feeding)

/-- The channel after a turn. -/
theorem chan_turnTo (s : State) (b : BayId) (cause : FeedCause) :
    (s.turnTo (chanOf b) b cause).chan (chanOf b)
      = { s.chan (chanOf b) with feedState := openState b, closedReason := .none, feedCause := cause } := by
  rw [turnTo_eq, State.chan_updChan_self, chan_moveBay,
    leaveFeed_keeps s b (·.chan (chanOf b)) (fun _ _ => rfl) fun _ _ => rfl]

/-- The bay that takes over the feed. -/
theorem bay_turnTo_self (s : State) (b : BayId) (cause : FeedCause) :
    (s.turnTo (chanOf b) b cause).bay b
      = (s.bay b).moved .feeding (s.outside.now + sensePeriodOf (s.profileOf b) * 1000000) := by
  rw [turnTo_eq, State.bay_updChan, bay_moveBay_self, bay_leaveFeed,
    leaveFeed_keeps s b (·.outside) (fun _ _ => rfl) fun _ _ => rfl,
    leaveFeed_keeps s b (·.profileOf b) (fun _ _ => rfl) fun _ _ => rfl]

/-- The twin of the bay that takes over the feed. -/
theorem bay_turnTo_twin (s : State) (b : BayId) (cause : FeedCause) :
    (s.turnTo (chanOf b) b cause).bay (twinOf b) = (s.leaveFeed b).bay (twinOf b) := by
  rw [turnTo_eq, State.bay_updChan, bay_moveBay_other _ _ _ _ (twinOf_ne b)]

/-! ### Taking up the feed (R98) -/

@[simp] theorem bay_startSettle (s : State) (c : ChanId) (b : BayId) : (s.startSettle c).bay b = s.bay b := rfl

theorem aside_takeUp (s : State) (c : ChanId) (old : Option BayId) (b : BayId) : KeepsAside s (s.takeUp c old b) := by
  unfold State.takeUp
  simp only
  refine (aside_convert s c b).trans (KeepsAside.trans ?_ (aside_emptyWindow _ b))
  split
  · exact aside_emptyWindow _ _
  · exact .refl _

/-- What an emptied window leaves alone, a take-up changes by its conversion only. -/
theorem takeUp_bay {α : Type} (s : State) (c : ChanId) (old : Option BayId) (b x : BayId) (p : Bay → α)
    (hp : ∀ y : Bay, p { y with sense := y.sense.emptyWindow } = p y) :
    p ((s.takeUp c old b).bay x) = p ((s.convert c b).bay x) := by
  have window (u : State) (o : BayId) : p ((u.emptyWindow o).bay x) = p (u.bay x) := by
    simp only [State.emptyWindow, bay_updBay]
    split
    · exact hp _
    · rfl
  unfold State.takeUp
  simp only [State.bay_raise, bay_startSettle]
  rw [window]
  split
  · exact window _ _
  · rfl

/-- The settle interval that starts at a take-up (R106). -/
def State.settleEndFrom (s : State) (c : ChanId) : Option Nat :=
  (s.chan c).profile.bind fun p => settleFrom s.outside.now p

theorem chan_startSettle (s : State) (c : ChanId) :
    (s.startSettle c).chan c = { s.chan c with settleEnd := s.settleEndFrom c } := by
  unfold State.startSettle State.settleEndFrom
  simp only
  rw [State.chan_updChan_self]
  cases h : (s.chan c).profile with
  | none => simp
  | some p => simp [settleFrom]

/-- The channel after a take-up. -/
theorem chan_takeUp (s : State) (b : BayId) (old : Option BayId) :
    (s.takeUp (chanOf b) old b).chan (chanOf b)
      = { (s.convert (chanOf b) b).chan (chanOf b) with settleEnd := s.settleEndFrom (chanOf b) } := by
  have window (u : State) (o : BayId) : (u.emptyWindow o).chan (chanOf b) = u.chan (chanOf b) := rfl
  have settles : (s.convert (chanOf b) b).settleEndFrom (chanOf b) = s.settleEndFrom (chanOf b) := by
    have touched := touches_convert s (chanOf b) b rfl
    unfold State.settleEndFrom
    rw [touched.profile, touched.outside]
  unfold State.takeUp
  simp only [State.chan_raise]
  rw [chan_startSettle, window]
  cases old with
  | none => exact congrArg (fun e => { (s.convert (chanOf b) b).chan (chanOf b) with settleEnd := e }) settles
  | some o => exact congrArg (fun e => { (s.convert (chanOf b) b).chan (chanOf b) with settleEnd := e }) settles

end Sys2Proof.Machine
end

section
/-! SUPPORT. The feed follows eligibility (R31, R97, R98): what holds of each bay by itself, and that every operation of
the feed selector leaves it so at the two bays of its channel. -/

namespace Sys2Proof.Machine

/-! ### A bay that has begun to feed -/

/-- The state once a bay has taken up the feed, before what its conversion's marks lead to (R98). -/
def State.fedTo (s : State) (b : BayId) (cause : FeedCause) : State :=
  (s.turnTo (chanOf b) b cause).takeUp (chanOf b) (s.feedingBay (chanOf b)) b

theorem aside_fedTo (s : State) (b : BayId) (cause : FeedCause) : KeepsAside s (s.fedTo b cause) :=
  (aside_turnTo s b cause).trans (aside_takeUp _ _ _ b)

theorem touches_fedTo (s : State) (b : BayId) (cause : FeedCause) : FeedTouches (chanOf b) s (s.fedTo b cause) :=
  (touches_turnTo s _ b cause rfl).trans
    (touches_takeUp _ _ _ b rfl fun o ho => chanOf_feedingBay s _ o ho)

theorem merits_fedTo (s : State) (b : BayId) (cause : FeedCause) : SameMerit s (s.fedTo b cause) :=
  (touches_fedTo s b cause).merits (aside_fedTo s b cause)

theorem merits_turnTo (s : State) (b : BayId) (cause : FeedCause) : SameMerit s (s.turnTo (chanOf b) b cause) :=
  (touches_turnTo s _ b cause rfl).merits (aside_turnTo s b cause)

/-- A turn brings the residue to the new bay as it stands: the same marks fall due and are applied. -/
theorem marks_turnTo (s : State) (b : BayId) (cause : FeedCause) :
    (s.turnTo (chanOf b) b cause).marksDue (chanOf b) b = s.marksDue (chanOf b) b
      ∧ (s.turnTo (chanOf b) b cause).marksApplied (chanOf b) b = s.marksApplied (chanOf b) b := by
  have due : (s.turnTo (chanOf b) b cause).marksDue (chanOf b) b = s.marksDue (chanOf b) b := by
    unfold State.marksDue
    rw [chan_turnTo, (merits_turnTo s b cause).markSize]
  refine ⟨due, ?_⟩
  unfold State.marksApplied
  rw [due, bay_turnTo_self, moved_book]

/-- The channel of a bay that has taken up the feed. -/
theorem chan_fedTo (s : State) (b : BayId) (cause : FeedCause) :
    ((s.fedTo b cause).chan (chanOf b)).feedState = openState b
      ∧ ((s.fedTo b cause).chan (chanOf b)).feedCause = cause
      ∧ ((s.fedTo b cause).chan (chanOf b)).closedReason = .none
      ∧ ((s.fedTo b cause).chan (chanOf b)).residue = (s.chan (chanOf b)).residue % (s.bay b).markSize
      ∧ ((s.fedTo b cause).chan (chanOf b)).settleEnd = s.settleEndFrom (chanOf b) := by
  have touched := touches_turnTo s (chanOf b) b cause rfl
  have settles : (s.turnTo (chanOf b) b cause).settleEndFrom (chanOf b) = s.settleEndFrom (chanOf b) := by
    unfold State.settleEndFrom
    rw [touched.profile, touched.outside]
  have turned := chan_turnTo s b cause
  unfold State.fedTo
  rw [chan_takeUp]
  refine ⟨?_, ?_, ?_, (residue_convert _ _ b).trans ?_, settles⟩
  · rw [chan_convert, turned]; rfl
  · rw [chan_convert, turned]; rfl
  · rw [chan_convert, turned]; rfl
  · rw [turned, (merits_turnTo s b cause).markSize]

theorem feedingBay_fedTo (s : State) (b : BayId) (cause : FeedCause) :
    (s.fedTo b cause).feedingBay (chanOf b) = some b := by
  obtain ⟨open', _⟩ := chan_fedTo s b cause
  exact feedingBay_of_open open'

/-- A bay that has taken up the feed: FEEDING, with the marks applied passed from book to pending. -/
theorem bay_fedTo_self (s : State) (b : BayId) (cause : FeedCause) :
    ((s.fedTo b cause).bay b).state = .feeding
      ∧ ((s.fedTo b cause).bay b).book = (s.bay b).book - s.marksApplied (chanOf b) b
      ∧ ((s.fedTo b cause).bay b).pending = (s.bay b).pending + s.marksApplied (chanOf b) b
      ∧ ((s.fedTo b cause).bay b).barReason = (s.bay b).barReason := by
  obtain ⟨_, applied⟩ := marks_turnTo s b cause
  obtain ⟨burn, e⟩ := bay_convert_self (s.turnTo (chanOf b) b cause) (chanOf b) b
  have shows {α : Type} (p : Bay → α) (hp : ∀ y : Bay, p { y with sense := y.sense.emptyWindow } = p y) :
      p ((s.fedTo b cause).bay b) = p _ := (takeUp_bay _ _ _ b b p hp).trans (congrArg p e)
  rw [bay_turnTo_self, applied] at e
  refine ⟨(shows (·.state) fun _ => rfl).trans ?_, (shows (·.book) fun _ => rfl).trans ?_,
    (shows (·.pending) fun _ => rfl).trans ?_, (shows (·.barReason) fun _ => rfl).trans ?_⟩ <;>
    simp [bay_turnTo_self, applied]

/-- The twin of a bay that has taken up the feed: left for STANDBY, or as it was. -/
theorem bay_fedTo_twin (s : State) (b : BayId) (cause : FeedCause) :
    ((s.fedTo b cause).bay (twinOf b)).book = (s.bay (twinOf b)).book
      ∧ ((s.fedTo b cause).bay (twinOf b)).barReason = (s.bay (twinOf b)).barReason
      ∧ ((s.feedingBay (chanOf b) = some (twinOf b) ∧ (s.bay (twinOf b)).state = .feeding
          ∧ ((s.fedTo b cause).bay (twinOf b)).state = .standby)
        ∨ ¬ (s.feedingBay (chanOf b) = some (twinOf b) ∧ (s.bay (twinOf b)).state = .feeding)
          ∧ ((s.fedTo b cause).bay (twinOf b)).state = (s.bay (twinOf b)).state) := by
  have shows {α : Type} (p : Bay → α) (hp : ∀ y : Bay, p { y with sense := y.sense.emptyWindow } = p y) :
      p ((s.fedTo b cause).bay (twinOf b)) = p ((s.leaveFeed b).bay (twinOf b)) := by
    refine (takeUp_bay _ _ _ b (twinOf b) p hp).trans (congrArg p ?_)
    rw [bay_convert_other _ _ b _ (twinOf_ne b), bay_turnTo_twin]
  have state := shows (·.state) fun _ => rfl
  have book := shows (·.book) fun _ => rfl
  have reason := shows (·.barReason) fun _ => rfl
  obtain ⟨left, stays⟩ | ⟨left, open', feeds⟩ := leaveFeed_cases s b <;> rw [left] at state book reason
  · exact ⟨book, reason, .inr ⟨stays, state⟩⟩
  · rw [bay_moveBay_self] at state book reason
    exact ⟨book.trans (moved_book ..), reason.trans (moved_barReason ..), .inl ⟨open', feeds, state.trans (moved_state ..)⟩⟩

/-! ### What holds of each bay -/

/-- The feed follows eligibility at one bay (R31, R97, R98), but for a re-evaluation that is still to come where `due`
holds. -/
structure State.FeedsWell (due : Prop) (s : State) (b : BayId) : Prop where
  valve   : (s.bay b).state = .feeding ↔ s.feedingBay (chanOf b) = some b
  fit     : (s.bay b).state.sensed = true → s.eligible b = true ∨ due
  closed  : s.feedingBay (chanOf b) = none → s.eligible b = true → due ∧ (s.bay b).state = .barred
  barred  : (s.bay b).state = .barred → s.eligible b = true → due
  drained : (s.bay b).state = .drained → (s.bay b).book = 0

/-- What holds of a bay beside one that takes over its channel's feed. -/
structure State.StandsBeside (due : Prop) (s : State) (b : BayId) : Prop where
  valve   : (s.bay b).state = .feeding → s.feedingBay (chanOf b) = some b
  fit     : (s.bay b).state.sensed = true → s.eligible b = true ∨ due
  barred  : (s.bay b).state = .barred → s.eligible b = true → due
  drained : (s.bay b).state = .drained → (s.bay b).book = 0

theorem feedSound_iff (s : State) : s.FeedSound ↔ ∀ b, s.FeedsWell False b := by
  constructor
  · rintro ⟨valve, fit, closed, barred, drained⟩ b
    refine ⟨valve b, fun h => .inl (fit b h), fun h k => ?_, fun h k => ?_, drained b⟩
    · exact absurd k (by simp [closed b h])
    · exact absurd k (by simp [barred b h])
  · intro h
    refine ⟨fun b => (h b).valve, fun b k => ((h b).fit k).resolve_right id, fun b k => ?_, fun b k => ?_,
      fun b => (h b).drained⟩
    · exact Bool.eq_false_iff.mpr fun e => ((h b).closed k e).1
    · exact Bool.eq_false_iff.mpr fun e => (h b).barred k e

theorem State.FeedsWell.beside {due : Prop} {s : State} {b : BayId} (h : s.FeedsWell due b) : s.StandsBeside due b :=
  ⟨h.valve.mp, h.fit, h.barred, h.drained⟩

/-- What holds of a bay is a matter of its state, its book, its eligibility and its channel's valves. -/
theorem State.FeedsWell.of_same {due : Prop} {s t : State} {b : BayId} (h : s.FeedsWell due b)
    (state : (t.bay b).state = (s.bay b).state) (book : (t.bay b).book = (s.bay b).book)
    (el : t.eligible b = s.eligible b) (valve : t.feedingBay (chanOf b) = s.feedingBay (chanOf b)) :
    t.FeedsWell due b :=
  ⟨by rw [state, valve]; exact h.valve, by rw [state, el]; exact h.fit, by rw [state, valve, el]; exact h.closed,
    by rw [state, el]; exact h.barred, by rw [state, book]; exact h.drained⟩

/-- An operation on a channel leaves what holds at the bays of the others. -/
theorem State.FeedsWell.elsewhere {due : Prop} {c : ChanId} {s t : State} {b : BayId} (h : s.FeedsWell due b)
    (k : AnswerTouches c s t) (hb : chanOf b ≠ c) : t.FeedsWell due b := by
  have bay := k.bays b hb
  have chan := k.chans _ hb
  have reason : t.barReasonOf b = s.barReasonOf b := by
    simp only [State.barReasonOf, State.profileOf, bay, chan, k.latch]
  exact h.of_same (by rw [bay]) (by rw [bay]) (eligible_congr reason (by rw [bay]) (by rw [bay]))
    (feedingBay_congr (by rw [chan]))

/-- A bay that has taken up the feed feeds well once its book is above 0. -/
theorem fedTo_well (s : State) (b : BayId) (cause : FeedCause) (due : Prop)
    (fits : s.barReasonOf b = .none) (left : ((s.fedTo b cause).bay b).book ≠ 0) : (s.fedTo b cause).FeedsWell due b := by
  obtain ⟨feeding, _⟩ := bay_fedTo_self s b cause
  have open' := feedingBay_fedTo s b cause
  have el : (s.fedTo b cause).eligible b = true := by
    refine (eligible_iff _ b).mpr ⟨by rw [feeding]; rfl, ?_, Nat.pos_of_ne_zero left⟩
    rw [(merits_fedTo s b cause).barReasonOf, fits]
  refine ⟨by simp [feeding, open'], fun _ => .inl el, fun h => ?_, fun h => ?_, fun h => ?_⟩
  · rw [open'] at h; exact nomatch h
  all_goals rw [feeding] at h; exact nomatch h

/-- Beside a bay that has taken up the feed its twin stands well. -/
theorem fedTo_beside (s : State) (b : BayId) (cause : FeedCause) {due : Prop} (h : s.StandsBeside due (twinOf b)) :
    (s.fedTo b cause).FeedsWell due (twinOf b) := by
  have open' := feedingBay_fedTo s b cause
  have merit := merits_fedTo s b cause
  have away : some b ≠ some (twinOf b) := fun e => twinOf_ne b (Option.some.inj e).symm
  obtain ⟨book, _, ⟨_, feeds, state⟩ | ⟨stays, state⟩⟩ := bay_fedTo_twin s b cause
  · have el := merit.eligible (twinOf b) (by rw [state, feeds]; rfl) book
    refine ⟨?_, fun _ => ?_, fun k => ?_, fun k => ?_, fun k => ?_⟩
    · rw [chanOf_twinOf, open', state]; exact ⟨nofun, fun k => absurd k away⟩
    · rw [el]; exact h.fit (by rw [feeds]; rfl)
    · rw [chanOf_twinOf, open'] at k; exact nomatch k
    all_goals rw [state] at k; exact nomatch k
  · have el := merit.eligible (twinOf b) (by rw [state]) book
    refine ⟨?_, ?_, fun k => ?_, ?_, ?_⟩
    · rw [chanOf_twinOf, open', state]
      refine ⟨fun k => absurd ⟨?_, k⟩ stays, fun k => absurd k away⟩
      rw [← chanOf_twinOf]
      exact h.valve k
    · rw [state, el]; exact h.fit
    · rw [chanOf_twinOf, open'] at k; exact nomatch k
    · rw [state, el]; exact h.barred
    · rw [state, book]; exact h.drained

/-! ### What applied marks lead to (R100, R102) -/

theorem aside_drain (s : State) (b : BayId) : KeepsAside s (s.drain b) :=
  (aside_updBay s b (fun x => { x with barReason := s.barReasonOf b }) fun _ => rfl).trans (aside_moveBay _ b .drained)

theorem merits_drain (s : State) (b : BayId) : SameMerit s (s.drain b) := (touches_drain s b).merits (aside_drain s b)

theorem bay_drain_self (s : State) (b : BayId) :
    ((s.drain b).bay b).state = .drained ∧ ((s.drain b).bay b).book = (s.bay b).book := by
  unfold State.drain
  rw [bay_moveBay_self, moved_state, moved_book, State.bay_updBay_self]
  exact ⟨rfl, rfl⟩

theorem bay_drain_other (s : State) (b x : BayId) (h : x ≠ b) : (s.drain b).bay x = s.bay x :=
  (bay_moveBay_other _ b x _ h).trans (State.bay_updBay_other _ _ _ _ h)

@[simp] theorem chan_drain (s : State) (b : BayId) (c : ChanId) : (s.drain b).chan c = s.chan c := chan_moveBay ..

theorem aside_afterMarks (s : State) (c : ChanId) (b : BayId) : KeepsAside s (s.afterMarks c b).1 := by
  unfold State.afterMarks
  split
  · simp only
    split <;> exact aside_drain s b
  · split <;> exact .refl s

/-- What applied marks lead to: a drained bay, with the feed passed on or the channel closed, a threshold met, or
nothing. -/
theorem afterMarks_cases (s : State) (b : BayId) :
    ((s.bay b).book = 0 ∧ s.eligible (twinOf b) = true ∧ s.afterMarks (chanOf b) b = (s.drain b, .switch .drained))
      ∨ ((s.bay b).book = 0 ∧ s.eligible (twinOf b) = false ∧ s.afterMarks (chanOf b) b = (s.drain b, .close))
      ∨ ((s.bay b).book ≠ 0 ∧ s.thresholdMet (chanOf b) = true
          ∧ s.afterMarks (chanOf b) b = (s, .switch .threshold))
      ∨ ((s.bay b).book ≠ 0 ∧ s.afterMarks (chanOf b) b = (s, .stay)) := by
  have twin : (s.drain b).eligible (twinOf b) = s.eligible (twinOf b) := by
    have bay := bay_drain_other s b _ (twinOf_ne b)
    exact (merits_drain s b).eligible _ (by rw [bay]) (by rw [bay])
  unfold State.afterMarks
  simp only [twin]
  split
  · split <;> simp_all
  · split <;> simp_all

/-- A threshold test that is met names an eligible twin of the feeding bay (R99). -/
theorem thresholdMet_twin {s : State} {c : ChanId} {b : BayId} (h : s.thresholdMet c = true)
    (hb : s.feedingBay c = some b) : s.eligible (twinOf b) = true := by
  simp only [State.thresholdMet, hb, Bool.and_eq_true] at h
  obtain ⟨⟨_, fit⟩, _⟩ := h
  exact fit

theorem feedingBay_close (s : State) (c : ChanId) (cause : FeedCause) : (s.closeChannel c cause).feedingBay c = none := by
  rw [feedingBay_none_iff]
  exact congrArg Channel.feedState (State.chan_updChan_self s c _)

theorem aside_closeChannel (s : State) (c : ChanId) (cause : FeedCause) : KeepsAside s (s.closeChannel c cause) :=
  fun _ => rfl

/-- A channel closed beside bays that do not feed and are not eligible. -/
theorem close_well {s : State} {c : ChanId} {cause : FeedCause} {due : Prop} {b : BayId} (hc : chanOf b = c)
    (h : s.StandsBeside due b) (feeds : (s.bay b).state ≠ .feeding) (el : s.eligible b = false) :
    (s.closeChannel c cause).FeedsWell due b := by
  subst hc
  have shut := feedingBay_close s (chanOf b) cause
  have same : (s.closeChannel (chanOf b) cause).eligible b = s.eligible b :=
    ((touches_closeChannel s (chanOf b) cause).merits (aside_closeChannel s _ cause)).eligible b rfl rfl
  refine ⟨by rw [shut]; exact ⟨fun k => absurd k feeds, nofun⟩, fun k => ?_, fun _ k => ?_, fun _ k => ?_, h.drained⟩
  · exact .inr ((h.fit k).resolve_left (by simp [el]))
  all_goals rw [same, el] at k; exact nomatch k

/-- What the marks applied to a feeding bay lead to leaves well: the bay itself, its twin, and the hand-over to it. -/
def MoveWell (b : BayId) (due dueTwin : Prop) : State × FeedMove → Prop
  | (s, .stay) => s.FeedsWell due b ∧ s.FeedsWell dueTwin (twinOf b)
  | (s, .switch _) => s.eligible (twinOf b) = true ∧ s.StandsBeside due b
  | (s, .close) => (s.closeChannel (chanOf b) .drained).FeedsWell due b
      ∧ (s.closeChannel (chanOf b) .drained).FeedsWell dueTwin (twinOf b)

/-- A bay that feeds and fails no condition but that of its book. -/
structure State.FeedsOn (s : State) (b : BayId) : Prop where
  open'   : s.feedingBay (chanOf b) = some b
  feeding : (s.bay b).state = .feeding
  fits    : s.barReasonOf b = .none

theorem State.FeedsOn.well {s : State} {b : BayId} (h : s.FeedsOn b) (left : (s.bay b).book ≠ 0) (due : Prop) :
    s.FeedsWell due b := by
  have el : s.eligible b = true :=
    (eligible_iff s b).mpr ⟨by rw [h.feeding]; rfl, h.fits, Nat.pos_of_ne_zero left⟩
  have state := h.feeding
  refine ⟨by simp [state, h.open'], fun _ => .inl el, fun k => ?_, fun k => ?_, fun k => ?_⟩
  · rw [h.open'] at k; exact nomatch k
  all_goals rw [state] at k; exact nomatch k

theorem afterMarks_well {s : State} {b : BayId} {dueTwin : Prop} (h : s.FeedsOn b)
    (twin : s.FeedsWell dueTwin (twinOf b)) (due : Prop) : MoveWell b due dueTwin (s.afterMarks (chanOf b) b) := by
  have drained : (s.bay b).book = 0 → (s.drain b).StandsBeside due b := fun empty => by
    obtain ⟨state, book⟩ := bay_drain_self s b
    refine ⟨fun k => ?_, fun k => ?_, fun k => ?_, fun _ => book.trans empty⟩ <;> rw [state] at k <;> exact nomatch k
  have other := bay_drain_other s b _ (twinOf_ne b)
  have el : (s.drain b).eligible (twinOf b) = s.eligible (twinOf b) :=
    (merits_drain s b).eligible _ (by rw [other]) (by rw [other])
  obtain ⟨empty, fit, e⟩ | ⟨empty, unfit, e⟩ | ⟨left, met, e⟩ | ⟨left, e⟩ := afterMarks_cases s b <;> rw [e]
  · exact ⟨el.trans fit, drained empty⟩
  · obtain ⟨state, book⟩ := bay_drain_self s b
    have twin' : (s.drain b).FeedsWell dueTwin (twinOf b) :=
      twin.of_same (by rw [other]) (by rw [other]) el (feedingBay_congr (by rw [chan_drain]))
    refine ⟨close_well rfl (drained empty) (by rw [state]; nofun) ?_,
      close_well (chanOf_twinOf b) twin'.beside (fun k => ?_) (el.trans unfit)⟩
    · exact (not_eligible_iff _ b).mpr fun _ _ => book.trans empty
    · rw [other] at k
      have open' := twin.valve.mp k
      rw [chanOf_twinOf, h.open'] at open'
      exact twinOf_ne b (Option.some.inj open').symm
  · exact ⟨thresholdMet_twin met h.open', (h.well left due).beside⟩
  · exact ⟨h.well left due, twin⟩

/-! ### Feeding begun, with the changes that follow (R98) -/

/-- The bound on the changes of feed leaves enough of them: a second change in a row brings back less residue than a
mark of the first bay. -/
def State.TurnsLeft (s : State) (b : BayId) : Nat → Prop
  | 0 => (s.chan (chanOf b)).residue < (s.bay b).markSize
  | 1 => (s.chan (chanOf b)).residue < (s.bay (twinOf b)).markSize
  | _ + 2 => True

/-- Marks are applied where the residue holds at least one. -/
theorem marksApplied_pos {s : State} {b : BayId} (h : s.marksApplied (chanOf b) b ≠ 0) :
    0 < (s.bay b).markSize ∧ (s.bay b).markSize ≤ (s.chan (chanOf b)).residue := by
  have due : s.marksDue (chanOf b) b ≠ 0 := fun e => h (by simp [State.marksApplied, e])
  unfold State.marksDue at due
  rw [Nat.div_ne_zero_iff] at due
  exact ⟨Nat.pos_of_ne_zero due.1, due.2⟩

/-- A conversion that applied marks and passed the feed on leaves enough changes to the twin. -/
theorem TurnsLeft.next {s u : State} {b : BayId} {n : Nat} (h : s.TurnsLeft b (n + 1))
    (applied : s.marksApplied (chanOf b) b ≠ 0) (merit : SameMerit s u)
    (residue : (u.chan (chanOf b)).residue = (s.chan (chanOf b)).residue % (s.bay b).markSize) :
    u.TurnsLeft (twinOf b) n := by
  obtain ⟨pos, _⟩ := marksApplied_pos applied
  match n with
  | 0 =>
    unfold State.TurnsLeft at *
    rw [chanOf_twinOf, merit.markSize, residue]
    exact lt_of_le_of_lt (Nat.mod_le _ _) h
  | 1 =>
    show (u.chan (chanOf (twinOf b))).residue < (u.bay (twinOf (twinOf b))).markSize
    rw [chanOf_twinOf, twinOf_twinOf, merit.markSize, residue]
    exact Nat.mod_lt _ pos
  | _ + 2 => trivial

/-- Feeding begun by its first turn and what the marks applied lead to. -/
theorem beginFeeding_eq (n : Nat) (s : State) (b : BayId) (cause : FeedCause) :
    s.beginFeeding n (chanOf b) b cause
      = if s.marksApplied (chanOf b) b = 0 then s.fedTo b cause
        else match n with
          | 0 => s.fedTo b cause
          | n + 1 =>
            match (s.fedTo b cause).afterMarks (chanOf b) b with
            | (s, .stay) => s
            | (s, .switch cause') => s.beginFeeding n (chanOf b) (twinOf b) cause'
            | (s, .close) => s.closeChannel (chanOf b) .drained := by
  obtain ⟨_, applied⟩ := marks_turnTo s b cause
  cases n <;> (conv_lhs => unfold State.beginFeeding) <;> simp only [applied] <;> rfl

theorem beginFeeding_well (n : Nat) {s : State} {b : BayId} {dueTwin : Prop} (cause : FeedCause) (due : Prop)
    (turns : s.TurnsLeft b n) (el : s.eligible b = true) (twin : s.StandsBeside dueTwin (twinOf b)) :
    (s.beginFeeding n (chanOf b) b cause).FeedsWell due b
      ∧ (s.beginFeeding n (chanOf b) b cause).FeedsWell dueTwin (twinOf b) := by
  induction n generalizing s b due dueTwin cause with
  | zero =>
    obtain ⟨_, fits, some'⟩ := (eligible_iff s b).mp el
    obtain ⟨_, book, _⟩ := bay_fedTo_self s b cause
    have none' : s.marksApplied (chanOf b) b = 0 := by
      by_contra h
      obtain ⟨_, le⟩ := marksApplied_pos h
      exact absurd (lt_of_lt_of_le turns le) (lt_irrefl _)
    rw [beginFeeding_eq, if_pos none']
    exact ⟨fedTo_well s b cause due fits (by omega), fedTo_beside s b cause twin⟩
  | succ n ih =>
    obtain ⟨_, fits, some'⟩ := (eligible_iff s b).mp el
    obtain ⟨feeding, book, _⟩ := bay_fedTo_self s b cause
    have merit := merits_fedTo s b cause
    rw [beginFeeding_eq]
    split
    · exact ⟨fedTo_well s b cause due fits (by omega), fedTo_beside s b cause twin⟩
    · next applied =>
      have on : (s.fedTo b cause).FeedsOn b :=
        ⟨feedingBay_fedTo s b cause, feeding, (merit.barReasonOf b).trans fits⟩
      have move := afterMarks_well on (fedTo_beside s b cause twin) due
      have touched := touches_afterMarks (s.fedTo b cause) _ b rfl
      have kept := (merit.trans (touched.merits (aside_afterMarks _ _ b)))
      have residue : (((s.fedTo b cause).afterMarks (chanOf b) b).1.chan (chanOf b)).residue
          = (s.chan (chanOf b)).residue % (s.bay b).markSize := by
        obtain ⟨_, _, _, e, _⟩ := chan_fedTo s b cause
        rw [← e]
        obtain ⟨_, _, k⟩ | ⟨_, _, k⟩ | ⟨_, _, k⟩ | ⟨_, k⟩ := afterMarks_cases (s.fedTo b cause) b <;> simp [k]
      have left := TurnsLeft.next turns applied kept residue
      simp only
      split
      · next u k => rw [k] at move; exact move
      · next u cause' k =>
        rw [k] at move left
        obtain ⟨fit, beside⟩ := move
        have back := ih (b := twinOf b) cause' dueTwin left fit (dueTwin := due) (by rw [twinOf_twinOf]; exact beside)
        rw [chanOf_twinOf, twinOf_twinOf] at back
        exact back.symm
      · next u k => rw [k] at move; exact move

end Sys2Proof.Machine
end

section
/-! SUPPORT. Every operation of the feed selector and of the bay controller leaves the feed following eligibility at the
two bays of its channel. -/

namespace Sys2Proof.Machine

/-! ### What the composed operations leave of a bay -/

theorem aside_beginFeeding (n : Nat) (s : State) (b : BayId) (cause : FeedCause) :
    KeepsAside s (s.beginFeeding n (chanOf b) b cause) := by
  induction n generalizing s b cause with
  | zero => rw [beginFeeding_eq]; split <;> exact aside_fedTo s b cause
  | succ n ih =>
    have fed := aside_fedTo s b cause
    have marks := aside_afterMarks (s.fedTo b cause) (chanOf b) b
    rw [beginFeeding_eq]
    split
    · exact fed
    · simp only
      split
      · next u k => rw [k] at marks; exact fed.trans marks
      · next u cause' k =>
        rw [k] at marks
        have back := ih u (twinOf b) cause'
        rw [chanOf_twinOf] at back
        exact (fed.trans marks).trans back
      · next u k => rw [k] at marks; exact (fed.trans marks).trans (aside_closeChannel u _ _)

theorem aside_feedFrom (s : State) (c : ChanId) (b : BayId) (cause : FeedCause) (h : chanOf b = c) :
    KeepsAside s (s.feedFrom c b cause) := by
  subst h
  exact aside_beginFeeding feedBound s b cause

theorem aside_feedLost (s : State) (b : BayId) (cause : FeedCause) : KeepsAside s (s.feedLost b cause) := by
  unfold State.feedLost
  split
  · exact aside_feedFrom s _ _ cause (chanOf_twinOf b)
  · exact aside_closeChannel s _ cause

theorem aside_thresholdTest (s : State) (c : ChanId) : KeepsAside s (s.thresholdTest c) := by
  unfold State.thresholdTest
  split
  · split
    · next b hb => exact aside_feedFrom s c _ _ ((chanOf_twinOf b).trans (chanOf_feedingBay s c b hb))
    · exact .refl s
  · exact .refl s

theorem aside_becameEligible (s : State) (b : BayId) : KeepsAside s (s.becameEligible b) := by
  unfold State.becameEligible
  simp only
  split
  · exact aside_thresholdTest s _
  · split
    · next x hx => exact aside_feedFrom s _ x _ (chanOf_openingChoice s _ x hx)
    · exact .refl s

theorem aside_reevaluate (s : State) (b : BayId) : KeepsAside s (s.reevaluate b) := by
  have bar : KeepsAside s (s.updBay b fun x => { x with barReason := s.barReasonOf b }) :=
    aside_updBay s b _ fun _ => rfl
  unfold State.reevaluate
  simp only
  split
  · split
    · exact bar
    · split
      · split
        · exact (bar.trans (aside_moveBay _ b _)).trans (aside_becameEligible _ b)
        · exact bar
      · split
        · exact (bar.trans (aside_moveBay _ b _)).trans (aside_feedLost _ b _)
        · exact bar.trans (aside_moveBay _ b _)
  · exact .refl s

theorem merits_reevaluate (s : State) (b : BayId) : SameMerit s (s.reevaluate b) :=
  (touches_reevaluate s b).merits (aside_reevaluate s b)

theorem merits_moveBay (s : State) (b : BayId) (st : BayState) : SameMerit s (s.moveBay b st) :=
  (touches_moveBay s b st).merits (aside_moveBay s b st)

/-! ### Beginning, losing and taking up the feed -/

theorem feedFrom_well {s : State} {b : BayId} {dueTwin : Prop} (cause : FeedCause) (due : Prop)
    (el : s.eligible b = true) (twin : s.StandsBeside dueTwin (twinOf b)) :
    (s.feedFrom (chanOf b) b cause).FeedsWell due b ∧ (s.feedFrom (chanOf b) b cause).FeedsWell dueTwin (twinOf b) :=
  beginFeeding_well feedBound cause due trivial el twin

/-- A channel whose feeding bay has left the feed passes to the twin or closes. -/
theorem feedLost_well {s : State} {b : BayId} {due dueTwin : Prop} (cause : FeedCause)
    (here : s.StandsBeside due b) (left : (s.bay b).state ≠ .feeding) (unfit : s.eligible b = false)
    (twin : s.StandsBeside dueTwin (twinOf b)) (idle : (s.bay (twinOf b)).state ≠ .feeding) :
    (s.feedLost b cause).FeedsWell due b ∧ (s.feedLost b cause).FeedsWell dueTwin (twinOf b) := by
  unfold State.feedLost
  split
  · next fit =>
    have fed := feedFrom_well (b := twinOf b) cause dueTwin fit (dueTwin := due) (by rw [twinOf_twinOf]; exact here)
    rw [chanOf_twinOf, twinOf_twinOf] at fed
    exact fed.symm
  · next no =>
    exact ⟨close_well rfl here left unfit, close_well (chanOf_twinOf b) twin idle (Bool.eq_false_iff.mpr no)⟩

theorem thresholdTest_well {s : State} {b : BayId} {due dueTwin : Prop} (here : s.FeedsWell due b)
    (twin : s.FeedsWell dueTwin (twinOf b)) :
    (s.thresholdTest (chanOf b)).FeedsWell due b ∧ (s.thresholdTest (chanOf b)).FeedsWell dueTwin (twinOf b) := by
  unfold State.thresholdTest
  split
  · next met =>
    split
    · next x hx =>
      have fit := thresholdMet_twin met hx
      obtain rfl | rfl := eq_or_twin b x (chanOf_feedingBay s _ x hx)
      · have fed := feedFrom_well (b := twinOf x) .threshold dueTwin fit (dueTwin := due)
          (by rw [twinOf_twinOf]; exact here.beside)
        rw [chanOf_twinOf, twinOf_twinOf] at fed
        exact fed.symm
      · rw [twinOf_twinOf] at fit ⊢
        exact feedFrom_well .threshold due fit twin.beside
    · exact ⟨here, twin⟩
  · exact ⟨here, twin⟩

theorem bayA_or_bayB : ∀ b : BayId, b = bayA (chanOf b) ∨ b = bayB (chanOf b) := by decide

/-- A channel with an eligible bay opens with one of its eligible bays (R97). -/
theorem openingChoice_of_eligible {s : State} {b : BayId} (h : s.eligible b = true) :
    ∃ x, s.openingChoice (chanOf b) = some x ∧ s.eligible x = true ∧ chanOf x = chanOf b := by
  have side := bayA_or_bayB b
  have hA := chanOf_bayA (chanOf b)
  have hB := chanOf_bayB (chanOf b)
  unfold State.openingChoice
  simp only
  split
  · next nA nB =>
    obtain e | e := side
    · rw [← e] at nA; exact nomatch nA.symm.trans h
    · rw [← e] at nB; exact nomatch nB.symm.trans h
  · next yA _ => exact ⟨_, rfl, yA, hA⟩
  · next _ yB => exact ⟨_, rfl, yB, hB⟩
  · next yA yB =>
    split
    · exact ⟨_, rfl, yA, hA⟩
    · split
      · exact ⟨_, rfl, yB, hB⟩
      · split
        · exact ⟨_, rfl, yA, hA⟩
        · exact ⟨_, rfl, yB, hB⟩

/-- A bay that became eligible in STANDBY is taken up. -/
theorem becameEligible_well {s : State} {b : BayId} {due dueTwin : Prop} (here : s.StandsBeside due b)
    (fit : s.eligible b = true) (waits : (s.bay b).state ≠ .feeding) (aside : s.feedingBay (chanOf b) ≠ some b)
    (twin : s.FeedsWell dueTwin (twinOf b)) :
    (s.becameEligible b).FeedsWell due b ∧ (s.becameEligible b).FeedsWell dueTwin (twinOf b) := by
  unfold State.becameEligible
  simp only
  split
  · next x hx =>
    refine thresholdTest_well ⟨⟨fun k => absurd k waits, fun k => absurd k aside⟩, here.fit, fun k => ?_, here.barred,
      here.drained⟩ twin
    rw [hx] at k
    exact nomatch k
  · obtain ⟨x, choice, fits, same⟩ := openingChoice_of_eligible fit
    rw [choice]
    simp only
    obtain rfl | rfl := eq_or_twin b x same
    · exact feedFrom_well .opened due fits twin.beside
    · have fed := feedFrom_well .opened dueTwin fits (dueTwin := due) (by rw [twinOf_twinOf]; exact here)
      rw [chanOf_twinOf, twinOf_twinOf] at fed
      exact fed.symm

/-! ### Re-evaluation (R31) -/

/-- A bay that is not decided on waits for no re-evaluation. -/
theorem State.FeedsWell.undecided {s : State} {b : BayId} {due : Prop} (h : s.FeedsWell due b)
    (un : (s.bay b).state.decided = false) (due' : Prop) : s.FeedsWell due' b := by
  have unfit : s.eligible b = false := (not_eligible_iff s b).mpr fun k => absurd k (by simp [un])
  refine ⟨h.valve, fun k => ?_, fun _ k => ?_, fun _ k => ?_, h.drained⟩
  · rw [decided_of_sensed k] at un; exact nomatch un
  all_goals rw [unfit] at k; exact nomatch k

/-- A change of nothing but what charging and the feed selector own, at a bay that keeps state and book. -/
theorem State.FeedsWell.of_merit {s t : State} {b : BayId} {due : Prop} (h : s.FeedsWell due b) (merit : SameMerit s t)
    (state : (t.bay b).state = (s.bay b).state) (book : (t.bay b).book = (s.bay b).book)
    (chan : (t.chan (chanOf b)).feedState = (s.chan (chanOf b)).feedState) : t.FeedsWell due b :=
  h.of_same state book (merit.eligible b (by rw [state]) book) (feedingBay_congr chan)

/-- A bay moved out of the feed, or into STANDBY, as Table 2-4 says. -/
theorem moveBay_beside {s : State} {b : BayId} {st : BayState} {due : Prop} (feeding : st ≠ .feeding)
    (fit : st.sensed = true → s.barReasonOf b = .none ∧ 0 < (s.bay b).book)
    (barred : st = .barred → s.meetsConditions b = false)
    (drained : st = .drained → (s.bay b).book = 0) : (s.moveBay b st).StandsBeside due b := by
  have merit := merits_moveBay s b st
  have bay := bay_moveBay_self s b st
  have state : ((s.moveBay b st).bay b).state = st := by rw [bay, moved_state]
  have book : ((s.moveBay b st).bay b).book = (s.bay b).book := by rw [bay, moved_book]
  refine ⟨fun k => absurd (state.symm.trans k) feeding, fun k => .inl ?_, fun k el => ?_, fun k => ?_⟩
  · rw [state] at k
    obtain ⟨fits, left⟩ := fit k
    refine (eligible_iff _ b).mpr ⟨?_, (merit.barReasonOf b).trans fits, by rw [book]; exact left⟩
    rw [state]
    exact decided_of_sensed k
  · rw [state] at k
    simp [State.eligible, merit.meetsConditions b book, barred k] at el
  · rw [book]; exact drained (state.symm.trans k)

/-- The state Table 2-4 gives an ineligible bay. -/
theorem ineligibleState_cases (x : Bay) :
    (x.ineligibleState = .drained ∧ x.gaugeKnown = true ∧ x.book = 0)
      ∨ (x.ineligibleState = .barred ∧ (x.gaugeKnown = true → x.book ≠ 0)) := by
  unfold Bay.ineligibleState
  split
  · next h => exact .inl ⟨rfl, h⟩
  · next h => exact .inr ⟨rfl, fun k e => h ⟨k, e⟩⟩

/-- A bay moved to the state Table 2-4 gives an ineligible one. -/
theorem ineligible_beside {s : State} {b : BayId} {due : Prop} (no : s.meetsConditions b = false) :
    (s.moveBay b (s.bay b).ineligibleState).StandsBeside due b
      ∧ ((s.moveBay b (s.bay b).ineligibleState).bay b).state ≠ .feeding
      ∧ (s.moveBay b (s.bay b).ineligibleState).eligible b = false := by
  have bay := bay_moveBay_self s b (s.bay b).ineligibleState
  have unfit : (s.moveBay b (s.bay b).ineligibleState).eligible b = false := by
    simp [State.eligible, (merits_moveBay s b _).meetsConditions b (by rw [bay, moved_book]), no]
  obtain ⟨e, _, empty⟩ | ⟨e, _⟩ := ineligibleState_cases (s.bay b)
  · refine ⟨moveBay_beside ?_ ?_ ?_ fun _ => empty, by rw [bay, moved_state, e]; exact nofun, unfit⟩ <;> rw [e] <;> nofun
  · refine ⟨moveBay_beside ?_ ?_ (fun _ => no) ?_, by rw [bay, moved_state, e]; exact nofun, unfit⟩ <;> rw [e] <;>
      nofun

theorem reevaluate_well {s : State} {b : BayId} {due dueTwin : Prop} (here : s.FeedsWell due b)
    (twin : s.FeedsWell dueTwin (twinOf b)) (due' : Prop) :
    (s.reevaluate b).FeedsWell due' b ∧ (s.reevaluate b).FeedsWell dueTwin (twinOf b) := by
  have other := State.bay_updBay_other s b (twinOf b) (fun x => { x with barReason := s.barReasonOf b }) (twinOf_ne b)
  have self := State.bay_updBay_self s b (fun x => { x with barReason := s.barReasonOf b })
  have bar : KeepsAside s (s.updBay b fun x => { x with barReason := s.barReasonOf b }) :=
    aside_updBay s b _ fun _ => rfl
  unfold State.reevaluate
  simp only
  split
  case isFalse no => exact ⟨here.undecided (Bool.eq_false_iff.mpr no) _, twin⟩
  case isTrue yes =>
    generalize hu : (s.updBay b fun x => { x with barReason := s.barReasonOf b }) = u at *
    have merit : SameMerit s u :=
      ⟨by rw [← hu]; rfl, fun c => by rw [← hu]; rfl, fun x => Bay.merit_of_aside (bar x)⟩
    have chan : u.chan (chanOf b) = s.chan (chanOf b) := by rw [← hu]; rfl
    have state : (u.bay b).state = (s.bay b).state := by rw [self]
    have book : (u.bay b).book = (s.bay b).book := by rw [self]
    have twin' : u.FeedsWell dueTwin (twinOf b) :=
      twin.of_merit merit (by rw [other]) (by rw [other]) (by rw [chanOf_twinOf, chan])
    have here' : u.FeedsWell due b := here.of_merit merit state book (by rw [chan])
    have meets : u.meetsConditions b = s.meetsConditions b := merit.meetsConditions b book
    have twinMoved (st : BayState) : (u.moveBay b st).FeedsWell dueTwin (twinOf b) :=
      twin'.of_merit (merits_moveBay u b st) (by rw [bay_moveBay_other _ _ _ _ (twinOf_ne b)])
        (by rw [bay_moveBay_other _ _ _ _ (twinOf_ne b)]) (by rw [chan_moveBay])
    split
    · next drained =>
      have empty := here'.drained (state.trans drained)
      have unfit : u.eligible b = false := (not_eligible_iff u b).mpr fun _ _ => empty
      refine ⟨⟨here'.valve, fun k => ?_, fun _ k => ?_, fun _ k => ?_, here'.drained⟩, twin'⟩
      · rw [state, drained] at k; exact nomatch k
      all_goals rw [unfit] at k; exact nomatch k
    · next undrained =>
      split
      · next fits =>
        rw [← meets, State.meetsConditions, Bool.and_eq_true, decide_eq_true_eq, decide_eq_true_eq] at fits
        have fit : u.eligible b = true := (eligible_iff u b).mpr ⟨by rw [state]; exact yes, fits⟩
        split
        · next barred =>
          have bay := bay_moveBay_self u b .standby
          have moved : ((u.moveBay b .standby).bay b).state = .standby := by rw [bay, moved_state]
          refine becameEligible_well (moveBay_beside nofun (fun _ => fits) nofun nofun) ?_ (by rw [moved]; nofun)
            (fun k => ?_) (twinMoved .standby)
          · exact ((merits_moveBay u b .standby).eligible b (by rw [moved, state, barred]; rfl)
              (by rw [bay, moved_book])).trans fit
          · rw [feedingBay_congr (congrArg Channel.feedState (chan_moveBay u b .standby _))] at k
            have feeds := here'.valve.mpr k
            rw [state, barred] at feeds
            exact nomatch feeds
        · next open' =>
          refine ⟨⟨here'.valve, fun _ => .inl fit, fun k _ => ?_, fun k => ?_, here'.drained⟩, twin'⟩
          · exact absurd (state.symm.trans (here'.closed k fit).2) open'
          · exact absurd (state.symm.trans k) open'
      · next no =>
        have no' : u.meetsConditions b = false := by rw [meets]; exact Bool.eq_false_iff.mpr no
        obtain ⟨beside, left, unfit⟩ := ineligible_beside (due := due') no'
        split
        · next feeds =>
          have open' := here'.valve.mp (state.trans feeds)
          refine feedLost_well _ beside left unfit (twinMoved _).beside fun k => ?_
          have twinOpen := (twinMoved _).valve.mp k
          rw [chanOf_twinOf, feedingBay_congr (congrArg Channel.feedState (chan_moveBay u b _ _)), open'] at twinOpen
          exact twinOf_ne b (Option.some.inj twinOpen).symm
        · next idle =>
          refine ⟨⟨⟨fun k => absurd k left, fun k => ?_⟩, beside.fit, fun _ k => ?_, beside.barred, beside.drained⟩,
            twinMoved _⟩
          · rw [feedingBay_congr (congrArg Channel.feedState (chan_moveBay u b _ _))] at k
            exact absurd (state.symm.trans (here'.valve.mpr k)) idle
          · rw [unfit] at k; exact nomatch k

end Sys2Proof.Machine
end

section
/-! SUPPORT. What every operation carries on: the part state, a latch that is on, and a feed that follows eligibility. -/

namespace Sys2Proof.Machine

/-! ### The relation -/

/-- From `s` to `t` the part state stays, a latch that is on stays on, and a sound feed stays sound. -/
structure Carries (s t : State) : Prop where
  partState : t.port.partState = s.port.partState
  latch     : s.latch = true → t.latch = true
  feed      : s.FeedSound → t.FeedSound

theorem Carries.refl (s : State) : Carries s s := ⟨rfl, id, id⟩

theorem Carries.trans {s t u : State} (h : Carries s t) (k : Carries t u) : Carries s u :=
  ⟨k.partState.trans h.partState, k.latch ∘ h.latch, k.feed ∘ h.feed⟩

/-- A change beside latch, bays and channels carries on. -/
theorem carries_beside {s t : State} (part : t.port.partState = s.port.partState) (latch : t.latch = s.latch)
    (bays : t.bays = s.bays) (channels : t.channels = s.channels) : Carries s t := by
  refine ⟨part, fun h => latch.trans h, fun h => (feedSound_iff t).mpr fun b => ?_⟩
  have bay (x : BayId) : t.bay x = s.bay x := by simp only [State.bay, bays]
  have chan (c : ChanId) : t.chan c = s.chan c := by simp only [State.chan, channels]
  exact ((feedSound_iff s).mp h b).of_merit ⟨latch, fun c => by rw [chan], fun x => by rw [bay]⟩ (by rw [bay])
    (by rw [bay]) (by rw [chan])

/-- What the end of an event does carries on. -/
theorem KeptAtEnd.carries {s t : State} (h : KeptAtEnd s t) : Carries s t := by
  have state (b : BayId) : (t.bay b).state = (s.bay b).state := (congrArg Bay.state (h.bays b) :)
  have book (b : BayId) : (t.bay b).book = (s.bay b).book := (congrArg Bay.book (h.bays b) :)
  have chan (c : ChanId) : t.chan c = s.chan c := by simp only [State.chan, h.channels]
  refine ⟨(congrArg Port.partState h.port :), fun k => h.latch.trans k,
    fun k => (feedSound_iff t).mpr fun b => ((feedSound_iff s).mp k b).of_merit ?_ (state b) (book b) (by rw [chan])⟩
  exact ⟨h.latch, fun c => by rw [chan], fun x => (congrArg Bay.merit (h.bays x) :)⟩

/-- An operation on the two bays of a channel that leaves them well carries on. -/
theorem AnswerTouches.carries {s t : State} {b : BayId} (h : AnswerTouches (chanOf b) s t)
    (well : (∀ x, s.FeedsWell False x) → t.FeedsWell False b ∧ t.FeedsWell False (twinOf b)) : Carries s t := by
  refine ⟨(congrArg Port.partState h.port :), fun k => h.latch.trans k, fun k => (feedSound_iff t).mpr fun x => ?_⟩
  have before := (feedSound_iff s).mp k
  by_cases hx : chanOf x = chanOf b
  · obtain ⟨here, twin⟩ := well before
    obtain rfl | rfl := eq_or_twin b x hx
    · exact here
    · exact twin
  · exact (before x).elsewhere h hx

theorem carries_updChan (s : State) (c : ChanId) (f : Channel → Channel)
    (h : ∀ x, (f x).profile = x.profile ∧ (f x).feedState = x.feedState) : Carries s (s.updChan c f) := by
  have chan (x : ChanId) : ((s.updChan c f).chan x).profile = (s.chan x).profile
      ∧ ((s.updChan c f).chan x).feedState = (s.chan x).feedState := by
    by_cases e : x = c
    · rw [e, State.chan_updChan_self]; exact h _
    · rw [State.chan_updChan_other _ _ _ _ e]; exact ⟨rfl, rfl⟩
  refine ⟨rfl, id, fun k => (feedSound_iff _).mpr fun b => ((feedSound_iff s).mp k b).of_merit ?_ rfl rfl (chan _).2⟩
  exact ⟨rfl, fun x => (chan x).1, fun _ => rfl⟩

/-- Operations one after the other carry on. -/
theorem carries_foldl {α : Type} (f : State → α → State) (h : ∀ s x, Carries s (f s x)) (l : List α) (s : State) :
    Carries s (l.foldl f s) := by
  induction l generalizing s with
  | nil => exact .refl s
  | cons x l ih => exact (h s x).trans (ih _)

/-! ### An operation on one bay -/

/-- From `s` to `t` of bays and channels only one bay context changes; part state and latch stay. -/
structure OnlyBay (b : BayId) (s t : State) : Prop where
  partState : t.port.partState = s.port.partState
  latch     : t.latch = s.latch
  channels  : t.channels = s.channels
  bays      : ∀ x, x ≠ b → t.bay x = s.bay x

theorem OnlyBay.refl (b : BayId) (s : State) : OnlyBay b s s := ⟨rfl, rfl, rfl, fun _ _ => rfl⟩

theorem OnlyBay.trans {b : BayId} {s t u : State} (h : OnlyBay b s t) (k : OnlyBay b t u) : OnlyBay b s u :=
  ⟨k.partState.trans h.partState, k.latch.trans h.latch, k.channels.trans h.channels,
    fun x hx => (k.bays x hx).trans (h.bays x hx)⟩

theorem OnlyBay.chan {b : BayId} {s t : State} (h : OnlyBay b s t) (c : ChanId) : t.chan c = s.chan c := by
  simp only [State.chan, h.channels]

theorem OnlyBay.feedingBay {b : BayId} {s t : State} (h : OnlyBay b s t) (c : ChanId) :
    t.feedingBay c = s.feedingBay c := feedingBay_congr (by rw [h.chan])

/-- The other bays stand as they did. -/
theorem OnlyBay.others {b x : BayId} {s t : State} {due : Prop} (h : OnlyBay b s t) (k : s.FeedsWell due x)
    (hx : x ≠ b) : t.FeedsWell due x := by
  have bay := h.bays x hx
  have reason : t.barReasonOf x = s.barReasonOf x := by
    simp only [State.barReasonOf, State.profileOf, bay, h.chan, h.latch]
  exact k.of_same (by rw [bay]) (by rw [bay]) (eligible_congr reason (by rw [bay]) (by rw [bay])) (h.feedingBay _)

/-- A change beside latch, channels and the other bays. -/
theorem onlyBay_beside {b : BayId} {s t : State} (part : t.port.partState = s.port.partState) (latch : t.latch = s.latch)
    (bays : t.bays = s.bays) (channels : t.channels = s.channels) : OnlyBay b s t :=
  ⟨part, latch, channels, fun x _ => by simp only [State.bay, bays]⟩

theorem onlyBay_updBay (s : State) (b : BayId) (f : Bay → Bay) : OnlyBay b s (s.updBay b f) :=
  ⟨rfl, rfl, rfl, fun x hx => State.bay_updBay_other s b x f hx⟩

theorem onlyBay_raise (b : BayId) (s : State) (n : Notice) : OnlyBay b s (s.raise n) := ⟨rfl, rfl, rfl, fun _ _ => rfl⟩

theorem onlyBay_updHist (b : BayId) (s : State) (f : History → History) : OnlyBay b s (s.updHist f) :=
  ⟨rfl, rfl, rfl, fun _ _ => rfl⟩

theorem onlyBay_makeDue (b : BayId) (s : State) (serial : Serial) : OnlyBay b s (s.makeDue serial) :=
  onlyBay_beside (kept_makeDue s serial).carries.partState (kept_makeDue s serial).latch (makeDue_bays s serial)
    (makeDue_channels s serial)

theorem onlyBay_moveBay (s : State) (b : BayId) (st : BayState) : OnlyBay b s (s.moveBay b st) :=
  ⟨(congrArg Port.partState (touches_moveBay s b st).port :), (touches_moveBay s b st).latch,
    moveBay_keeps s b st (·.channels) (fun _ _ => rfl) fun _ _ => rfl, fun x hx => bay_moveBay_other s b x st hx⟩

/-- A bay that is not decided on, its channel's valve not open for it, feeds well. -/
theorem feedsWell_of_undecided {s : State} {b : BayId} (un : (s.bay b).state.decided = false)
    (shut : s.feedingBay (chanOf b) ≠ some b) (due : Prop) : s.FeedsWell due b := by
  have unfit : s.eligible b = false := (not_eligible_iff s b).mpr fun k => absurd k (by simp [un])
  refine ⟨⟨fun k => ?_, fun k => absurd k shut⟩, fun k => ?_, fun _ k => ?_, fun _ k => ?_, fun k => ?_⟩
  · rw [k] at un; exact nomatch un
  · rw [decided_of_sensed k] at un; exact nomatch un
  · rw [unfit] at k; exact nomatch k
  · rw [unfit] at k; exact nomatch k
  · rw [k] at un; exact nomatch un

/-- A bay that was not feeding and is not decided on afterwards. -/
theorem OnlyBay.carries_undecided {b : BayId} {s t : State} (h : OnlyBay b s t) (idle : (s.bay b).state ≠ .feeding)
    (un : (t.bay b).state.decided = false) : Carries s t := by
  refine ⟨h.partState, fun k => h.latch.trans k, fun k => (feedSound_iff t).mpr fun x => ?_⟩
  have before := (feedSound_iff s).mp k
  by_cases hx : x = b
  · subst hx
    exact feedsWell_of_undecided un (by rw [h.feedingBay]; exact fun e => idle ((before x).valve.mpr e)) _
  · exact h.others (before x) hx

/-- A bay whose merit may have changed is due for a re-evaluation at most. -/
theorem State.FeedsWell.due_of_same {s t : State} {b : BayId} (h : s.FeedsWell False b)
    (state : (t.bay b).state = (s.bay b).state) (book : (t.bay b).book = (s.bay b).book)
    (valve : t.feedingBay (chanOf b) = s.feedingBay (chanOf b)) : t.FeedsWell True b := by
  refine ⟨by rw [state, valve]; exact h.valve, fun _ => .inr trivial, fun k el => ⟨trivial, ?_⟩, fun _ _ => trivial,
    by rw [state, book]; exact h.drained⟩
  obtain ⟨decided, _, left⟩ := (eligible_iff t b).mp el
  rw [state] at decided ⊢
  rw [book] at left
  rw [valve] at k
  have unsensed : (s.bay b).state.sensed = false := Bool.eq_false_iff.mpr fun sensed =>
    (h.closed k ((h.fit sensed).resolve_right id)).1
  obtain barred | drained := out_of_unsensed decided unsensed
  · exact barred
  · exact absurd (h.drained drained) (by omega)

/-- A bay that keeps its state and its book is due for a re-evaluation at most. -/
theorem OnlyBay.due {b : BayId} {s t : State} (h : OnlyBay b s t) (state : (t.bay b).state = (s.bay b).state)
    (book : (t.bay b).book = (s.bay b).book) (before : s.FeedsWell False b) : t.FeedsWell True b :=
  before.due_of_same state book (h.feedingBay _)

/-- A bay that keeps state, book and merit. -/
theorem OnlyBay.carries_same {b : BayId} {s t : State} (h : OnlyBay b s t)
    (state : (t.bay b).state = (s.bay b).state) (book : (t.bay b).book = (s.bay b).book)
    (merit : (t.bay b).merit = (s.bay b).merit) : Carries s t := by
  refine ⟨h.partState, fun k => h.latch.trans k, fun k => (feedSound_iff t).mpr fun x => ?_⟩
  have before := (feedSound_iff s).mp k
  by_cases hx : x = b
  · subst hx
    refine (before x).of_merit ⟨h.latch, fun c => by rw [h.chan], fun y => ?_⟩ state book (by rw [h.chan])
    by_cases hy : y = x
    · rw [hy, merit]
    · rw [h.bays y hy]
  · exact h.others (before x) hx

theorem carries_updBay (s : State) (b : BayId) (f : Bay → Bay)
    (h : ∀ x, (f x).state = x.state ∧ (f x).book = x.book ∧ (f x).merit = x.merit) : Carries s (s.updBay b f) := by
  have self := State.bay_updBay_self s b f
  obtain ⟨state, book, merit⟩ := h (s.bay b)
  exact (onlyBay_updBay s b f).carries_same (by rw [self, state]) (by rw [self, book]) (by rw [self, merit])

/-- A bay whose merit has changed, re-evaluated at once. -/
theorem OnlyBay.carries_reevaluate {b : BayId} {s t : State} (h : OnlyBay b s t)
    (state : (t.bay b).state = (s.bay b).state) (book : (t.bay b).book = (s.bay b).book) :
    Carries s (t.reevaluate b) := by
  have touched := (touches_reevaluate t b).channel.answer
  refine ⟨((congrArg Port.partState touched.port :)).trans h.partState, fun k => touched.latch.trans (h.latch.trans k),
    fun k => (feedSound_iff _).mpr fun x => ?_⟩
  have before := (feedSound_iff s).mp k
  have twin := h.others (before (twinOf b)) (twinOf_ne b)
  obtain ⟨here, there⟩ := reevaluate_well (h.due state book (before b)) twin False
  by_cases hx : chanOf x = chanOf b
  · obtain rfl | rfl := eq_or_twin b x hx
    · exact here
    · exact there
  · exact (h.others (before x) fun e => hx (by rw [e])).elsewhere touched hx

/-- A bay that has left the feed at an event of its own, its channel passed on or closed. -/
theorem OnlyBay.carries_feedLost {b : BayId} {s t : State} (h : OnlyBay b s t) (cause : FeedCause)
    (fed : (s.bay b).state = .feeding) (un : (t.bay b).state.decided = false) : Carries s (t.feedLost b cause) := by
  have touched := (touches_feedLost t b cause).channel.answer
  refine ⟨((congrArg Port.partState touched.port :)).trans h.partState, fun k => touched.latch.trans (h.latch.trans k),
    fun k => (feedSound_iff _).mpr fun x => ?_⟩
  have before := (feedSound_iff s).mp k
  have open' := (before b).valve.mp fed
  have left : (t.bay b).state ≠ .feeding := fun e => by rw [e] at un; exact nomatch un
  have beside : t.StandsBeside False b := by
    refine ⟨fun e => absurd e left, fun e => ?_, fun e => ?_, fun e => ?_⟩
    · rw [decided_of_sensed e] at un; exact nomatch un
    all_goals rw [e] at un; exact nomatch un
  have twin := h.others (before (twinOf b)) (twinOf_ne b)
  obtain ⟨here, there⟩ := feedLost_well cause beside left
    ((not_eligible_iff t b).mpr fun e => absurd e (by simp [un])) twin.beside fun e => by
      have twinOpen := twin.valve.mp e
      rw [chanOf_twinOf, h.feedingBay, open'] at twinOpen
      exact twinOf_ne b (Option.some.inj twinOpen).symm
  by_cases hx : chanOf x = chanOf b
  · obtain rfl | rfl := eq_or_twin b x hx
    · exact here
    · exact there
  · exact (h.others (before x) fun e => hx (by rw [e])).elsewhere touched hx

end Sys2Proof.Machine
end

section
/-! SUPPORT. Charging, level checks, insertions, burns and faults carry on the part state, the latch and a sound feed. -/

namespace Sys2Proof.Machine

/-! ### The feed selector -/

theorem carries_reevaluate (s : State) (b : BayId) : Carries s (s.reevaluate b) :=
  (OnlyBay.refl b s).carries_reevaluate rfl rfl

theorem carries_feedFrom {s : State} {b : BayId} (cause : FeedCause) (el : s.eligible b = true) :
    Carries s (s.feedFrom (chanOf b) b cause) :=
  (touches_feedFrom s _ b cause rfl).channel.answer.carries fun h => feedFrom_well cause False el (h _).beside

/-- A charge of the residue to the feeding bay, with what the marks applied lead to. -/
def State.chargeFeeding (s : State) (b : BayId) : State :=
  if s.marksApplied (chanOf b) b = 0 then s.convert (chanOf b) b
  else
    match (s.convert (chanOf b) b).afterMarks (chanOf b) b with
    | (s, .stay) => s
    | (s, .switch cause) => s.feedFrom (chanOf b) (twinOf b) cause
    | (s, .close) => s.closeChannel (chanOf b) .drained

theorem carries_chargeFeeding {s : State} {b : BayId} (open' : s.feedingBay (chanOf b) = some b) :
    Carries s (s.chargeFeeding b) := by
  have merit := (touches_convert s _ b rfl).merits (aside_convert s _ b)
  have chan : ((s.convert (chanOf b) b).chan (chanOf b)).feedState = (s.chan (chanOf b)).feedState := by
    rw [chan_convert]; rfl
  obtain ⟨burn, bay⟩ := bay_convert_self s (chanOf b) b
  have on (h : ∀ x, s.FeedsWell False x) : (s.convert (chanOf b) b).FeedsOn b := by
    have feeding := (h b).valve.mpr open'
    obtain ⟨_, fits, _⟩ := (eligible_iff s b).mp (((h b).fit (by rw [feeding]; rfl)).resolve_right id)
    exact ⟨(feedingBay_congr chan).trans open', by rw [bay]; exact feeding, (merit.barReasonOf b).trans fits⟩
  have twin (h : ∀ x, s.FeedsWell False x) : (s.convert (chanOf b) b).FeedsWell False (twinOf b) := by
    have other := bay_convert_other s (chanOf b) b _ (twinOf_ne b)
    exact (h _).of_merit merit (by rw [other]) (by rw [other]) (by rw [chanOf_twinOf, chan])
  have charge := touches_convert s (chanOf b) b rfl
  have marks := touches_afterMarks (s.convert (chanOf b) b) (chanOf b) b rfl
  have move (h : ∀ x, s.FeedsWell False x) := afterMarks_well (on h) (twin h) False
  unfold State.chargeFeeding
  split
  · next none' =>
    exact charge.channel.answer.carries fun h => ⟨(h b).of_merit merit (by rw [bay]) (by rw [bay, none']; rfl) chan, twin h⟩
  · split
    · next u e =>
      rw [e] at marks
      simp only [e] at move
      exact (charge.trans marks).channel.answer.carries move
    · next u cause e =>
      rw [e] at marks
      simp only [e] at move
      refine ((charge.trans marks).trans (touches_feedFrom u _ _ cause (chanOf_twinOf b))).channel.answer.carries
        fun h => ?_
      obtain ⟨fit, beside⟩ := move h
      have fed := feedFrom_well (b := twinOf b) cause False fit (dueTwin := False) (by rw [twinOf_twinOf]; exact beside)
      rw [chanOf_twinOf, twinOf_twinOf] at fed
      exact fed.symm
    · next u e =>
      rw [e] at marks
      simp only [e] at move
      exact ((charge.trans marks).trans (touches_closeChannel u _ _)).channel.answer.carries move

/-- A volume that comes to a channel (R70 to R73). -/
theorem carries_takeVolume (s : State) (c : ChanId) (v : Nat) : Carries s (s.takeVolume c v) := by
  have total : Carries s (s.updChan c fun ch => ch.addTotal v) := carries_updChan s c _ fun _ => ⟨rfl, rfl⟩
  unfold State.takeVolume
  simp only
  split
  · exact total.trans (carries_updChan _ c _ fun _ => ⟨rfl, rfl⟩)
  · next b hb =>
    obtain rfl := (chanOf_feedingBay _ c b hb).symm
    have add := carries_updChan (s.updChan (chanOf b) fun ch => ch.addTotal v) (chanOf b)
      (fun ch => { ch with residue := ch.residue + v }) fun _ => ⟨rfl, rfl⟩
    refine (total.trans add).trans (carries_chargeFeeding (b := b) ?_)
    rw [← hb]
    exact feedingBay_congr (by rw [State.chan_updChan_self])

/-! ### Wants and verdicts -/

theorem raiseRefillMarkWant_eq (s : State) (b : BayId) :
    s.raiseRefillMarkWant b = s.updBay b fun x =>
      { x with wants := { x.wants with refillMark := x.wants.refillMark || s.latch && x.refillMarkDue } } := by
  unfold State.raiseRefillMarkWant
  split
  · next h => exact updBay_congr (by simp [h.1, h.2])
  · next h =>
    rw [not_and, Bool.not_eq_true] at h
    refine (updBay_eq_self ?_).symm
    cases hl : s.latch
    · simp
    · simp [h hl]

theorem raiseDepletedWant_eq (s : State) (b : BayId) :
    s.raiseDepletedWant b = s.updBay b fun x =>
      { x with wants := { x.wants with depleted := x.wants.depleted || x.depletedDue } } := by
  unfold State.raiseDepletedWant
  split
  · next h => exact updBay_congr (by simp [h])
  · next h => exact (updBay_eq_self (by simp [Bool.eq_false_iff.mpr h])).symm

theorem carries_raiseRefillMarkWant (s : State) (b : BayId) : Carries s (s.raiseRefillMarkWant b) := by
  rw [raiseRefillMarkWant_eq]
  exact carries_updBay s b _ fun _ => ⟨rfl, rfl, rfl⟩

theorem carries_raiseDepletedWant (s : State) (b : BayId) : Carries s (s.raiseDepletedWant b) := by
  rw [raiseDepletedWant_eq]
  exact carries_updBay s b _ fun _ => ⟨rfl, rfl, rfl⟩

theorem carries_updHist (s : State) (f : History → History) : Carries s (s.updHist f) :=
  carries_beside rfl rfl rfl rfl

/-! ### Operations on one bay that leave its state -/

/-- From `s` to `t` only one bay context changes, and it keeps state and book. -/
structure Adjusts (b : BayId) (s t : State) : Prop extends OnlyBay b s t where
  state : (t.bay b).state = (s.bay b).state
  book  : (t.bay b).book = (s.bay b).book

theorem Adjusts.refl (b : BayId) (s : State) : Adjusts b s s := ⟨.refl b s, rfl, rfl⟩

theorem Adjusts.trans {b : BayId} {s t u : State} (h : Adjusts b s t) (k : Adjusts b t u) : Adjusts b s u :=
  ⟨h.toOnlyBay.trans k.toOnlyBay, k.state.trans h.state, k.book.trans h.book⟩

theorem adjusts_updBay (s : State) (b : BayId) (f : Bay → Bay)
    (h : ∀ x, (f x).state = x.state ∧ (f x).book = x.book) : Adjusts b s (s.updBay b f) := by
  have self := State.bay_updBay_self s b f
  obtain ⟨state, book⟩ := h (s.bay b)
  exact ⟨onlyBay_updBay s b f, by rw [self, state], by rw [self, book]⟩

theorem adjusts_beside {b : BayId} {s t : State} (h : OnlyBay b s t) (bays : t.bays = s.bays) : Adjusts b s t :=
  ⟨h, by simp only [State.bay, bays], by simp only [State.bay, bays]⟩

theorem adjusts_raise (b : BayId) (s : State) (n : Notice) : Adjusts b s (s.raise n) :=
  adjusts_beside (onlyBay_raise b s n) rfl

theorem adjusts_updHist (b : BayId) (s : State) (f : History → History) : Adjusts b s (s.updHist f) :=
  adjusts_beside (onlyBay_updHist b s f) rfl

theorem adjusts_makeDue (b : BayId) (s : State) (serial : Serial) : Adjusts b s (s.makeDue serial) :=
  adjusts_beside (onlyBay_makeDue b s serial) (makeDue_bays s serial)

theorem adjusts_setVerdict (s : State) (b : BayId) (v : Verdict) (r : VerdictReason) :
    Adjusts b s (s.setVerdict b v r) := by
  unfold State.setVerdict
  split
  · exact .refl b s
  · refine .trans ?_ (adjusts_raise b _ _)
    exact adjusts_updBay s b _ fun _ => ⟨rfl, rfl⟩

theorem adjusts_setSeen (b : BayId) (s : State) (serial : Serial) (bits : SeenSet) :
    Adjusts b s (s.setSeen serial bits) := by
  unfold State.setSeen
  split
  · exact .refl b s
  · split
    · exact .refl b s
    · exact (adjusts_updHist b s _).trans (adjusts_makeDue b _ _)

theorem adjusts_raiseRefillMarkWant (s : State) (b : BayId) : Adjusts b s (s.raiseRefillMarkWant b) := by
  rw [raiseRefillMarkWant_eq]
  exact adjusts_updBay s b _ fun _ => ⟨rfl, rfl⟩

theorem adjusts_applyConsequence (s : State) (b : BayId) (v : Verdict) (r : VerdictReason) :
    Adjusts b s (s.applyConsequence b v r) := by
  have drop (u : State) : Adjusts b u (if v = .foreign then
      u.updBay b fun x => { x with wants := { x.wants with burn := false } } else u) := by
    split
    · exact adjusts_updBay u b _ fun _ => ⟨rfl, rfl⟩
    · exact .refl b u
  unfold State.applyConsequence
  simp only
  split
  · have step := (adjusts_setVerdict s b v r).trans (drop _)
    split
    · exact step
    · exact (step.trans (adjusts_updHist b _ _)).trans (adjusts_makeDue b _ _)
  · exact .refl b s

/-! ### Held flags (R125, R126) -/

/-- A held flag set with its snapshot. -/
def State.holdFlag (s : State) (b : BayId) (k : HeldKind) : State :=
  s.updBay b fun x =>
    { x with sense :=
        { x.sense with
          held := x.sense.held ||| k.bit
          snapshot := match x.sense.snapshot with
            | some snap => some snap
            | none => some (x.snapshotFor k) } }

/-- ALERT where the kind is selected. -/
def State.alertFlag (s : State) (b : BayId) (k : HeldKind) : State :=
  if hasKind (s.alertSelect b) k then s.raise .alert else s

/-- The consequence verdict of a kind. -/
def State.judgeFlag (s : State) (b : BayId) (k : HeldKind) : State :=
  match k.consequence with
  | some (v, r) => s.applyConsequence b v r
  | none => s

/-- The seen flag of a kind. -/
def State.showFlag (s : State) (b : BayId) (k : HeldKind) : State :=
  match (s.bay b).entry with
  | some serial => s.setSeen serial k.seenBit
  | none => s

/-- A held flag that sets, but for the re-evaluation at its end. -/
def State.setFlag (s : State) (b : BayId) (k : HeldKind) : State :=
  ((((s.holdFlag b k).alertFlag b k).judgeFlag b k).showFlag b k).raiseRefillMarkWant b

theorem fireCheck_eq (s : State) (b : BayId) (k : HeldKind) :
    s.fireCheck b k = if hasKind (s.bay b).sense.held k then s else (s.setFlag b k).reevaluate b := rfl

theorem adjusts_setFlag (s : State) (b : BayId) (k : HeldKind) : Adjusts b s (s.setFlag b k) := by
  have alert (u : State) : Adjusts b u (u.alertFlag b k) := by
    unfold State.alertFlag
    split
    · exact adjusts_raise b u _
    · exact .refl b u
  have judge (u : State) : Adjusts b u (u.judgeFlag b k) := by
    unfold State.judgeFlag
    split
    · exact adjusts_applyConsequence u b _ _
    · exact .refl b u
  have shows (u : State) : Adjusts b u (u.showFlag b k) := by
    unfold State.showFlag
    split
    · exact adjusts_setSeen b u _ _
    · exact .refl b u
  have hold : Adjusts b s (s.holdFlag b k) := adjusts_updBay s b _ fun _ => ⟨rfl, rfl⟩
  exact (((hold.trans (alert _)).trans (judge _)).trans (shows _)).trans (adjusts_raiseRefillMarkWant _ b)

theorem carries_fireCheck (s : State) (b : BayId) (k : HeldKind) : Carries s (s.fireCheck b k) := by
  rw [fireCheck_eq]
  split
  · exact .refl s
  · have h := adjusts_setFlag s b k
    exact h.carries_reevaluate h.state h.book

/-- A bay that is not decided on is not re-evaluated. -/
theorem reevaluate_undecided (s : State) (b : BayId) (un : (s.bay b).state.decided = false) : s.reevaluate b = s := by
  simp [State.reevaluate, un]

/-! ### Samples and CLEAR_HELD -/

theorem carries_discardSample (s : State) (b : BayId) (why : SampleDiscard) : Carries s (s.discardSample b why) := by
  refine .trans ?_ (carries_updBay _ b _ fun _ => ⟨rfl, rfl, rfl⟩)
  exact carries_updChan s (chanOf b) _ fun _ => ⟨rfl, rfl⟩

theorem carries_useSample (s : State) (b : BayId) (p : Profile) (reading : Byte) :
    Carries s (s.useSample b p reading) := by
  have fire (u : State) (k : HeldKind) (x : Bool) : Carries u (if x = true then u.fireCheck b k else u) := by
    split
    · exact carries_fireCheck u b k
    · exact .refl u
  unfold State.useSample
  simp only
  split
  · refine .trans ?_ (fire _ _ _)
    refine .trans ?_ (fire _ _ _)
    refine .trans ?_ (carries_updBay _ b _ fun _ => ⟨rfl, rfl, rfl⟩)
    exact carries_updBay s b _ fun _ => ⟨rfl, rfl, rfl⟩
  · refine .trans ?_ (carries_updBay _ b _ fun _ => ⟨rfl, rfl, rfl⟩)
    exact carries_updBay s b _ fun _ => ⟨rfl, rfl, rfl⟩

theorem carries_takeSample (s : State) (b : BayId) (reading : Byte) (ok : Bool) :
    Carries s (s.takeSample b reading ok) := by
  have start : Carries s (s.startSenseTimer b) := carries_updBay s b _ fun _ => ⟨rfl, rfl, rfl⟩
  unfold State.takeSample
  simp only
  split
  · exact start.trans (carries_discardSample _ b _)
  · split
    · exact start.trans (carries_discardSample _ b _)
    · split
      · exact start.trans (carries_discardSample _ b _)
      · exact start.trans (carries_useSample _ b _ _)

/-- Kinds removed from a set that holds none of them. -/
theorem held_without (x set : HeldSet) (h : x &&& set = 0#5) : x &&& ~~~set = x := by
  apply BitVec.eq_of_getLsbD_eq
  intro i hi
  have bit := congrArg (·.getLsbD i) h
  simp only [BitVec.getLsbD_and, BitVec.getLsbD_not, hi, decide_true, Bool.true_and, BitVec.getLsbD_zero] at bit ⊢
  revert bit
  cases x.getLsbD i <;> simp

theorem carries_clearFlags (s : State) (b : BayId) (set : HeldSet) : Carries s (s.clearFlags b set) := by
  have drop (u : State) : Adjusts b u (if (u.bay b).sense.held = 0#5 then
      u.updBay b fun x => { x with sense := { x.sense with snapshot := none } } else u)
      ∧ ((if (u.bay b).sense.held = 0#5 then u.updBay b fun x =>
        { x with sense := { x.sense with snapshot := none } } else u).bay b).merit = (u.bay b).merit := by
    split
    · exact ⟨adjusts_updBay u b _ fun _ => ⟨rfl, rfl⟩, by rw [State.bay_updBay_self]; rfl⟩
    · exact ⟨.refl b u, rfl⟩
  have clear : Adjusts b s ((s.updBay b fun x =>
      { x with sense := { x.sense with held := x.sense.held &&& ~~~set } }).emptyWindow b) := by
    refine .trans ?_ (adjusts_updBay _ b _ fun _ => ⟨rfl, rfl⟩)
    exact adjusts_updBay s b _ fun _ => ⟨rfl, rfl⟩
  unfold State.clearFlags
  simp only
  obtain ⟨dropped, merit⟩ := drop ((s.updBay b fun x =>
      { x with sense := { x.sense with held := x.sense.held &&& ~~~set } }).emptyWindow b)
  have step := clear.trans dropped
  split
  · exact step.carries_reevaluate step.state step.book
  · next same =>
    refine step.carries_same step.state step.book (merit.trans ?_)
    rw [State.emptyWindow, State.bay_updBay_self, State.bay_updBay_self]
    simp only [Bay.merit, Sense.emptyWindow, held_without _ _ (not_not.mp same)]

theorem carries_carryOutClear (s : State) (b : BayId) (a : Args) : Carries s (s.carryOutClear b a).1 := by
  unfold State.carryOutClear
  split
  · exact .refl s
  · split
    · exact .refl s
    · exact carries_clearFlags s b _

/-! ### Insertions -/

/-- An operation on a bay that is not decided on: of bays and channels it changes that bay alone, which stays
undecided. -/
structure Inserts (b : BayId) (s t : State) : Prop where
  onlyBay : (s.bay b).state.decided = false → OnlyBay b s t
  un      : (s.bay b).state.decided = false → (t.bay b).state.decided = false

theorem Inserts.trans {b : BayId} {s t u : State} (h : Inserts b s t) (k : Inserts b t u) : Inserts b s u :=
  ⟨fun x => (h.onlyBay x).trans (k.onlyBay (h.un x)), fun x => k.un (h.un x)⟩

theorem Adjusts.inserts {b : BayId} {s t : State} (h : Adjusts b s t) : Inserts b s t :=
  ⟨fun _ => h.toOnlyBay, fun x => by rw [h.state]; exact x⟩

theorem Inserts.carries {b : BayId} {s t : State} (h : Inserts b s t) (un : (s.bay b).state.decided = false) :
    Carries s t :=
  (h.onlyBay un).carries_undecided (fun e => by rw [e] at un; exact nomatch un) (h.un un)

theorem inserts_updBay (s : State) (b : BayId) (f : Bay → Bay) (h : ∀ x, (f x).state = x.state) :
    Inserts b s (s.updBay b f) :=
  ⟨fun _ => onlyBay_updBay s b f, fun x => by rw [State.bay_updBay_self, h]; exact x⟩

theorem inserts_moveBay (s : State) (b : BayId) (st : BayState) (h : st.decided = false) :
    Inserts b s (s.moveBay b st) :=
  ⟨fun _ => onlyBay_moveBay s b st, fun _ => by rw [bay_moveBay_self, moved_state]; exact h⟩

theorem inserts_fireCheck (s : State) (b : BayId) (k : HeldKind) : Inserts b s (s.fireCheck b k) := by
  have set := adjusts_setFlag s b k
  have fired (un : (s.bay b).state.decided = false) :
      s.fireCheck b k = s ∨ s.fireCheck b k = s.setFlag b k := by
    rw [fireCheck_eq, reevaluate_undecided _ b (by rw [set.state]; exact un)]
    split
    · exact .inl rfl
    · exact .inr rfl
  refine ⟨fun un => ?_, fun un => ?_⟩ <;> obtain e | e := fired un <;> rw [e]
  · exact .refl b s
  · exact set.toOnlyBay
  · exact un
  · rw [set.state]; exact un

theorem inserts_fireInsertionChecks (s : State) (b : BayId) (conflict rise : Bool) :
    Inserts b s (s.fireInsertionChecks b conflict rise) := by
  have fire (u : State) (k : HeldKind) (x : Bool) : Inserts b u (if x = true then u.fireCheck b k else u) := by
    split
    · exact inserts_fireCheck u b k
    · exact (Adjusts.refl b u).inserts
  exact (fire s _ _).trans (fire _ _ _)

theorem inserts_settleBay (s : State) (b : BayId) (e : Option Serial) (gc : GaugeCase) (v : Verdict × VerdictReason) :
    Inserts b s (s.settleBay b e gc v) := by
  refine .trans ?_ (adjusts_setVerdict _ b _ _).inserts
  exact inserts_updBay s b _ fun _ => rfl

/-- A bay whose insertion has ended, but for the feed selector. -/
def State.placeBay (s : State) (b : BayId) (st : BayState) : State :=
  ((((s.updBay b fun x => { x with barReason := s.barReasonOf b }).moveBay b st).raiseBurnWant b).raiseDepletedWant
    b).raiseRefillMarkWant b

theorem endInsertion_eq (s : State) (b : BayId) :
    s.endInsertion b
      = if s.meetsConditions b then (s.placeBay b .standby).becameEligible b
        else s.placeBay b (s.bay b).ineligibleState := by
  unfold State.endInsertion State.placeBay
  split <;> simp_all

/-- The bay context that the end of an insertion gives before the feed selector acts. -/
theorem placeBay_bay (s : State) (b : BayId) (st : BayState) :
    ((s.placeBay b st).bay b).state = st ∧ ((s.placeBay b st).bay b).book = (s.bay b).book
      ∧ ((s.placeBay b st).bay b).merit = (s.bay b).merit
      ∧ ((s.placeBay b st).bay b).barReason = s.barReasonOf b := by
  unfold State.placeBay
  rw [raiseRefillMarkWant_eq, State.bay_updBay_self, raiseDepletedWant_eq, State.bay_updBay_self, raiseBurnWant_eq,
    State.bay_updBay_self, bay_moveBay_self, State.bay_updBay_self]
  simp only [Bay.merit, moved_state, moved_book, moved_identity, moved_gaugeKnown, moved_held, moved_verdict,
    moved_barReason, and_self]

theorem onlyBay_placeBay (s : State) (b : BayId) (st : BayState) : OnlyBay b s (s.placeBay b st) := by
  unfold State.placeBay
  rw [raiseRefillMarkWant_eq, raiseDepletedWant_eq, raiseBurnWant_eq]
  exact ((((onlyBay_updBay s b _).trans (onlyBay_moveBay _ b st)).trans (onlyBay_updBay _ b _)).trans
    (onlyBay_updBay _ b _)).trans (onlyBay_updBay _ b _)

theorem carries_endInsertion (s : State) (b : BayId) (un : (s.bay b).state.decided = false) :
    Carries s (s.endInsertion b) := by
  refine (channel_endInsertion s b).answer.carries fun before => ?_
  have meets {st : BayState} : (s.placeBay b st).meetsConditions b = s.meetsConditions b := by
    obtain ⟨_, book, merit, _⟩ := placeBay_bay s b st
    have only := onlyBay_placeBay s b st
    refine meetsConditions_congr ?_ book
    simp only [State.barReasonOf, State.profileOf, only.latch, only.chan, barReasonFor_merit merit]
  have shut {st : BayState} : (s.placeBay b st).feedingBay (chanOf b) ≠ some b := by
    rw [(onlyBay_placeBay s b st).feedingBay]
    intro e
    rw [(before b).valve.mpr e] at un
    exact nomatch un
  have twin {st : BayState} := (onlyBay_placeBay s b st).others (before (twinOf b)) (twinOf_ne b)
  rw [endInsertion_eq]
  split
  · next fits =>
    obtain ⟨state, book, _⟩ := placeBay_bay s b .standby
    have fit : (s.placeBay b .standby).eligible b = true := by
      simp only [State.eligible, state, meets, fits]
      rfl
    refine becameEligible_well ⟨fun k => ?_, fun _ => .inl fit, fun k => ?_, fun k => ?_⟩ fit (by rw [state]; nofun)
      shut twin
    all_goals rw [state] at k; exact nomatch k
  · next no =>
    obtain ⟨state, book, _⟩ := placeBay_bay s b (s.bay b).ineligibleState
    have unfit : (s.placeBay b (s.bay b).ineligibleState).eligible b = false := by
      simp only [State.eligible, meets, Bool.eq_false_iff.mpr no, Bool.and_false]
    refine ⟨⟨⟨fun k => ?_, fun k => absurd k shut⟩, fun k => ?_, fun _ k => ?_, fun _ k => ?_, fun k => ?_⟩, twin⟩
    · rw [state] at k
      obtain ⟨e, _⟩ | ⟨e, _⟩ := ineligibleState_cases (s.bay b) <;> rw [e] at k <;> exact nomatch k
    · rw [state] at k
      obtain ⟨e, _⟩ | ⟨e, _⟩ := ineligibleState_cases (s.bay b) <;> rw [e] at k <;> exact nomatch k
    · rw [unfit] at k; exact nomatch k
    · rw [unfit] at k; exact nomatch k
    · rw [state] at k
      obtain ⟨_, _, empty⟩ | ⟨e, _⟩ := ineligibleState_cases (s.bay b)
      · rw [book]; exact empty
      · rw [e] at k; exact nomatch k

/-- An insertion prepared and ended. -/
theorem Inserts.carries_end {b : BayId} {s t : State} (h : Inserts b s t) (un : (s.bay b).state.decided = false) :
    Carries s (t.endInsertion b) := (h.carries un).trans (carries_endInsertion t b (h.un un))

theorem inserts_updHist (b : BayId) (s : State) (f : History → History) : Inserts b s (s.updHist f) :=
  (adjusts_updHist b s f).inserts

theorem inserts_updEntry (b : BayId) (s : State) (serial : Serial) (f : Entry → Entry) :
    Inserts b s (s.updEntry serial f) := inserts_updHist b s _

theorem inserts_makeDue (b : BayId) (s : State) (serial : Serial) : Inserts b s (s.makeDue serial) :=
  (adjusts_makeDue b s serial).inserts

theorem carries_reconcileDuplicate (s : State) (b : BayId) (un : (s.bay b).state.decided = false) :
    Carries s (s.reconcileDuplicate b) := (inserts_settleBay s b _ _ _).carries_end un

theorem carries_reconcileExisting (s : State) (b : BayId) (id : Identity) (e : Entry)
    (un : (s.bay b).state.decided = false) : Carries s (s.reconcileExisting b id e) := by
  refine Inserts.carries_end ?_ un
  refine .trans ?_ (inserts_fireInsertionChecks _ b _ _)
  refine .trans ?_ (inserts_settleBay _ b _ _ _)
  refine .trans ?_ (inserts_makeDue b _ _)
  refine .trans ?_ (inserts_updEntry b _ _ _)
  exact inserts_updHist b s _

theorem carries_reconcileNew (s : State) (b : BayId) (id : Identity) (h : History) (waits : Bool)
    (un : (s.bay b).state.decided = false) : Carries s (s.reconcileNew b id h waits) := by
  refine Inserts.carries_end ?_ un
  refine .trans ?_ (inserts_fireInsertionChecks _ b _ _)
  refine .trans ?_ (inserts_settleBay _ b _ _ _)
  refine .trans ?_ (inserts_makeDue b _ _)
  exact inserts_updHist b s fun _ => _

theorem carries_reconcileUntracked (s : State) (b : BayId) (un : (s.bay b).state.decided = false) :
    Carries s (s.reconcileUntracked b) := by
  refine Inserts.carries_end ?_ un
  refine .trans ?_ (inserts_fireInsertionChecks _ b _ _)
  refine .trans ?_ (inserts_settleBay _ b _ _ _)
  exact inserts_updHist b s _

theorem carries_reconcile (s : State) (b : BayId) (un : (s.bay b).state.decided = false) :
    Carries s (s.reconcile b) := by
  have move := inserts_moveBay s b .reconciling rfl
  have moved := move.un un
  refine (move.carries un).trans ?_
  unfold State.reconcile
  simp only
  split
  · exact carries_endInsertion _ b moved
  · split
    · split
      · exact carries_reconcileDuplicate _ b moved
      · exact carries_reconcileExisting _ b _ _ moved
    · split
      · exact carries_reconcileNew _ b _ _ _ moved
      · exact carries_reconcileUntracked _ b moved

theorem carries_gotIdentity (s : State) (b : BayId) (blk : Block) (un : (s.bay b).state.decided = false) :
    Carries s (s.gotIdentity b blk) := by
  unfold State.gotIdentity
  simp only
  refine Inserts.carries (Inserts.trans (?_ : Inserts b s _) (inserts_updBay _ b _ fun _ => rfl)) un
  split
  · exact inserts_updBay s b _ fun _ => rfl
  · exact (adjusts_setVerdict s b _ _).inserts

theorem inserts_enterChallenging (s : State) (b : BayId) (id : Identity) :
    Inserts b s (s.enterChallenging b id) := by
  have placed (u : State) (a : AuthEngine) : Inserts b u { u with auth := a } :=
    (adjusts_beside (s := u) (t := { u with auth := a }) ⟨rfl, rfl, rfl, fun _ _ => rfl⟩ rfl).inserts
  have drawn : Inserts b s (s.updOutside fun o => { o with challengeDraws := o.challengeDraws + 1 }) :=
    (adjusts_beside (s := s) (t := s.updOutside _) ⟨rfl, rfl, rfl, fun _ _ => rfl⟩ rfl).inserts
  unfold State.enterChallenging
  simp only
  refine .trans ?_ (placed _ _)
  refine .trans ?_ (inserts_updBay _ b _ fun _ => rfl)
  refine .trans ?_ (inserts_moveBay _ b .challenging rfl)
  refine .trans drawn ?_
  exact inserts_updBay _ b _ fun _ => rfl

theorem inserts_takeGauge (s : State) (b : BayId) (g : GaugeBlock) : Inserts b s (s.takeGauge b g) :=
  inserts_updBay s b _ fun _ => rfl

theorem carries_gotGauge (s : State) (b : BayId) (blk : Block) (un : (s.bay b).state.decided = false) :
    Carries s (s.gotGauge b blk) := by
  unfold State.gotGauge
  split
  · split
    · exact ((inserts_takeGauge s b _).trans (inserts_enterChallenging _ b _)).carries un
    · exact ((adjusts_setVerdict s b _ _).inserts.trans (inserts_enterChallenging _ b _)).carries un
  · split
    · exact (inserts_takeGauge s b _).carries_end un
    · exact carries_endInsertion s b un

theorem carries_checkResponse (s : State) (b : BayId) (un : (s.bay b).state.decided = false) :
    Carries s (s.checkResponse b) := by
  unfold State.checkResponse
  split
  · simp only
    have clear := inserts_updBay s b
      (fun x => { x with challenge := none, tagResponse := none, expectedResponse := none }) fun _ => rfl
    have authentic := clear.trans (inserts_updBay _ b (fun x => { x with authenticated := true }) fun _ => rfl)
    split
    · exact (clear.trans (adjusts_setVerdict _ b _ _).inserts).carries_end un
    · split
      · exact (authentic.carries un).trans (carries_reconcile _ b (authentic.un un))
      · exact authentic.carries_end un
  · exact .refl s

theorem carries_gotResponse (s : State) (b : BayId) (r : Bytes16) (un : (s.bay b).state.decided = false) :
    Carries s (s.gotResponse b r) := by
  have got := inserts_updBay s b (fun x => { x with tagResponse := some r }) fun _ => rfl
  exact (got.carries un).trans (carries_checkResponse _ b (got.un un))

theorem carries_gotExpected (s : State) (b : BayId) (r : Bytes16) (un : (s.bay b).state.decided = false) :
    Carries s (s.gotExpected b r) := by
  have got := inserts_updBay s b (fun x => { x with expectedResponse := some r }) fun _ => rfl
  exact (got.carries un).trans (carries_checkResponse _ b (got.un un))

/-! ### Burns, flag writes, FAULT -/

theorem carries_burnAcked (s : State) (b : BayId) (r : Nat) : Carries s (s.burnAcked b r) := by
  have drop (u : State) : Carries u (u.dropBurnWant b) := by
    unfold State.dropBurnWant
    split
    · exact carries_updBay u b _ fun _ => ⟨rfl, rfl, rfl⟩
    · exact .refl u
  have check (u : State) (p : Prop) [Decidable p] : Carries u (if p then u else u.fireCheck b .burnMismatch) := by
    split
    · exact .refl u
    · exact carries_fireCheck u b _
  have zero (u : State) : Carries u (u.reachedZero b) := by
    unfold State.reachedZero
    simp only
    refine Carries.trans ?_ (carries_raiseDepletedWant _ b)
    split
    · exact (carries_updHist u _).trans (kept_makeDue _ _).carries
    · exact .refl u
  have zeroed (u : State) : Carries u (if (u.bay b).tagGauge = 0 then u.reachedZero b else u) := by
    split
    · exact zero u
    · exact .refl u
  unfold State.burnAcked
  split
  · exact .refl s
  · simp only
    refine .trans ?_ (zeroed _)
    refine .trans ?_ (check _ _)
    refine .trans ?_ (drop _)
    exact carries_updBay s b _ fun _ => ⟨rfl, rfl, rfl⟩

theorem carries_burnRefused (s : State) (b : BayId) : Carries s (s.burnRefused b) := by
  refine .trans ?_ (carries_fireCheck _ b _)
  exact carries_updBay s b _ fun _ => ⟨rfl, rfl, rfl⟩

theorem carries_flagWritten (s : State) (b : BayId) (f : TagFlag) : Carries s (s.flagWritten b f) := by
  cases f <;> exact carries_updBay s b _ fun _ => ⟨rfl, rfl, rfl⟩

/-- A bay that enters FAULT, but for its feed (R33). -/
def State.faultBay (s : State) (b : BayId) : State :=
  ((((if (s.bay b).verdict = .none then s.setVerdict b .unread .none else s).withdrawAuth b).updBay b fun x =>
    { x with burnInFlight := none, barReason := .none }).moveBay b .fault).updBay b fun x =>
      { x with wants := Wants.none }

theorem enterFault_eq (s : State) (b : BayId) :
    s.enterFault b
      = if (s.bay b).state = .fault then s
        else if (s.bay b).state = .feeding then (s.faultBay b).feedLost b .fault else s.faultBay b := rfl

theorem onlyBay_faultBay (s : State) (b : BayId) : OnlyBay b s (s.faultBay b) := by
  have unread : OnlyBay b s (if (s.bay b).verdict = .none then s.setVerdict b .unread .none else s) := by
    split
    · exact (adjusts_setVerdict s b _ _).toOnlyBay
    · exact .refl b s
  have auth (u : State) : OnlyBay b u (u.withdrawAuth b) :=
    ⟨rfl, rfl, rfl, fun x hx => State.bay_updBay_other { u with auth := u.auth.withdraw b } b x _ hx⟩
  exact (((unread.trans (auth _)).trans (onlyBay_updBay _ b _)).trans (onlyBay_moveBay _ b _)).trans
    (onlyBay_updBay _ b _)

theorem faultBay_state (s : State) (b : BayId) : ((s.faultBay b).bay b).state = .fault := by
  unfold State.faultBay
  rw [State.bay_updBay_self, bay_moveBay_self]
  exact moved_state ..

theorem carries_enterFault (s : State) (b : BayId) : Carries s (s.enterFault b) := by
  have only := onlyBay_faultBay s b
  have un : ((s.faultBay b).bay b).state.decided = false := by rw [faultBay_state]; rfl
  rw [enterFault_eq]
  split
  · exact .refl s
  · split
    · next fed => exact only.carries_feedLost _ fed un
    · next idle => exact only.carries_undecided idle un

end Sys2Proof.Machine
end

section
/-! SUPPORT. Tickets, engines, the store controller and every command carry on the part state, the latch and a sound
feed, but for a reset and for the event of READY. -/

namespace Sys2Proof.Machine

/-! ### Answers (R182, R188 to R190) -/

theorem carries_updSlot (s : State) (k : SlotId) (f : Slot → Slot) : Carries s (s.updSlot k f) :=
  carries_beside rfl rfl rfl rfl

theorem carries_writeAnswer (s : State) (k : SlotId) (a : Answer) : Carries s (s.writeAnswer k a) := by
  unfold State.writeAnswer
  split
  · exact carries_beside rfl rfl rfl rfl
  · exact .refl s

theorem carries_serveList (b : BayId) (l : List SlotId) (s : State) : Carries s (State.serveList b l s) := by
  induction l generalizing s with
  | nil => exact carries_beside rfl rfl rfl rfl
  | cons k l ih =>
    unfold State.serveList
    split
    · exact ih s
    · split
      · exact ((carries_carryOutClear s b _).trans (carries_writeAnswer _ k _)).trans (ih _)
      · split
        · exact (carries_writeAnswer s k _).trans (ih _)
        · exact carries_beside rfl rfl rfl rfl

theorem carries_serveBay (s : State) (b : BayId) : Carries s (s.serveBay b) := carries_serveList b _ s

theorem carries_finishTicket (s : State) (k : SlotId) (a : Answer) : Carries s (s.finishTicket k a) := by
  unfold State.finishTicket
  split
  · exact .refl s
  · split
    · exact carries_writeAnswer s k a
    · exact (carries_updSlot s k _).trans (carries_serveBay _ _)

theorem carries_startTest (s : State) (k : SlotId) (code : Nat) (b : Option BayId) : Carries s (s.startTest k code b) :=
  carries_beside rfl rfl rfl rfl

theorem carries_endTest (s : State) (n : Nat) (c : FailCause) : Carries s (s.endTest n c) :=
  carries_beside rfl rfl rfl rfl

theorem carries_decideTest (s : State) (k : SlotId) (pass : Bool) (l : List Byte) : Carries s (s.decideTest k pass l) :=
  (carries_endTest s _ _).trans (carries_writeAnswer _ k _)

theorem carries_decideLoop (s : State) (k : SlotId) (pass : Bool) (l : List Byte) : Carries s (s.decideLoop k pass l) :=
  (carries_endTest s _ _).trans (carries_finishTicket _ k _)

/-! ### Tally intake -/

theorem carries_takeTally (s : State) (src : TallySource) (t : TallyContent) : Carries s (s.takeTally src t) := by
  have stray : Carries s s.countStray := carries_beside rfl rfl rfl rfl
  have frame (c : ChanId) (p : Profile) : Carries s (s.takeFrame c p t) := by
    unfold State.takeFrame
    split
    · exact carries_updChan s c _ fun _ => ⟨rfl, rfl⟩
    · refine .trans ?_ (carries_takeVolume _ c _)
      exact carries_updChan s c _ fun _ => ⟨rfl, rfl⟩
  unfold State.takeTally
  split
  · simp only
    split
    · exact stray
    · split
      · exact frame _ _
      · exact stray
  · exact stray

theorem carries_takeLinkFrame (s : State) (f : LinkFrame) : Carries s (s.takeLinkFrame f) := by
  unfold State.takeLinkFrame
  split
  · exact carries_beside rfl rfl rfl rfl
  · split
    · exact carries_takeTally s _ _
    · exact carries_beside rfl rfl rfl rfl

theorem carries_countReject (s : State) : Carries s s.countReject := carries_beside rfl rfl rfl rfl

theorem carries_takeTallyPost (s : State) (target : Word) (a : Args) : Carries s (s.takeTallyPost target a) := by
  unfold State.takeTallyPost
  split
  · exact carries_countReject s
  · exact carries_takeTally s _ _

theorem carries_takePurge (s : State) (target : Word) (a : Args) : Carries s (s.takePurge target a) := by
  unfold State.takePurge
  split
  · exact carries_countReject s
  · split
    · exact carries_countReject s
    · exact (carries_takeVolume s _ _).trans (carries_updChan _ _ _ fun _ => ⟨rfl, rfl⟩)

/-! ### Tickets -/

theorem carries_takeSetProfile (s : State) (k : SlotId) (target : Word) (a : Args) :
    Carries s (s.takeSetProfile k target a) := by
  unfold State.takeSetProfile
  split
  · exact carries_writeAnswer s k _
  · split
    · exact carries_writeAnswer s k _
    · split
      · exact carries_writeAnswer s k _
      · exact carries_beside rfl rfl rfl rfl

theorem carries_takeCheckStore (s : State) (k : SlotId) (a : Args) : Carries s (s.takeCheckStore k a) := by
  unfold State.takeCheckStore
  simp only
  split
  · exact carries_writeAnswer s k _
  · exact carries_beside rfl rfl rfl rfl

theorem carries_joinOrder (s : State) (k : SlotId) (b : BayId) : Carries s (s.joinOrder k b) :=
  carries_beside rfl rfl rfl rfl

theorem carries_placeTagWork (s : State) (q : QueueEntry) : Carries s (s.placeTagWork q) := by
  unfold State.placeTagWork
  simp only
  split <;> exact carries_beside rfl rfl rfl rfl

theorem carries_takeReadTag (s : State) (k : SlotId) (target : Word) (a : Args) :
    Carries s (s.takeReadTag k target a) := by
  unfold State.takeReadTag
  split
  · exact carries_finishTicket s k _
  · next b _ =>
    refine (carries_joinOrder s k b).trans ?_
    simp only
    split
    · exact carries_finishTicket _ k _
    · split
      · exact carries_finishTicket _ k _
      · exact carries_placeTagWork _ _

theorem carries_takeClearHeld (s : State) (k : SlotId) (target : Word) : Carries s (s.takeClearHeld k target) := by
  unfold State.takeClearHeld
  split
  · exact carries_finishTicket s k _
  · exact (carries_joinOrder s k _).trans (carries_serveBay _ _)

theorem carries_forget (s : State) (e : Entry) : Carries s (s.forget e) := by
  unfold State.forget
  simp only
  split
  · exact carries_updHist s _
  · split <;> exact carries_updHist s _

theorem carries_takeForget (s : State) (k : SlotId) (a : Args) : Carries s (s.takeForget k a) := by
  unfold State.takeForget
  split
  · exact carries_writeAnswer s k _
  · split
    · exact carries_writeAnswer s k _
    · split
      · exact carries_writeAnswer s k _
      · exact (carries_forget s _).trans (carries_writeAnswer _ k _)

/-- A SWITCH_FEED names a bay of its channel. -/
theorem chanOf_switchArgs {target : Word} {a : Args} {c : ChanId} {b : BayId} (h : switchArgs target a = some (c, b)) :
    chanOf b = c := by
  unfold switchArgs sideBay at h
  split at h
  · split at h
    · cases h; exact chanOf_bayA _
    · split at h
      · cases h; exact chanOf_bayB _
      · exact nomatch h
  · exact nomatch h

theorem carries_takeSwitchFeed (s : State) (k : SlotId) (target : Word) (a : Args) :
    Carries s (s.takeSwitchFeed k target a) := by
  unfold State.takeSwitchFeed
  split
  · exact carries_writeAnswer s k _
  · next c b h =>
    obtain rfl := chanOf_switchArgs h
    split
    · exact carries_writeAnswer s k _
    · split
      · next el => exact (carries_feedFrom .ticket el).trans (carries_writeAnswer _ k _)
      · exact carries_writeAnswer s k _

/-- Bays due for a re-evaluation, re-evaluated one after the other. -/
theorem foldl_reevaluate_well (l : List BayId) (s : State) (h : ∀ b, s.FeedsWell (b ∈ l) b) :
    ∀ b, (l.foldl State.reevaluate s).FeedsWell False b := by
  induction l generalizing s with
  | nil => exact fun b => by simpa using h b
  | cons x l ih =>
    refine ih _ fun b => ?_
    obtain ⟨here, twin⟩ := reevaluate_well (h x) (h (twinOf x)) (x ∈ l)
    have due (e : b ≠ x) : (b ∈ x :: l) = (b ∈ l) := by simp [e]
    by_cases hb : chanOf b = chanOf x
    · obtain rfl | rfl := eq_or_twin x b hb
      · exact here
      · rw [← due (twinOf_ne x)]; exact twin
    · rw [← due fun e => hb (by rw [e])]
      exact (h b).elsewhere (touches_reevaluate s x).channel.answer hb

theorem latch_foldl_reevaluate (l : List BayId) (s : State) :
    (l.foldl State.reevaluate s).latch = s.latch ∧ (l.foldl State.reevaluate s).port.partState = s.port.partState := by
  induction l generalizing s with
  | nil => exact ⟨rfl, rfl⟩
  | cons x l ih =>
    obtain ⟨latch, part⟩ := ih (s.reevaluate x)
    have touched := touches_reevaluate s x
    exact ⟨latch.trans touched.latch, part.trans (congrArg Port.partState touched.port :)⟩

theorem carries_enforce (s : State) : Carries s s.enforce := by
  obtain ⟨latch, part⟩ := latch_foldl_reevaluate (List.finRange 24) { s with latch := true }
  have turned : Carries s ((List.finRange 24).foldl State.reevaluate { s with latch := true }) := by
    refine ⟨part, fun _ => latch, fun h => (feedSound_iff _).mpr (foldl_reevaluate_well _ _ fun b => ?_)⟩
    have due := ((feedSound_iff s).mp h b).due_of_same (t := { s with latch := true }) rfl rfl rfl
    rwa [eq_true (List.mem_finRange b)]
  exact turned.trans (carries_foldl _ carries_raiseRefillMarkWant _ _)

theorem enforce_latch (s : State) : s.enforce.latch = true := by
  unfold State.enforce
  simp only
  refine (carries_foldl _ carries_raiseRefillMarkWant _ _).latch ?_
  obtain ⟨latch, _⟩ := latch_foldl_reevaluate (List.finRange 24) { s with latch := true }
  exact latch

theorem carries_takeEnforce (s : State) (k : SlotId) : Carries s (s.takeEnforce k) := by
  unfold State.takeEnforce
  split
  · exact carries_writeAnswer s k _
  · exact (carries_enforce s).trans (carries_writeAnswer _ k _)

theorem carries_zeroCounts (s : State) : Carries s s.zeroCounts := by
  have chan (c : ChanId) : s.zeroCounts.chan c = (s.chan c).zeroCounts :=
    mapAll_get s.channels (fun _ ch => ch.zeroCounts) c
  refine ⟨rfl, id, fun h => (feedSound_iff _).mpr fun b =>
    ((feedSound_iff s).mp h b).of_merit ⟨rfl, fun c => by rw [chan]; rfl, fun _ => rfl⟩ rfl rfl (by rw [chan]; rfl)⟩

theorem carries_takeSelfTest (s : State) (k : SlotId) (a : Args) : Carries s (s.takeSelfTest k a) := by
  have started (code : Nat) (b : Option BayId) := carries_startTest s k code b
  unfold State.takeSelfTest
  split
  · split
    · next b _ =>
      unfold State.takeLoopTest
      refine (carries_joinOrder s k b).trans ?_
      simp only
      split
      · exact carries_finishTicket _ k _
      · split
        · exact carries_finishTicket _ k _
        · exact (carries_startTest _ k _ _).trans (carries_placeTagWork _ _)
    · exact carries_writeAnswer s k _
  · unfold State.takePlainTest
    simp only
    split
    · exact carries_writeAnswer s k _
    · split
      · exact carries_writeAnswer s k _
      · split
        · exact (started _ _).trans (carries_decideTest _ k _ _)
        · split
          · exact (started _ _).trans (carries_decideTest _ k _ _)
          · split
            · exact (started (argByte a 0).toNat none).trans (carries_beside rfl rfl rfl rfl)
            · exact (started (argByte a 0).toNat none).trans (carries_beside rfl rfl rfl rfl)

theorem carries_takeTicket (s : State) (k : SlotId) : Carries s (s.takeTicket k) := by
  have free (u : State) : Carries u (u.freePosted k) := carries_updSlot u k _
  unfold State.takeTicket
  have marked : Carries s (s.markTaken k) := carries_updSlot s k _
  refine marked.trans ?_
  simp only
  unfold State.applyTicket
  split
  · next kind _ =>
    cases kind with
    | tallyPost => exact (carries_takeTallyPost _ _ _).trans (free _)
    | purgePost => exact (carries_takePurge _ _ _).trans (free _)
    | setProfile => exact carries_takeSetProfile _ k _ _
    | checkStore => exact carries_takeCheckStore _ k _
    | readTagBlock => exact carries_takeReadTag _ k _ _
    | historyQuery => exact carries_writeAnswer _ k _
    | forgetSerial => exact carries_takeForget _ k _
    | clearHeld => exact carries_takeClearHeld _ k _
    | switchFeed => exact carries_takeSwitchFeed _ k _ _
    | enforce => exact carries_takeEnforce _ k
    | selfTest => exact carries_takeSelfTest _ k _
    | clearCounts => exact (carries_zeroCounts _).trans (carries_writeAnswer _ k _)
  · exact (carries_countReject _).trans (free _)
  · exact carries_writeAnswer _ k _

/-! ### Engines -/

theorem carries_updEng (s : State) (e : EngId) (f : Engine → Engine) : Carries s (s.updEng e f) :=
  carries_beside rfl rfl rfl rfl

theorem carries_startTransaction (s : State) (first : Nat) (e : EngId) (b : BayId) (o : Origin) (c : TagCommand) :
    Carries s (s.startTransaction first e b o c) := carries_beside rfl rfl rfl rfl

theorem carries_leaveQueue (s : State) (e : EngId) (k : SlotId) : Carries s (s.leaveQueue e k) :=
  carries_beside rfl rfl rfl rfl

theorem carries_loopRead (s : State) (e : EngId) (b : BayId) (blk : Block) : Carries s (s.loopRead e b blk) := by
  unfold State.loopRead
  split
  · exact .refl s
  · split
    · exact (carries_updEng s e _).trans (carries_startTransaction _ _ e b _ _)
    · exact (carries_leaveQueue s e _).trans (carries_decideLoop _ _ _ _)

theorem carries_endHeadTicket (s : State) (e : EngId) (a : Answer) : Carries s (s.endHeadTicket e a) := by
  unfold State.endHeadTicket
  split
  · exact (carries_leaveQueue s e _).trans (carries_finishTicket _ _ a)
  · exact .refl s

theorem carries_deliverStep (s : State) (t : Transaction) (p : Payload) : Carries s (s.deliverStep t p) := by
  have ended : Carries s (s.endStep t.bay) := carries_updBay s t.bay _ fun _ => ⟨rfl, rfl, rfl⟩
  refine ended.trans ?_
  unfold State.deliverStep
  simp only
  split
  · split
    · next state =>
      have un : ((s.endStep t.bay).bay t.bay).state.decided = false := by rw [state]; rfl
      split
      · exact carries_gotIdentity _ _ _ un
      · exact carries_gotGauge _ _ _ un
    · exact .refl _
  · split
    · next state => exact carries_gotResponse _ _ _ (by rw [state]; rfl)
    · exact .refl _
  · exact .refl _

theorem carries_deliver (s : State) (e : EngId) (t : Transaction) (p : Payload) : Carries s (s.deliver e t p) := by
  unfold State.deliver
  split
  · exact carries_deliverStep s t p
  · split
    · exact carries_burnAcked s _ _
    · exact .refl s
  · exact carries_flagWritten s _ _
  · exact carries_flagWritten s _ _
  · unfold State.deliverSense
    split
    · split
      · exact carries_takeSample s _ _ _
      · exact .refl s
    · exact .refl s
  · split
    · exact carries_endHeadTicket s e _
    · exact .refl s
  · split
    · exact carries_loopRead s e _ _
    · exact .refl s

theorem carries_handDiscard (s : State) (e : EngId) (t : Transaction) : Carries s (s.handDiscard e t) := by
  unfold State.handDiscard
  split
  · exact carries_enterFault s _
  · exact carries_enterFault s _
  · exact carries_enterFault s _
  · exact carries_enterFault s _
  · exact carries_enterFault s _
  · exact carries_endHeadTicket s e _
  · split
    · exact .refl s
    · exact (((carries_leaveQueue s e _).trans (carries_endTest _ _ _)).trans (carries_enterFault _ _)).trans
        (carries_finishTicket _ _ _)

theorem carries_discard (s : State) (e : EngId) (t : Transaction) (cause : DiscardCause) :
    Carries s (s.discard e t cause) := by
  refine .trans ?_ (carries_handDiscard _ e t)
  exact carries_beside rfl rfl rfl rfl

theorem carries_endAttempt (s : State) (e : EngId) (t : Transaction) (o : AttemptOutcome) :
    Carries s (s.endAttempt e t o) := by
  have idle : Carries s (s.idleEngine e) := carries_updEng s e _
  have gap (x : Transaction) : Carries s (s.enterGap e x) := carries_updEng s e _
  unfold State.endAttempt
  split
  · exact idle.trans (carries_deliver _ e t _)
  · exact idle.trans (carries_burnRefused _ _)
  · simp only
    split
    · exact carries_discard s e _ _
    · exact gap _
  · simp only
    split
    · exact carries_discard s e _ _
    · exact gap _
  · split
    · exact carries_discard s e _ _
    · exact gap _

/-! ### Removal -/

theorem onlyBay_emptiedEntry (b : BayId) (s : State) (q : QueueEntry) : OnlyBay b s (s.emptiedEntry q) := by
  unfold State.emptiedEntry
  split <;> exact ⟨rfl, rfl, rfl, fun _ _ => rfl⟩

theorem onlyBay_foldl {α : Type} {b : BayId} (f : State → α → State) (h : ∀ s x, OnlyBay b s (f s x)) (l : List α)
    (s : State) : OnlyBay b s (l.foldl f s) := by
  induction l generalizing s with
  | nil => exact .refl b s
  | cons x l ih => exact (h s x).trans (ih _)

theorem onlyBay_removeAtEngine (s : State) (b : BayId) : OnlyBay b s (s.removeAtEngine b) := by
  have abort : OnlyBay b s (match (s.eng (engOf b)).activity with
      | .attempt t | .gap t _ => if t.bay = b then s.idleEngine (engOf b) else s
      | .idle => s) := by
    split
    · split
      · exact ⟨rfl, rfl, rfl, fun _ _ => rfl⟩
      · exact .refl b s
    · split
      · exact ⟨rfl, rfl, rfl, fun _ _ => rfl⟩
      · exact .refl b s
    · exact .refl b s
  have drop (u : State) (f : Engine → Engine) (g : Port → Port) (hg : (g u.port).partState = u.port.partState) :
      OnlyBay b u ((u.updEng (engOf b) f).updPort g) := ⟨hg, rfl, rfl, fun _ _ => rfl⟩
  have fill (u : State) : OnlyBay b u (u.fillQueue (engOf b)) := ⟨rfl, rfl, rfl, fun _ _ => rfl⟩
  unfold State.removeAtEngine
  simp only
  refine .trans ?_ (fill _)
  refine .trans ?_ (onlyBay_updBay _ b _)
  refine .trans ?_ (drop _ _ _ rfl)
  exact abort.trans (onlyBay_foldl _ (onlyBay_emptiedEntry b) _ _)

/-- A removed bay's context and its place at the engine, the authentication engine and the history, but for its
feed. -/
def State.emptyBay (s : State) (b : BayId) : State :=
  (((s.removeAtEngine b).withdrawAuth b).unlinkEntry b).clearBay b

theorem removeBay_eq (s : State) (b : BayId) :
    s.removeBay b
      = (if (s.bay b).state = .feeding then (s.emptyBay b).feedLost b .removed else s.emptyBay b).serveBay b := by
  unfold State.removeBay State.emptyBay
  simp only [decide_eq_true_eq]

theorem onlyBay_withdrawAuth (s : State) (b : BayId) : OnlyBay b s (s.withdrawAuth b) :=
  ⟨rfl, rfl, rfl, fun x hx => State.bay_updBay_other { s with auth := s.auth.withdraw b } b x _ hx⟩

theorem onlyBay_unlinkEntry (s : State) (b : BayId) : OnlyBay b s (s.unlinkEntry b) := by
  unfold State.unlinkEntry
  split
  · exact .refl b s
  · exact (onlyBay_updHist b s _).trans (onlyBay_makeDue b _ _)

theorem onlyBay_emptyBay (s : State) (b : BayId) : OnlyBay b s (s.emptyBay b) :=
  (((onlyBay_removeAtEngine s b).trans (onlyBay_withdrawAuth _ b)).trans (onlyBay_unlinkEntry _ b)).trans
    ((onlyBay_updBay _ b _).trans (onlyBay_raise b _ _))

/-- The context of a removed bay but for its burn token: the defaults (R34). -/
theorem emptyBay_self (s : State) (b : BayId) : ∃ token, (s.emptyBay b).bay b = { Bay.default with burnToken := token } :=
  ⟨_, State.bay_updBay_self ..⟩

theorem carries_removeBay (s : State) (b : BayId) : Carries s (s.removeBay b) := by
  obtain ⟨token, self⟩ := emptyBay_self s b
  have un : ((s.emptyBay b).bay b).state.decided = false := by rw [self]; rfl
  rw [removeBay_eq]
  refine .trans ?_ (carries_serveBay _ b)
  split
  · next fed => exact (onlyBay_emptyBay s b).carries_feedLost _ fed un
  · next idle => exact (onlyBay_emptyBay s b).carries_undecided idle un

/-! ### The store controller -/

theorem carries_updStore (s : State) (f : Store → Store) : Carries s (s.updStore f) := carries_beside rfl rfl rfl rfl

theorem carries_updSector (s : State) (j : SecId) (f : Sector → Sector) : Carries s (s.updSector j f) :=
  carries_updStore s _

theorem carries_stepJournalSeq (s : State) : Carries s s.stepJournalSeq := by
  unfold State.stepJournalSeq
  split
  · exact carries_updStore s _
  · exact (kept_degrade s).carries

theorem carries_stepSectorSeq (s : State) : Carries s s.stepSectorSeq := by
  unfold State.stepSectorSeq
  split
  · exact carries_updStore s _
  · exact (kept_degrade s).carries

theorem carries_locateRecord (s : State) (j : SecId) (slot : Nat) (r : JournalRecord) :
    Carries s (s.locateRecord j slot r) := by
  unfold State.locateRecord
  split
  · exact .refl s
  · exact carries_updHist s _

theorem carries_recordItemDone (s : State) (r : JournalRecord) (changed : Bool) :
    Carries s (s.recordItemDone r changed) := by
  have popped : Carries s (s.updEntry r.serial fun e => { e with journalDue := false }).popItem :=
    (carries_updHist s _).trans (carries_updHist _ _)
  unfold State.recordItemDone
  simp only
  split
  · exact popped.trans (kept_makeDue _ _).carries
  · exact popped

theorem carries_itemWritten (s : State) (j : SecId) (slot : Nat) (r : JournalRecord) (changed : Bool) :
    Carries s (s.itemWritten j slot r changed) := by
  unfold State.itemWritten
  split
  · exact carries_locateRecord s j slot r
  · split
    · exact carries_locateRecord s j slot r
    · split
      · split
        · exact (carries_updHist s _).trans (carries_updHist _ _)
        · exact .refl s
      · split
        · exact .refl s
        · exact (carries_locateRecord s j slot r).trans (carries_recordItemDone _ r changed)

theorem carries_recordFailed (s : State) (r : JournalRecord) : Carries s (s.recordFailed r) := by
  have counted := carries_updStore s fun x => { x with programFailures := satAdd top16 x.programFailures 1 }
  unfold State.recordFailed
  extract_lets n u
  split
  · exact counted
  · split
    · exact counted.trans (kept_degrade _).carries
    · exact counted.trans (carries_updStore _ _)

theorem carries_endAppend (s : State) (j : SecId) (slot : Nat) (r : JournalRecord) (got : Block) :
    Carries s (s.endAppend j slot r got) := by
  have written : Carries s (({ s with flash := s.flash.writeRun (slotBase j slot) got.toList } : State).idleStore.updSector
      j Sector.useSlot) := carries_beside rfl rfl rfl rfl
  unfold State.endAppend
  simp only
  refine written.trans ?_
  split
  · exact ((carries_updStore _ _).trans (carries_itemWritten _ j slot r _)).trans (carries_stepJournalSeq _)
  · exact carries_recordFailed _ r

theorem carries_endHeader (s : State) (j : SecId) (seq : Nat) (got : Block) : Carries s (s.endHeader j seq got) := by
  have written : Carries s ({ s with flash := s.flash.writeRun (slotBase j 0) got.toList } : State).idleStore :=
    carries_beside rfl rfl rfl rfl
  unfold State.endHeader
  simp only
  refine written.trans ?_
  split
  · exact ((carries_updSector _ j _).trans (carries_stepSectorSeq _)).trans (kept_reclaimCheck _).carries
  · exact (carries_updSector _ j _).trans (carries_stepSectorSeq _)

theorem carries_eraseFailed (s : State) (j : SecId) : Carries s (s.eraseFailed j) := by
  have failed : Carries s (((s.updSector j fun _ => { state := .retired, seq := none, nextSlot := 0 }).updStore fun x =>
    { x with eraseFailures := satAdd top16 x.eraseFailures 1 }).raise .store) := carries_beside rfl rfl rfl rfl
  unfold State.eraseFailed State.degradedTest
  split
  · exact failed.trans (kept_degrade _).carries
  · exact failed

theorem carries_endErase (s : State) (j : SecId) (left : List (Nat × Byte)) : Carries s (s.endErase j left) := by
  have erased (u : State) (h : Carries s u) (k : Prop) [Decidable k] :
      Carries s (if k then (u.updStore fun x => { x with victim := none }).reclaimCheck else u) := by
    split
    · exact (h.trans (carries_updStore u _)).trans (kept_reclaimCheck _).carries
    · exact h
  have cleared (m : Memory) : Carries s ({ s with flash := m } : State).idleStore := carries_beside rfl rfl rfl rfl
  have freed := cleared ((s.flash.erase (sectorBase (secNumber j)) 4096).scatter (sectorBase (secNumber j)) 4096 left)
  unfold State.endErase
  simp only
  refine erased _ (freed.trans ?_) _
  split
  · exact carries_beside rfl rfl rfl rfl
  · exact carries_eraseFailed _ j

/-! ### The profile switch (R174, R31) -/

/-- The reason a bay fails for reads nothing of a profile but its ink type. -/
theorem barReasonFor_ink {latch : Bool} {p q : Option Profile} (x : Bay) (h : p.map (·.inkType) = q.map (·.inkType)) :
    barReasonFor latch p x = barReasonFor latch q x := by
  cases p <;> cases q <;> simp_all [barReasonFor]

/-- A profile switched, but for the re-evaluations it leads to. -/
def State.installProfile (s : State) (c : ChanId) (p : Profile) : State :=
  let old := (s.chan c).profile
  let s := s.updChan c fun ch =>
    { ch.switchAccounts p with
      profile := some p
      closedReason := if old.isNone then .empty else ch.closedReason }
  let s := if old.isNone then s.raise .channel else s
  if old.map Profile.windowSettings ≠ some p.windowSettings then (s.emptyWindow (bayA c)).emptyWindow (bayB c) else s

theorem switchProfile_eq (s : State) (c : ChanId) (p : Profile) :
    s.switchProfile c p
      = if (s.chan c).profile.map (·.inkType) ≠ some p.inkType then
          ((s.installProfile c p).reevaluate (bayA c)).reevaluate (bayB c)
        else s.installProfile c p := rfl

theorem switchAccounts_feedState (ch : Channel) (p : Profile) : (ch.switchAccounts p).feedState = ch.feedState := by
  unfold Channel.switchAccounts
  simp only
  split <;> split <;> rfl

/-- The profile of a channel is `p`, and part state, latch, every bay's state, book and merit, the valves and the other
channels' profiles are as they were. -/
structure Installed (c : ChanId) (p : Profile) (s t : State) : Prop where
  partState : t.port.partState = s.port.partState
  latch     : t.latch = s.latch
  bays      : ∀ b, (t.bay b).state = (s.bay b).state ∧ (t.bay b).book = (s.bay b).book
    ∧ (t.bay b).merit = (s.bay b).merit
  valves    : ∀ x, (t.chan x).feedState = (s.chan x).feedState
  others    : ∀ x, x ≠ c → (t.chan x).profile = (s.chan x).profile
  profile   : (t.chan c).profile = some p

theorem Installed.raise {c : ChanId} {p : Profile} {s t : State} (h : Installed c p s t) (n : Notice) :
    Installed c p s (t.raise n) := ⟨h.partState, h.latch, h.bays, h.valves, h.others, h.profile⟩

theorem Installed.emptyWindow {c : ChanId} {p : Profile} {s t : State} (h : Installed c p s t) (b : BayId) :
    Installed c p s (t.emptyWindow b) := by
  refine ⟨h.partState, h.latch, fun x => ?_, h.valves, h.others, h.profile⟩
  obtain ⟨state, book, merit⟩ := h.bays x
  rw [State.emptyWindow, bay_updBay]
  split
  · exact ⟨state, book, merit⟩
  · exact ⟨state, book, merit⟩

theorem installed_updChan (s : State) (c : ChanId) (p : Profile) (f : Channel → Channel)
    (hp : (f (s.chan c)).profile = some p) (hf : (f (s.chan c)).feedState = (s.chan c).feedState) :
    Installed c p s (s.updChan c f) := by
  have self := State.chan_updChan_self s c f
  have other (x : ChanId) := State.chan_updChan_other s c x f
  refine ⟨rfl, rfl, fun _ => ⟨rfl, rfl, rfl⟩, fun x => ?_, fun x hx => by rw [other x hx], by rw [self, hp]⟩
  by_cases hx : x = c
  · rw [hx, self, hf]
  · rw [other x hx]

theorem installed_installProfile (s : State) (c : ChanId) (p : Profile) : Installed c p s (s.installProfile c p) := by
  have noticed (u : State) (k : Prop) [Decidable k] (h : Installed c p s u) :
      Installed c p s (if k then u.raise .channel else u) := by
    split
    · exact h.raise _
    · exact h
  unfold State.installProfile
  extract_lets old u v
  have step : Installed c p s v := noticed u _ (installed_updChan s c p _ rfl (switchAccounts_feedState _ p))
  split
  · exact (step.emptyWindow _).emptyWindow _
  · exact step

theorem carries_switchProfile (s : State) (c : ChanId) (p : Profile) : Carries s (s.switchProfile c p) := by
  obtain ⟨part, latch, bays, feed, other, here⟩ := installed_installProfile s c p
  rw [switchProfile_eq]
  split
  · have reA := touches_reevaluate (s.installProfile c p) (bayA c)
    have reB := touches_reevaluate ((s.installProfile c p).reevaluate (bayA c)) (bayB c)
    rw [chanOf_bayA] at reA
    rw [chanOf_bayB] at reB
    have both := (reA.trans reB).channel.answer
    refine ⟨(congrArg Port.partState both.port :).trans part, fun h => both.latch.trans (latch.trans h),
      fun h => (feedSound_iff _).mpr fun b => ?_⟩
    have before := (feedSound_iff s).mp h
    have due (x : BayId) : (s.installProfile c p).FeedsWell True x := by
      obtain ⟨state, book, _⟩ := bays x
      exact (before x).due_of_same state book (feedingBay_congr (feed (chanOf x)))
    have twinA : ∀ c : ChanId, twinOf (bayA c) = bayB c := by decide
    have twinB : ∀ c : ChanId, twinOf (bayB c) = bayA c := by decide
    obtain ⟨hereA, twin⟩ := reevaluate_well (due (bayA c)) (due (twinOf (bayA c))) False
    rw [twinA] at twin
    obtain ⟨hereB, hereA⟩ := reevaluate_well twin (by rw [twinB]; exact hereA) False
    rw [twinB] at hereA
    by_cases hb : chanOf b = c
    · subst hb
      obtain e | e := bayA_or_bayB b
      · rw [← e] at hereA ⊢; exact hereA
      · rw [← e] at hereB ⊢; exact hereB
    · refine State.FeedsWell.elsewhere ?_ both hb
      obtain ⟨state, book, merit⟩ := bays b
      refine (before b).of_same state book (eligible_congr ?_ (by rw [state]) book) (feedingBay_congr (feed _))
      simp only [State.barReasonOf, State.profileOf, latch, other _ hb, barReasonFor_merit merit]
  · next same =>
    refine ⟨part, fun h => latch.trans h, fun h => (feedSound_iff _).mpr fun b => ?_⟩
    obtain ⟨state, book, merit⟩ := bays b
    refine ((feedSound_iff s).mp h b).of_same state book (eligible_congr ?_ (by rw [state]) book)
      (feedingBay_congr (feed _))
    have ink : ((s.installProfile c p).chan (chanOf b)).profile.map (·.inkType)
        = (s.chan (chanOf b)).profile.map (·.inkType) := by
      by_cases hb : chanOf b = c
      · rw [hb, here]; exact (not_not.mp same).symm
      · rw [other _ hb]
    simp only [State.barReasonOf, State.profileOf, latch, barReasonFor_merit merit, barReasonFor_ink _ ink]

end Sys2Proof.Machine
end

section
/-! SUPPORT. What a command can lead to: everything carried on, a reset, or READY; a sound feed, the latch, and the reset
values while STARTING. -/

namespace Sys2Proof.Machine

/-! ### The power-fail warning and resets (R168, R169, R197) -/

theorem carries_warn (s : State) : Carries s s.warn := by
  have away : Carries s s.turnAwayRewrites := by
    unfold State.turnAwayRewrites
    simp only
    refine .trans ?_ (carries_foldl _ (fun u (t : StoreTicket) => carries_writeAnswer u t.slot _) _ _)
    exact carries_updStore s _
  unfold State.warn
  simp only
  have due := (kept_makeAllDue s.turnAwayRewrites s.turnAwayRewrites.installedSerials).carries
  exact (away.trans due).trans (carries_beside rfl rfl rfl rfl)

theorem updStore_eq_self {s : State} {f : Store → Store} (h : f s.store = s.store) : s.updStore f = s := by
  simp only [State.updStore, h]

theorem updHist_eq_self {s : State} {f : History → History} (h : f s.history = s.history) : s.updHist f = s := by
  simp only [State.updHist, h]

/-- With no store ticket and no live entry the warning is the input taken up and its notice (R168). -/
theorem warn_eq {s : State} (tickets : s.store.tickets = []) (live : s.history.live = []) :
    s.warn = (s.raise .power).updStore fun x => { x with powerWarning := true } := by
  have away : s.turnAwayRewrites = s := by
    unfold State.turnAwayRewrites
    simp only [tickets, List.filter_nil, List.foldl_nil]
    refine updStore_eq_self ?_
    rw [tickets, List.filter_nil, ← tickets]
  unfold State.warn
  simp only [away, State.installedSerials, live, List.filter_nil, List.map_nil]
  rfl

/-- The state a reset leaves before a power-fail input found active is taken up (R197). -/
def State.cleared (s : State) : State :=
  { State.reset with pending := s.pending, outside := s.outside, flash := s.flash }

/-- After a reset: the reset values, with a power-fail input found active taken up. -/
theorem afterReset_cases (s : State) :
    s.afterReset = s.cleared
      ∨ s.afterReset
        = ((s.cleared.raise .power).updStore fun x => { x with powerWarning := true }).publishSince s.cleared := by
  unfold State.afterReset
  simp only
  split
  · exact .inr (congrArg (fun u : State => u.publishSince s.cleared) (warn_eq (s := s.cleared) rfl rfl))
  · exact .inl rfl

/-! ### The reset values while STARTING (R17, R95, R196) -/

/-- Bays, channels, engines, authentication, latch, history, self-test record and store stand at their reset values, but
for a power-fail warning. -/
structure State.Clean (s : State) : Prop where
  bays     : s.bays = Vector.replicate 24 Bay.default
  channels : s.channels = Vector.replicate 12 Channel.default
  engines  : s.engines = Vector.replicate 4 Engine.default
  auth     : s.auth = { fifo := [], current := none }
  latch    : s.latch = false
  history  : s.history = History.default
  selfTest : s.selfTest = SelfTest.default
  store    : s.store = { Store.default with powerWarning := s.store.powerWarning }

theorem startsClean_iff (s : State) : s.StartsClean ↔ (s.port.partState = .starting → s.Clean) :=
  ⟨fun h k => let ⟨a, b, c, d, e, f, g, i⟩ := h k; ⟨a, b, c, d, e, f, g, i⟩,
    fun h k => let ⟨a, b, c, d, e, f, g, i⟩ := h k; ⟨a, b, c, d, e, f, g, i⟩⟩

theorem State.Clean.bay {s : State} (h : s.Clean) (b : BayId) : s.bay b = Bay.default := by
  simp [State.bay, h.bays]

theorem State.Clean.chan {s : State} (h : s.Clean) (c : ChanId) : s.chan c = Channel.default := by
  simp [State.chan, h.channels]

theorem State.Clean.eng {s : State} (h : s.Clean) (e : EngId) : s.eng e = Engine.default := by
  simp [State.eng, h.engines]

theorem State.Clean.op {s : State} (h : s.Clean) : s.store.op = none := by rw [h.store]; rfl

/-- A change of the port, the flash, the tally counters, the generation words and what stands outside the resets. -/
theorem State.Clean.beside {s t : State} (h : s.Clean) (bays : t.bays = s.bays) (channels : t.channels = s.channels)
    (engines : t.engines = s.engines) (auth : t.auth = s.auth) (latch : t.latch = s.latch)
    (history : t.history = s.history) (selfTest : t.selfTest = s.selfTest) (store : t.store = s.store) : t.Clean :=
  ⟨bays.trans h.bays, channels.trans h.channels, engines.trans h.engines, auth.trans h.auth, latch.trans h.latch,
    history.trans h.history, selfTest.trans h.selfTest, by rw [store]; exact h.store⟩

/-- The power-fail warning is the one figure of the store that changes while STARTING. -/
theorem State.Clean.warned {s : State} (h : s.Clean) (w : Bool) :
    (s.updStore fun x => { x with powerWarning := w }).Clean :=
  ⟨h.bays, h.channels, h.engines, h.auth, h.latch, h.history, h.selfTest, by
    simp only [State.updStore]
    rw [h.store]⟩

theorem clean_cleared (s : State) : s.cleared.Clean := ⟨rfl, rfl, rfl, rfl, rfl, rfl, rfl, rfl⟩

theorem State.Clean.publish {s : State} (h : s.Clean) (before : State) : (s.publishSince before).Clean := by
  refine h.beside ?_ ?_ ?_ ?_ ?_ ?_ ?_ ?_
  all_goals simp only [State.publishSince_bays, State.publishSince_channels, State.publishSince_engines,
    State.publishSince_auth, State.publishSince_latch, State.publishSince_history, State.publishSince_selfTest,
    State.publishSince_store]

theorem clean_afterReset (s : State) : s.afterReset.Clean := by
  have raised : (s.cleared.raise .power).Clean := (clean_cleared s).beside rfl rfl rfl rfl rfl rfl rfl rfl
  obtain h | h := afterReset_cases s <;> rw [h]
  · exact clean_cleared s
  · exact (raised.warned true).publish _

/-- With the reset values nothing waits for the journal or the flash while STARTING. -/
theorem State.Clean.advanceStore {s : State} (h : s.Clean) (starting : s.port.partState = .starting) (before : State) :
    s.advanceStore before = s := by
  have writing : s.store.writing = none := by rw [h.store]; rfl
  have waiting : s.startWaiting = s := by
    refine if_neg fun ⟨_, waits, _⟩ => ?_
    rw [State.itemsWait, h.history] at waits
    exact nomatch waits
  have stalled : s.stalledTest = s := by
    refine if_neg fun ⟨mode, _⟩ => ?_
    rw [h.store] at mode
    exact nomatch mode
  have joined : s.flushJoining = s := updHist_eq_self (by rw [h.history]; rfl)
  unfold State.advanceStore State.watchJournal
  rw [noteChange_idle writing, waiting, stalled, joined]
  exact if_pos (.inr (.inl starting))

/-- With the reset values no engine has work. -/
theorem State.Clean.arbitrateAll {s : State} (h : s.Clean) (first : Nat) : s.arbitrateAll first = s := by
  have idle (e : EngId) : s.arbitrate first e = s := by
    have none' := chooseWork_none s e (fun b => by rw [h.bay]; rfl) (by rw [h.eng]; rfl)
    simp only [State.arbitrate, none']
    split <;> rfl
  simp only [State.arbitrateAll, List.foldl_cons, List.foldl_nil, idle]

theorem State.Clean.endStore {s : State} (h : s.Clean) (starting : s.port.partState = .starting) (before : State) :
    (s.endStore before).Clean := by
  rw [State.endStore, h.advanceStore starting]
  exact h.publish before

theorem State.Clean.endEvent {s : State} (h : s.Clean) (starting : s.port.partState = .starting) (before : State) :
    (s.endEvent before).Clean := by
  rw [State.endEvent, State.advanceWork, h.advanceStore starting, h.arbitrateAll]
  exact h.publish before

/-! ### The event of READY (R199) -/

/-- The state after the rebuild with its records written, the part READY. -/
def State.readied (s : State) : State := s.rebuild.writeRecords.updPort fun p => { p with partState := .ready }

theorem carries_takeArrival (s : State) (k : SlotId) : Carries s (s.takeArrival k) :=
  (carries_takeTicket s k).trans (kept_takeArrival s k).carries

theorem carries_beginSettling (s : State) (b : BayId) (h : (s.bay b).state = .empty) : Carries s (s.beginSettling b) := by
  refine OnlyBay.carries_undecided (b := b) ((onlyBay_updBay s b _).trans (onlyBay_moveBay _ b .settling)) ?_ ?_
  · rw [h]; nofun
  · rw [State.beginSettling, bay_moveBay_self, moved_state]; rfl

theorem carries_readPresence (s : State) (b : BayId) : Carries s (s.readPresence b) := by
  unfold State.readPresence
  split
  · next h => exact carries_beginSettling s b h.2
  · exact .refl s

theorem carries_becomeReady (s : State) : Carries s.readied s.becomeReady := by
  have damaged (u : State) : Carries u (if u.store.profileState = .damaged then u.raise .store else u) := by
    split
    · exact carries_beside rfl rfl rfl rfl
    · exact .refl u
  have entered : Carries s.readied s.rebuild.writeRecords.enterReady := by
    unfold State.enterReady State.takeArrivals
    simp only
    refine .trans ?_ (damaged _)
    refine .trans ?_ (carries_foldl _ carries_readPresence _ _)
    refine .trans ?_ (carries_foldl _ carries_takeArrival _ _)
    exact carries_beside rfl rfl rfl rfl
  exact entered.trans (kept_becomeReady s).carries

@[simp] theorem degrade_bays (s : State) : s.degrade.bays = s.bays := by
  unfold State.degrade; split <;> rfl

@[simp] theorem degrade_channels (s : State) : s.degrade.channels = s.channels := by
  unfold State.degrade; split <;> rfl

@[simp] theorem degrade_latch (s : State) : s.degrade.latch = s.latch := by
  unfold State.degrade; split <;> rfl

theorem degradedWhere_keeps (p : Prop) [Decidable p] (s : State) :
    (if p then s.degrade else s).bays = s.bays ∧ (if p then s.degrade else s).latch = s.latch
      ∧ (if p then s.degrade else s).channels = s.channels := by
  split
  · exact ⟨degrade_bays s, degrade_latch s, degrade_channels s⟩
  · exact ⟨rfl, rfl, rfl⟩

theorem loaded_feedState (x : Channel) (j : SlotJudgement) : (x.loaded j).feedState = x.feedState := rfl

/-- The rebuild loads the profiles and leaves bays, valves and the latch alone (R95). -/
theorem rebuild_keeps (s : State) :
    s.rebuild.bays = s.bays ∧ s.rebuild.latch = s.latch
      ∧ ∀ c, (s.rebuild.chan c).feedState = (s.chan c).feedState := by
  have journal (u : State) :
      u.loadJournal.bays = u.bays ∧ u.loadJournal.latch = u.latch ∧ u.loadJournal.channels = u.channels := by
    unfold State.loadJournal
    obtain ⟨bays, latch, channels⟩ := degradedWhere_keeps
      (top32 < nextAfter (u.flash.allRecords.map (·.record.seq)) ∨ top32 < nextAfter (u.flash.headed.map (·.2))) _
    exact ⟨bays.trans (State.updStore_bays _ _), latch.trans (State.updStore_latch _ _),
      channels.trans (State.updStore_channels _ _)⟩
  obtain ⟨bays, latch, channels⟩ := journal s.loadProfiles
  refine ⟨bays, latch, fun c => ?_⟩
  have loaded : s.loadProfiles.chan c = (s.chan c).loaded (s.flash.judge c) :=
    mapAll_get s.channels (fun c ch => ch.loaded (s.flash.judge c)) c
  have same : s.rebuild.chan c = s.loadProfiles.chan c := congrArg (·[c]) channels
  rw [same, loaded, loaded_feedState]

/-- READY is entered with every bay EMPTY and every channel CLOSED. -/
theorem feedSound_readied {s : State} (h : s.Clean) : s.readied.FeedSound := by
  obtain ⟨bays, _, feed⟩ := rebuild_keeps s
  refine feedSound_of_vacant _ (fun b => ?_) fun c => ?_
  · have same : s.readied.bay b = s.bay b := congrArg (·[b]) bays
    rw [same, h.bay]; rfl
  · have same : (s.readied.chan c).feedState = (s.chan c).feedState := feed c
    rw [same, h.chan]; rfl

/-! ### Host writes -/

/-- A command carried everything on, or the part was reset. -/
def Continues (s t : State) : Prop := Carries s t ∨ ∃ u : State, t = u.afterReset

theorem Carries.continues {s t : State} (h : Carries s t) : Continues s t := .inl h

theorem endTaking_cases (s before : State) (kind : Word) :
    s.endTaking before kind = s.endStore before ∨ s.endTaking before kind = s.endQuiet before
      ∨ s.endTaking before kind = s.endEvent before := by
  unfold State.endTaking
  split <;> simp only [true_or, or_true]

theorem carries_endTaking (s before : State) (kind : Word) : Carries s (s.endTaking before kind) := by
  obtain h | h | h := endTaking_cases s before kind <;> rw [h]
  · exact (kept_endStore s before).carries
  · exact (kept_endQuiet s before).carries
  · exact (kept_endEvent s before).carries

theorem carries_handWrite (s : State) (k : SlotId) (v : Word) : Carries s (s.handWrite k v) := by
  have ignored : Carries s s.ignoreWrite := by
    refine .trans ?_ (kept_endQuiet _ s).carries
    exact carries_beside rfl rfl rfl rfl
  have hand (h : Hand) : Carries s (s.setHand k h) := carries_updSlot s k _
  unfold State.handWrite
  split
  · split
    · unfold State.arrive
      simp only
      split
      · exact hand _
      · split
        · exact ((hand _).trans (carries_takeTicket _ k)).trans (carries_endTaking _ s _)
        · refine .trans ?_ (kept_endQuiet _ s).carries
          exact carries_beside rfl rfl rfl rfl
    · exact ignored
  · split
    · refine .trans ?_ (kept_endQuiet _ s).carries
      exact carries_beside rfl rfl rfl rfl
    · exact ignored
  · split
    · exact hand _
    · exact ignored
  · exact ignored

theorem carries_writeRequest (s : State) (k : SlotId) (f : Slot → Slot) : Carries s (s.writeRequest k f) := by
  unfold State.writeRequest
  split
  · exact carries_updSlot s k f
  · exact .refl s

theorem carries_post (s : State) (k : SlotId) (kind target : Word) (a : Args) : Carries s (s.post k kind target a) :=
  (carries_writeRequest s k _).trans (carries_handWrite _ k _)

theorem continues_requestReset (s : State) : Continues s s.requestReset := by
  unfold State.requestReset
  split
  · exact .inl (.refl s)
  · simp only
    split
    · exact .inr ⟨_, rfl⟩
    · exact .inl (carries_beside rfl rfl rfl rfl)

theorem continues_writeWord (s : State) (a : Nat) (v : Word) : Continues s (s.writeWord a v) := by
  unfold State.writeWord
  split
  · unfold State.writeSlot
    split
    · exact (carries_handWrite s _ v).continues
    · split
      · exact (carries_writeRequest s _ _).continues
      · split
        · exact (carries_writeRequest s _ _).continues
        · split
          · exact (carries_writeRequest s _ _).continues
          · exact .inl (.refl s)
  · unfold State.writeRegister
    split
    · exact .inl (carries_beside rfl rfl rfl rfl)
    · split
      · exact .inl (carries_beside rfl rfl rfl rfl)
      · split
        · exact .inl (carries_beside rfl rfl rfl rfl)
        · split
          · unfold State.writeResetReq
            split
            · exact continues_requestReset s
            · exact .inl (.refl s)
          · exact .inl (.refl s)

/-! ### Every command -/

/-- The end of a flash operation, where a pending soft reset takes effect. -/
theorem Carries.endFlash {s t : State} (h : Carries s t) (before : State) : Continues s (t.endFlash before) := by
  unfold State.endFlash
  simp only
  split
  · exact .inr ⟨_, rfl⟩
  · exact .inl ((h.trans (kept_advanceWork t before).carries).trans (kept_publishSince _ before).carries)

theorem Carries.endEvent {s t : State} (h : Carries s t) (before : State) : Carries s (t.endEvent before) :=
  h.trans (kept_endEvent t before).carries

theorem Carries.endQuiet {s t : State} (h : Carries s t) (before : State) : Carries s (t.endQuiet before) :=
  h.trans (kept_endQuiet t before).carries

theorem Carries.endStore {s t : State} (h : Carries s t) (before : State) : Carries s (t.endStore before) :=
  h.trans (kept_endStore t before).carries

theorem Carries.endTimed {s t : State} (h : Carries s t) (before : State) : Carries s (t.endTimed before) :=
  h.trans (kept_endTimed t before).carries

theorem carries_updOutside (s : State) (f : Outside → Outside) : Carries s (s.updOutside f) :=
  carries_beside rfl rfl rfl rfl

theorem carries_endRewrite (s : State) (k : SlotId) (c : ChanId) (p : Profile) (r : RewriteEnd) :
    Carries s (s.endRewrite k c p r) := by
  have freed : Carries s ({ s with flash := s.rewriteResult c p r } : State).idleStore := carries_beside rfl rfl rfl rfl
  unfold State.endRewrite
  simp only
  refine freed.trans ?_
  split
  · unfold State.rewriteDone
    simp only
    refine .trans ?_ (carries_writeAnswer _ k _)
    exact (carries_switchProfile _ c p).trans (carries_updStore _ _)
  · unfold State.rewriteFailed
    refine .trans ?_ (carries_writeAnswer _ k _)
    exact carries_beside rfl rfl rfl rfl

theorem carries_handResult (s : State) (r : AuthRequest) (v : Bytes16) : Carries s (s.handResult r v) := by
  unfold State.handResult
  split
  · split
    · next state => exact carries_gotExpected s _ v (by rw [state]; rfl)
    · exact .refl s
  · split
    · exact carries_decideTest s _ _ _
    · exact .refl s

theorem carries_presenceActive (b : BayId) (x : Seating) {s t : State}
    (h : execPresenceActive b x s = .next t) : Carries s t := by
  obtain rfl := Host.Outcome.next.inj h
  have took : Carries s (s.takeUpPulled x) := by cases x <;> exact carries_beside rfl rfl rfl rfl
  split
  · exact .refl s
  · split
    · exact .refl s
    · have seated (c : Cartridge) : Carries s ((s.takeUpPulled x).seat b c) := took.trans (carries_updOutside _ _)
      split
      · next h =>
        refine Carries.endQuiet ((seated _).trans (carries_beginSettling _ b ?_)) s
        rw [← h.2, takeUpPulled_eq]
        rfl
      · exact seated _

theorem carries_bayRemoval (b : BayId) {s t : State} (h : execBayRemoval b s = .next t) : Carries s t := by
  obtain rfl := Host.Outcome.next.inj h
  have unseated : Carries s (s.unseat b) := by unfold State.unseat; exact carries_updOutside s _
  split
  · split
    · exact unseated
    · exact (unseated.trans (carries_removeBay _ b)).endEvent s
  · exact .refl s

theorem carries_settleTimerExpiry (b : BayId) {s t : State} (h : execSettleTimerExpiry b s = .next t) : Carries s t := by
  obtain rfl := Host.Outcome.next.inj h
  split
  · next expiry state _ =>
    have timed : Carries s (s.atTime expiry) := carries_updOutside s _
    refine Carries.endEvent (timed.trans ?_) s
    have steps := ((inserts_updBay (s.atTime expiry) b (fun x => { x with settleTimer := none }) fun _ => rfl).trans
      (inserts_moveBay _ b .identifying rfl)).trans (inserts_updBay _ b (fun x =>
        { x with wants := { x.wants with insertion := some .readIdentity } }) fun _ => rfl)
    exact steps.carries (show (s.bay b).state.decided = false by rw [state]; rfl)
  · exact .refl s

theorem carries_senseTimerExpiry (b : BayId) {s t : State} (h : execSenseTimerExpiry b s = .next t) : Carries s t := by
  obtain rfl := Host.Outcome.next.inj h
  split
  · next expiry _ =>
    have timed : Carries s (s.atTime expiry) := carries_updOutside s _
    refine Carries.endEvent (timed.trans ?_) s
    exact carries_updBay _ b _ fun _ => ⟨rfl, rfl, rfl⟩
  · exact .refl s

theorem carries_authComplete {s t : State} (h : execAuthComputationComplete s = .next t) : Carries s t := by
  obtain rfl := Host.Outcome.next.inj h
  have auth (u : State) (a : AuthEngine) : Carries u { u with auth := a } := carries_beside rfl rfl rfl rfl
  split
  · exact .refl s
  · refine Carries.endEvent (.trans ?_ (auth _ _)) s
    split
    · exact auth s _
    · exact (auth s _).trans (carries_handResult _ _ _)

/-- A command carries part state, latch and a sound feed on, resets the part, or makes it READY. -/
theorem exec_continues {c : Instr} {s t : State} (h : exec c s = .next t) :
    Continues s t ∨ s.port.partState = .starting ∧ t = s.becomeReady := by
  have attempt (e : EngId) (tr : Transaction) (time : Nat) (o : AttemptOutcome) :
      Carries s (((s.atTime time).endAttempt e tr o).endTimed s) :=
    Carries.endTimed ((carries_updOutside s _).trans (carries_endAttempt _ e tr o)) s
  cases c with
  | powerOnReset => exact .inl (.inr ⟨_, (Host.Outcome.next.inj h).symm⟩)
  | startupRebuildComplete =>
    obtain rfl := Host.Outcome.next.inj h
    split
    · exact .inl (.inl (.refl s))
    · next starting =>
      split
      · exact .inl (.inr ⟨_, rfl⟩)
      · exact .inr ⟨starting, rfl⟩
  | presenceActive b x => exact .inl (.inl (carries_presenceActive b x h))
  | bayRemoval b => exact .inl (.inl (carries_bayRemoval b h))
  | settleTimerExpiry b => exact .inl (.inl (carries_settleTimerExpiry b h))
  | senseTimerExpiry b => exact .inl (.inl (carries_senseTimerExpiry b h))
  | authComputationComplete => exact .inl (.inl (carries_authComplete h))
  | tallyFrame frame =>
    obtain rfl := Host.Outcome.next.inj h
    exact .inl (.inl ((carries_takeLinkFrame s frame).endEvent s))
  | tallyLinkPauseTimeout | tallyFrameBroken =>
    obtain rfl := Host.Outcome.next.inj h
    exact .inl (.inl (Carries.endQuiet (carries_beside (s := s) (t := s.countTallyError) rfl rfl rfl rfl) s))
  | pfwActive =>
    obtain rfl := Host.Outcome.next.inj h
    split
    · exact .inl (.inl (.refl s))
    · exact .inl (.inl (((carries_updOutside s _).trans (carries_warn _)).endStore s))
  | pfwInactive =>
    obtain rfl := Host.Outcome.next.inj h
    split
    · exact .inl (.inl (((carries_updOutside s _).trans (carries_updStore _ _)).endStore s))
    · exact .inl (.inl (.refl s))
  | arrivalWhileStarting k | arrivalWhileResetPending k | withdrawal k | release k | ignoredHandWrite k v =>
    obtain rfl := Host.Outcome.next.inj h
    exact .inl (.inl (carries_handWrite s k _))
  | hostWrite a v =>
    obtain rfl := Host.Outcome.next.inj h
    exact .inl (continues_writeWord s _ v)
  | tallyPost k _ _ | purgePost k _ _ | postedReject k _ _ _ | badKind k _ _ _ | setProfile k _ _ | checkStore k _ _
  | readTagBlock k _ _ | historyQuery k _ _ | forgetSerial k _ _ | clearHeld k _ _ | switchFeed k _ _ | enforce k _ _
  | clearCounts k _ _ | selfTestCode2 k _ | selfTestCode3 k _ | selfTestCode5 k _ | selfTestCode6 k _
  | selfTestCode9 k _ | selfTestBadCode k _ _ =>
    obtain rfl := Host.Outcome.next.inj h
    exact .inl (.inl (carries_post s k _ _ _))
  | noticeClear v | noticeEnable v | noticeRoute v =>
    obtain rfl := Host.Outcome.next.inj h
    exact .inl (.inl (carries_beside rfl rfl rfl rfl))
  | resetReq v =>
    obtain rfl := Host.Outcome.next.inj h
    split
    · exact .inl (continues_requestReset s)
    · exact .inl (.inl (.refl s))
  | softReset =>
    obtain rfl := Host.Outcome.next.inj h
    split
    · exact .inl (.inr ⟨_, rfl⟩)
    · exact .inl (.inl (.refl s))
  | tagAnswerFrame e frame time =>
    obtain rfl := Host.Outcome.next.inj h
    split
    · split
      · exact .inl (.inl (attempt e _ time _))
      · exact .inl (.inl (.refl s))
    · exact .inl (.inl (.refl s))
    · exact .inl (.inl (.refl s))
  | answerWindowTimeout e time =>
    obtain rfl := Host.Outcome.next.inj h
    split
    · exact .inl (.inl (attempt e _ time _))
    · exact .inl (.inl (.refl s))
    · exact .inl (.inl (.refl s))
  | retryGapExpiry e =>
    obtain rfl := Host.Outcome.next.inj h
    split
    · next tr ends _ =>
      have retried : Carries s ((s.atTime ends).retry e tr) := carries_beside rfl rfl rfl rfl
      exact .inl (.inl (retried.endQuiet s))
    · exact .inl (.inl (.refl s))
    · exact .inl (.inl (.refl s))
  | settleIntervalExpiry c =>
    obtain rfl := Host.Outcome.next.inj h
    split
    · next expiry _ =>
      have timed : Carries s (s.atTime expiry) := carries_updOutside s _
      refine .inl (.inl (Carries.endQuiet (timed.trans ?_) s))
      exact carries_updChan _ c _ fun _ => ⟨rfl, rfl⟩
    · exact .inl (.inl (.refl s))
  | recordProgram back =>
    obtain rfl := Host.Outcome.next.inj h
    split
    · exact .inl ((carries_endAppend s _ _ _ _).endFlash s)
    · exact .inl (.inl (.refl s))
  | headerProgram back =>
    obtain rfl := Host.Outcome.next.inj h
    split
    · exact .inl ((carries_endHeader s _ _ _).endFlash s)
    · exact .inl (.inl (.refl s))
  | sectorErase left =>
    obtain rfl := Host.Outcome.next.inj h
    split
    · exact .inl ((carries_endErase s _ left).endFlash s)
    · exact .inl (.inl (.refl s))
  | profileRewrite result =>
    obtain rfl := Host.Outcome.next.inj h
    split
    · exact .inl ((carries_endRewrite s _ _ _ result).endFlash s)
    · exact .inl (.inl (.refl s))
  | checkStoreRead =>
    obtain rfl := Host.Outcome.next.inj h
    split
    · exact .inl (((carries_updStore s _).trans (carries_writeAnswer _ _ _)).endFlash s)
    · exact .inl (.inl (.refl s))
  | profileSectorRead =>
    obtain rfl := Host.Outcome.next.inj h
    split
    · exact .inl (((carries_updStore s _).trans (carries_decideTest _ _ _ _)).endFlash s)
    · exact .inl (.inl (.refl s))
  | tagWorkComplete b =>
    obtain rfl := Host.Outcome.next.inj h
    exact .inl (.inl (carries_updOutside s _))

theorem feedSound_of_clean {s : State} (h : s.Clean) : s.FeedSound :=
  feedSound_of_vacant s (fun b => by rw [h.bay]; rfl) fun c => by rw [h.chan]; rfl

/-- Settles O12: every command carries a sound feed on, a reset leaves every bay EMPTY and every channel CLOSED, and
READY is entered from the reset values. -/
theorem feedStaysSound : Obligations.FeedStaysSound := by
  intro c s t sound clean h
  obtain (carried | ⟨u, rfl⟩) | ⟨starting, rfl⟩ := exec_continues h
  · exact carried.feed sound
  · exact feedSound_of_clean (clean_afterReset u)
  · exact (carries_becomeReady s).feed (feedSound_readied ((startsClean_iff s).mp clean starting))

end Sys2Proof.Machine
end

section
/-! SUPPORT. The commands of a part that is STARTING: what each leaves of the reset values (R17, R95, R153, R196). -/

namespace Sys2Proof.Machine

/-! ### The updates a command makes while STARTING -/

theorem State.Clean.updPort {s : State} (h : s.Clean) (f : Port → Port) : (s.updPort f).Clean :=
  h.beside rfl rfl rfl rfl rfl rfl rfl rfl

theorem State.Clean.updSlot {s : State} (h : s.Clean) (k : SlotId) (f : Slot → Slot) : (s.updSlot k f).Clean :=
  h.beside rfl rfl rfl rfl rfl rfl rfl rfl

theorem State.Clean.updOutside {s : State} (h : s.Clean) (f : Outside → Outside) : (s.updOutside f).Clean :=
  h.beside rfl rfl rfl rfl rfl rfl rfl rfl

theorem State.Clean.raise {s : State} (h : s.Clean) (n : Notice) : (s.raise n).Clean := h.updPort _

theorem State.Clean.tallied {s : State} (h : s.Clean) (x : TallyCounters) : ({ s with tally := x } : State).Clean :=
  h.beside rfl rfl rfl rfl rfl rfl rfl rfl

/-! ### Host writes -/

theorem State.Clean.handWrite {s : State} (h : s.Clean) (starting : s.port.partState = .starting) (k : SlotId)
    (v : Word) : (s.handWrite k v).Clean := by
  have ignored : s.ignoreWrite.Clean := (h.updPort _).publish s
  unfold State.handWrite
  split
  · split
    · unfold State.arrive
      simp only [starting]
      split
      · exact h.updSlot k _
      · exact ((h.updSlot k _).updPort _).publish s
    · exact ignored
  · split
    · exact ((h.updSlot k _).updPort _).publish s
    · exact ignored
  · split
    · exact h.updSlot k _
    · exact ignored
  · exact ignored

theorem State.Clean.writeRequest {s : State} (h : s.Clean) (k : SlotId) (f : Slot → Slot) : (s.writeRequest k f).Clean := by
  unfold State.writeRequest
  split
  · exact h.updSlot k f
  · exact h

theorem writeRequest_partState (s : State) (k : SlotId) (f : Slot → Slot) :
    (s.writeRequest k f).port.partState = s.port.partState := by
  unfold State.writeRequest
  split <;> rfl

theorem State.Clean.post {s : State} (h : s.Clean) (starting : s.port.partState = .starting) (k : SlotId)
    (kind target : Word) (a : Args) : (s.post k kind target a).Clean :=
  (h.writeRequest k _).handWrite ((writeRequest_partState s k _).trans starting) k _

theorem State.Clean.requestReset {s : State} (h : s.Clean) : s.requestReset.Clean := by
  unfold State.requestReset
  split
  · exact h
  · simp only
    split
    · exact clean_afterReset _
    · exact (h.updPort _).publish s

theorem State.Clean.writeWord {s : State} (h : s.Clean) (starting : s.port.partState = .starting) (a : Nat) (v : Word) :
    (s.writeWord a v).Clean := by
  unfold State.writeWord
  split
  · unfold State.writeSlot
    split
    · exact h.handWrite starting _ v
    · split
      · exact h.writeRequest _ _
      · split
        · exact h.writeRequest _ _
        · split
          · exact h.writeRequest _ _
          · exact h
  · unfold State.writeRegister State.writeResetReq
    split
    · exact h.updPort _
    · split
      · exact h.updPort _
      · split
        · exact h.updPort _
        · split
          · split
            · exact h.requestReset
            · exact h
          · exact h

/-! ### Presence, the tally link and the power-fail input -/

theorem State.Clean.takeUpPulled {s : State} (h : s.Clean) (x : Seating) : (s.takeUpPulled x).Clean := by
  cases x with
  | pulled i => unfold State.takeUpPulled; exact h.updOutside _
  | other c => exact h

theorem State.Clean.presenceActive {s : State} (h : s.Clean) (starting : s.port.partState = .starting) {b : BayId}
    {x : Seating} {t : State} (run : execPresenceActive b x s = .next t) : t.Clean := by
  obtain rfl := Host.Outcome.next.inj run
  split
  · exact h
  · split
    · exact h
    · simp only [starting, reduceCtorEq, false_and, if_false]
      exact (h.takeUpPulled x).updOutside _

theorem State.Clean.bayRemoval {s : State} (h : s.Clean) {b : BayId} {t : State}
    (run : execBayRemoval b s = .next t) : t.Clean := by
  have vacant : (s.bay b).state = .empty := by rw [h.bay]; rfl
  obtain rfl := Host.Outcome.next.inj run
  split
  · show (s.unseat b).Clean
    unfold State.unseat
    exact h.updOutside _
  · exact h

theorem State.Clean.pfw {s : State} (h : s.Clean) (starting : s.port.partState = .starting) {t : State}
    (run : execPfwActive s = .next t ∨ execPfwInactive s = .next t) : t.Clean := by
  obtain run | run := run
  · obtain rfl := Host.Outcome.next.inj run
    have off : (s.setPfw true).Clean := h.updOutside _
    split
    · exact h
    · rw [warn_eq (by rw [off.store]; rfl) (by rw [off.history]; rfl)]
      exact ((off.raise .power).warned true).endStore starting s
  · obtain rfl := Host.Outcome.next.inj run
    split
    · exact ((h.updOutside _).warned false).endStore starting s
    · exact h

/-! ### Every command -/

/-- While STARTING no command ends anything in flight, since nothing is. -/
theorem exec_clean {c : Instr} {s t : State} (h : s.Clean) (starting : s.port.partState = .starting)
    (run : exec c s = .next t) (still : t.port.partState = .starting) : t.Clean := by
  have writes (k : SlotId) (v : Word) := h.handWrite starting k v
  have posts (k : SlotId) (kind target : Word) (a : Args) := h.post starting k kind target a
  have idle (e : EngId) : (s.eng e).activity = .idle := by rw [h.eng]; rfl
  have noTimer (b : BayId) : (s.bay b).settleTimer = none ∧ (s.bay b).sense.timer = none := by
    rw [h.bay]; exact ⟨rfl, rfl⟩
  have noOp := h.op
  cases c with
  | powerOnReset => obtain rfl := Host.Outcome.next.inj run; exact clean_afterReset _
  | startupRebuildComplete =>
    obtain rfl := Host.Outcome.next.inj run
    simp only [starting] at still ⊢
    split at still
    · next pending => rw [if_pos pending]; exact clean_afterReset _
    · rw [(carries_becomeReady s).partState] at still
      exact nomatch still
  | presenceActive b x => exact h.presenceActive starting run
  | bayRemoval b => exact h.bayRemoval run
  | pfwActive => exact h.pfw starting (.inl run)
  | pfwInactive => exact h.pfw starting (.inr run)
  | settleTimerExpiry b =>
    obtain rfl := Host.Outcome.next.inj run
    split
    · next timer => exact nomatch (noTimer b).1.symm.trans timer
    · exact h
  | senseTimerExpiry b =>
    obtain rfl := Host.Outcome.next.inj run
    simp only [noTimer]
    exact h
  | authComputationComplete =>
    obtain rfl := Host.Outcome.next.inj run
    simp only [h.auth]
    exact h
  | tallyFrame frame =>
    obtain rfl := Host.Outcome.next.inj run
    have stray : s.takeLinkFrame frame = s.countStray := if_pos starting
    rw [stray]
    exact State.Clean.endEvent (s := s.countStray) (h.tallied _) starting s
  | tallyLinkPauseTimeout | tallyFrameBroken =>
    obtain rfl := Host.Outcome.next.inj run
    exact State.Clean.publish (s := s.countTallyError) (h.tallied _) s
  | arrivalWhileStarting k | arrivalWhileResetPending k | withdrawal k | release k | ignoredHandWrite k v =>
    obtain rfl := Host.Outcome.next.inj run
    exact writes k _
  | hostWrite a v =>
    obtain rfl := Host.Outcome.next.inj run
    exact h.writeWord starting _ v
  | tallyPost k _ _ | purgePost k _ _ | postedReject k _ _ _ | badKind k _ _ _ | setProfile k _ _ | checkStore k _ _
  | readTagBlock k _ _ | historyQuery k _ _ | forgetSerial k _ _ | clearHeld k _ _ | switchFeed k _ _ | enforce k _ _
  | clearCounts k _ _ | selfTestCode2 k _ | selfTestCode3 k _ | selfTestCode5 k _ | selfTestCode6 k _
  | selfTestCode9 k _ | selfTestBadCode k _ _ =>
    obtain rfl := Host.Outcome.next.inj run
    exact posts k _ _ _
  | noticeClear v | noticeEnable v | noticeRoute v =>
    obtain rfl := Host.Outcome.next.inj run
    exact h.updPort _
  | resetReq v =>
    obtain rfl := Host.Outcome.next.inj run
    split
    · exact h.requestReset
    · exact h
  | softReset =>
    obtain rfl := Host.Outcome.next.inj run
    split
    · exact clean_afterReset s
    · exact h
  | tagAnswerFrame e _ _ | answerWindowTimeout e _ | retryGapExpiry e =>
    obtain rfl := Host.Outcome.next.inj run
    simp only [idle]
    exact h
  | settleIntervalExpiry c =>
    obtain rfl := Host.Outcome.next.inj run
    have never : (s.chan c).settleEnd = none := by rw [h.chan]; rfl
    simp only [never]
    exact h
  | recordProgram _ | headerProgram _ | sectorErase _ | profileRewrite _ | checkStoreRead | profileSectorRead =>
    obtain rfl := Host.Outcome.next.inj run
    simp only [noOp]
    exact h
  | tagWorkComplete b =>
    obtain rfl := Host.Outcome.next.inj run
    exact h.updOutside _

/-- Settles O18: a READY part is STARTING again only by a reset, and while STARTING no command finds work to end. -/
theorem startingKeepsResetValues : Obligations.StartingKeepsResetValues := by
  intro c s t clean run
  refine (startsClean_iff t).mpr fun still => ?_
  obtain (carried | ⟨u, rfl⟩) | ⟨starting, rfl⟩ := exec_continues run
  · have starting : s.port.partState = .starting := carried.partState.symm.trans still
    exact exec_clean ((startsClean_iff s).mp clean starting) starting run still
  · exact clean_afterReset u
  · rw [(carries_becomeReady s).partState] at still
    exact nomatch still

end Sys2Proof.Machine
end

section
/-! SUPPORT. The taking of a ticket left in a free slot (R182, R184), and the enforcement latch (R36). -/

namespace Sys2Proof.Machine

/-! ### A slot changed twice -/

theorem updSlot_updSlot (s : State) (k : SlotId) (f g : Slot → Slot) :
    (s.updSlot k f).updSlot k g = s.updSlot k (g ∘ f) := by
  simp only [State.updSlot, State.updPort, updAt_updAt]

theorem updSlot_congr {s : State} {k : SlotId} {f g : Slot → Slot} (h : f (s.slot k) = g (s.slot k)) :
    s.updSlot k f = s.updSlot k g := by
  have same : f s.port.slots[k] = g s.port.slots[k] := h
  simp only [State.updSlot, State.updPort, updAt, same]

/-! ### The taking -/

/-- A ticket left in a free slot of a READY part is taken: its owner finds the request and the port's copy in the slot,
and the event ends as the kind has it (R182, R184). -/
theorem post_of_takes {s : State} {k : SlotId} (h : s.Takes k) (kind target : Word) (a : Args) :
    s.post k kind target a
      = ((s.leftTaken k kind target a none none).applyTicket k kind target a).endTaking
          (s.updSlot k fun x => { x with kind := kind, target := target, args := a }) kind := by
  obtain ⟨ready, pending, free⟩ := h
  have writes (f : Slot → Slot) : s.writeRequest k f = s.updSlot k f := if_pos (by rw [Slot.writable, free])
  rw [State.post, writes, State.handWrite, State.slot_updSlot_self]
  simp only [free, if_true]
  unfold State.arrive
  rw [State.slot_updSlot_self]
  have port (f : Slot → Slot) : (s.updSlot k f).port.resetPending = false ∧ (s.updSlot k f).port.partState = .ready :=
    ⟨pending, ready⟩
  simp only [port, Bool.false_eq_true, if_false]
  unfold State.setHand State.takeTicket State.markTaken
  simp only [updSlot_updSlot, State.slot_updSlot_self]
  refine congrArg (fun u : State => State.endTaking (u.applyTicket k kind target a) _ kind) (updSlot_congr ?_)
  rfl

/-! ### The latch in the header (R36) -/

theorem flagByte_second (x y z : Bool) : (flagByte [x, y, z]).getLsbD 1 = y := by
  cases x <;> cases y <;> cases z <;> rfl

/-- The header starts with the part state and the flags (Table 12-2). -/
theorem headerContent_flags (s : State) : ∃ l, s.headerContent
    = s.port.partState.code :: flagByte [s.port.resetPending, s.latch, s.store.powerWarning] :: l := by
  unfold State.headerContent
  simp only [List.append_assoc, List.cons_append]
  exact ⟨_, rfl⟩

theorem byteAt_record_second (g : Word) (x y : Byte) (l : List Byte) : byteAt (recordBytes g (x :: y :: l)) 3 = y := rfl

theorem headerWord_latch (s : State) : (s.hostRead 2).getLsbD 1 = s.latch := by
  obtain ⟨l, content⟩ := headerContent_flags s
  have word : s.hostRead 2 = wordAt (recordBytes s.gens.header s.headerContent) 2 := if_pos (by decide)
  have half : (wordAt (recordBytes s.gens.header s.headerContent) 2).getLsbD 1
      = ((wordAt (recordBytes s.gens.header s.headerContent) 2).extractLsb' 0 8).getLsbD 1 := by
    simp
  rw [word, half, (wordAt_halves _ 2).2, content, byteAt_record_second, flagByte_second]

/-! ### The latch (R36) -/

/-- ENFORCE taken leaves the latch on, found so or turned on. -/
theorem takeEnforce_latch (s : State) (k : SlotId) : (s.takeEnforce k).latch = true := by
  unfold State.takeEnforce
  split
  · next on => exact (State.writeAnswer_latch s k _).trans on
  · exact (State.writeAnswer_latch _ k _).trans (enforce_latch s)

/-- ENFORCE at its taking, with the end of its event (R37, R182). -/
theorem exec_enforce {s : State} {k : SlotId} (h : s.Takes k) (target : Word) (a : Args) :
    exec (.enforce k target a) s
      = .next (((s.leftTaken k 0x17#16 target a none none).takeEnforce k).endEvent
          (s.updSlot k fun x => { x with kind := 0x17#16, target := target, args := a })) :=
  congrArg Host.Outcome.next (post_of_takes h 0x17#16 target a)

theorem latch_becomeReady {s : State} (on : s.latch = true) : s.becomeReady.latch = true := by
  obtain ⟨_, latch, _⟩ := rebuild_keeps s
  exact (carries_becomeReady s).latch (latch.trans on)

/-- Settles O20: a reset gives the latch its reset value, ENFORCE turns it on, and every command but a reset carries it
on. -/
theorem latchStaysOnUntilReset : Obligations.LatchStaysOnUntilReset := by
  refine ⟨fun s => (clean_afterReset s).latch, fun k target a s takes => ⟨_, exec_enforce takes target a, ?_⟩,
    fun c s t on run => ?_, headerWord_latch⟩
  · exact (kept_endEvent _ _).latch.trans (takeEnforce_latch _ k)
  · obtain (carried | reset) | ⟨_, rfl⟩ := exec_continues run
    · exact .inl (carried.latch on)
    · exact .inr reset
    · exact .inl (latch_becomeReady on)

end Sys2Proof.Machine
end

section
/-! SUPPORT. What the end of an event leaves exactly as it was: the store controller touches its own figures, the history
table and slots; each engine's arbiter its own engine, its own bays and the tags (R145). -/

namespace Sys2Proof.Machine

/-! ### The store controller -/

section
variable {α : Type} (p : State → α)

theorem orElseStart_keeps (s : State) (f : State → State) (h : ∀ x, p (f x) = p x) : p (s.orElseStart f) = p s := by
  unfold State.orElseStart
  split
  · rfl
  · exact h s

theorem makeDue_keeps (hh : ∀ (s : State) (f : History → History), p (s.updHist f) = p s) (s : State) (serial : Serial) :
    p (s.makeDue serial) = p s := by
  unfold State.makeDue
  split
  · rfl
  · split
    · rfl
    · split
      · rfl
      · rw [hh]; exact hh s _

theorem makeAllDue_keeps (hh : ∀ (s : State) (f : History → History), p (s.updHist f) = p s) (s : State)
    (l : List Serial) : p (s.makeAllDue l) = p s := by
  unfold State.makeAllDue
  induction l generalizing s with
  | nil => rfl
  | cons x l ih => exact (ih _).trans (makeDue_keeps p hh s x)

section
variable (ho : ∀ (s : State) (f : Store → Store), (∀ x, (f x).mode = x.mode) → p (s.updStore f) = p s)
include ho

theorem startAppend_keeps (s : State) : p s.startAppend = p s := by
  unfold State.startAppend
  split
  · rfl
  · split
    · rfl
    · split
      · exact ho s _ fun _ => rfl
      · split
        · exact ho s _ fun _ => rfl
        · rfl

theorem startVictimErase_keeps (s : State) : p s.startVictimErase = p s := by
  unfold State.startVictimErase
  split
  · split
    · exact ho s _ fun _ => rfl
    · rfl
  · rfl

theorem startDirtyErase_keeps (s : State) : p s.startDirtyErase = p s := by
  unfold State.startDirtyErase
  split
  · rfl
  · split
    · exact ho s _ fun _ => rfl
    · rfl

variable (hk : ∀ (s : State) (k : SlotId) (f : Slot → Slot), p (s.updSlot k f) = p s)
  (hr : ∀ (s : State) (n : Notice), n = .store ∨ n = .answer → p (s.raise n) = p s)
include hk hr

theorem serveTickets_keeps (l : List StoreTicket) (s : State) : p (State.serveTickets l s) = p s := by
  induction l generalizing s with
  | nil => exact ho s _ fun _ => rfl
  | cons x l ih =>
    cases x with
    | setProfile k c prof =>
      unfold State.serveTickets
      split
      · refine (ih _).trans ?_
        unfold State.writeAnswer
        split
        · exact (hr _ _ (.inr rfl)).trans (hk s k _)
        · rfl
      · exact ho s _ fun _ => rfl
    | checkStore k first last => unfold State.serveTickets; exact ho s _ fun _ => rfl
    | selfTest k => unfold State.serveTickets; exact ho s _ fun _ => rfl

/-- What no slot, notice of its own or figure but its mode changes, the start of a flash operation leaves alone. -/
theorem startStore_keeps (s : State) : p s.startStore = p s := by
  unfold State.startStore
  split
  · rfl
  · split
    · exact (orElseStart_keeps p _ _ fun x => serveTickets_keeps p ho hk hr _ x).trans (startAppend_keeps p ho s)
    · unfold State.startNormal
      rw [orElseStart_keeps p _ _ (startDirtyErase_keeps p ho), orElseStart_keeps p _ _ (startAppend_keeps p ho),
        orElseStart_keeps p _ _ (startVictimErase_keeps p ho), serveTickets_keeps p ho hk hr]

end

section
variable (hs : ∀ (s : State) (f : Store → Store), p (s.updStore f) = p s)
  (hh : ∀ (s : State) (f : History → History), p (s.updHist f) = p s)
include hs hh

theorem reclaimCheck_keeps (s : State) : p s.reclaimCheck = p s := by
  unfold State.reclaimCheck
  split
  · rfl
  · split
    · rfl
    · exact (makeAllDue_keeps p hh _ _).trans (hs s _)

variable (hr : ∀ (s : State) (n : Notice), n = .store ∨ n = .answer → p (s.raise n) = p s)
include hr

theorem degrade_keeps (s : State) : p s.degrade = p s := by
  unfold State.degrade
  split
  · rfl
  · exact (hr _ _ (.inl rfl)).trans ((hh _ _).trans (hs s _))

theorem watchJournal_keeps (s : State) : p s.watchJournal = p s := by
  have waiting : p s.startWaiting = p s := by
    unfold State.startWaiting
    split
    · exact (reclaimCheck_keeps p hs hh _).trans ((hr _ _ (.inl rfl)).trans (hs s _))
    · rfl
  unfold State.watchJournal State.stalledTest
  split
  · exact (degrade_keeps p hs hh hr _).trans waiting
  · exact waiting

/-- What no change of the store, the history table, a slot or a notice of its own changes, the store controller leaves
alone. -/
theorem advanceStore_keeps (hk : ∀ (s : State) (k : SlotId) (f : Slot → Slot), p (s.updSlot k f) = p s)
    (s before : State) : p (s.advanceStore before) = p s := by
  have noted : p (s.noteChange before) = p s := by
    obtain h | h := noteChange_cases s before <;> rw [h]
    exact hs s _
  have started (u : State) : p u.startStore = p u := startStore_keeps p (fun s f _ => hs s f) hk hr u
  exact (started _).trans ((hh _ _).trans ((watchJournal_keeps p hs hh hr _).trans noted))

end

end

@[simp] theorem bay_advanceStore (s before : State) (b : BayId) : (s.advanceStore before).bay b = s.bay b :=
  advanceStore_keeps (·.bay b) (fun _ _ => rfl) (fun _ _ => rfl) (fun _ _ _ => rfl) (fun _ _ _ => rfl) s before
@[simp] theorem eng_advanceStore (s before : State) (e : EngId) : (s.advanceStore before).eng e = s.eng e :=
  advanceStore_keeps (·.eng e) (fun _ _ => rfl) (fun _ _ => rfl) (fun _ _ _ => rfl) (fun _ _ _ => rfl) s before
@[simp] theorem gens_advanceStore (s before : State) : (s.advanceStore before).gens = s.gens :=
  advanceStore_keeps (·.gens) (fun _ _ => rfl) (fun _ _ => rfl) (fun _ _ _ => rfl) (fun _ _ _ => rfl) s before

@[simp] theorem bay_publishSince (s before : State) (b : BayId) : (s.publishSince before).bay b = s.bay b := by
  simp only [State.bay, State.publishSince_bays]
@[simp] theorem eng_publishSince (s before : State) (e : EngId) : (s.publishSince before).eng e = s.eng e := by
  simp only [State.eng, State.publishSince_engines]

/-! ### The arbiter -/

/-- The bays of an engine's search are its own (R146). -/
theorem engOf_of_searched {e : EngId} {p : Fin 6} {b : BayId} (h : b ∈ searchOrder e p) : engOf b = e := by
  obtain ⟨k, _, rfl⟩ := List.mem_map.mp h
  apply Fin.ext
  show (6 * e.val + (p.val + k) % 6) / 6 = e.val
  omega

/-- Six places one after another, from any place on, are all six. -/
theorem searchPlaces_all : ∀ p q : Fin 6,
    q ∈ [1, 2, 3, 4, 5, 6].map fun k => (⟨(p.val + k) % 6, Nat.mod_lt _ (by decide)⟩ : Fin 6) := by
  decide

/-- An engine's search passes each of its bays (R146). -/
theorem searched_of_engOf {e : EngId} (p : Fin 6) {b : BayId} (h : engOf b = e) : b ∈ searchOrder e p := by
  have engine : b.val / 6 = e.val := congrArg Fin.val h
  have place : bayAt e (placeOf b) = b := Fin.ext (by show 6 * e.val + b.val % 6 = b.val; omega)
  obtain ⟨k, hk, same⟩ := List.mem_map.mp (searchPlaces_all p (placeOf b))
  exact List.mem_map.mpr ⟨k, hk, (congrArg (bayAt e) same).trans place⟩

/-- The bay whose context a grant may change. -/
def Work.marks : Work → Option BayId
  | .account b | .sense b => some b
  | .insertion _ _ | .head _ => none

/-- A grant that may change a bay context is of the engine's own bay, and of one with an account or sense want. -/
theorem chooseWork_marks {s : State} {e : EngId} {w : Work} {b : BayId} (h : s.chooseWork e = some w)
    (m : w.marks = some b) :
    engOf b = e ∧ ((s.bay b).wants.account = true ∨ (s.bay b).wants.sense = true) := by
  have head (l : List QueueEntry) : l.head?.map Work.head = some w → False := by
    intro eq
    obtain ⟨q, _, rfl⟩ := Option.map_eq_some_iff.mp eq
    exact nomatch m
  have insertion (l : List BayId) : s.insertionWork l = some w → False := by
    induction l with
    | nil => exact nofun
    | cons x l ih =>
      unfold State.insertionWork
      split
      · rintro ⟨⟩; exact nomatch m
      · exact ih
  have own (q : BayId → Bool) (f : BayId → Work) (hf : ∀ x, (f x).marks = some x) :
      ((searchOrder e (s.eng e).pointer).find? q).map f = some w → engOf b = e ∧ q b = true := by
    intro eq
    obtain ⟨x, found, rfl⟩ := Option.map_eq_some_iff.mp eq
    obtain rfl : x = b := Option.some.inj ((hf x).symm.trans m)
    exact ⟨engOf_of_searched (List.mem_of_find?_eq_some found), List.find?_some found⟩
  simp only [State.chooseWork, Option.or_eq_some_iff] at h
  obtain h | ⟨_, h | ⟨_, h | ⟨_, h | ⟨_, h⟩⟩⟩⟩ := h
  · split at h
    · exact (head _ h).elim
    · exact nomatch h
  · exact (insertion _ h).elim
  · exact (own _ _ (fun _ => rfl) h).imp id .inl
  · exact (head _ h).elim
  · exact (own _ _ (fun _ => rfl) h).imp id .inr

/-- A sense want finds its engine work. -/
theorem chooseWork_of_sense {s : State} {b : BayId} (h : (s.bay b).wants.sense = true) :
    s.chooseWork (engOf b) ≠ none := by
  have found : s.senseWork (searchOrder (engOf b) (s.eng (engOf b)).pointer) ≠ none := by
    simp only [State.senseWork, ne_eq, Option.map_eq_none_iff, List.find?_eq_none, not_forall]
    exact ⟨b, searched_of_engOf _ rfl, fun n => n h⟩
  simp only [State.chooseWork, ne_eq, Option.or_eq_none_iff, found, and_false, not_false_eq_true]

theorem eng_startTransaction_activity (s : State) (first : Nat) (e : EngId) (x : BayId) (o : Origin) (c : TagCommand) :
    ((s.startTransaction first e x o c).eng e).activity
      = .attempt { bay := x, origin := o, command := c, attempts := 1, failureRun := 0, firstAttempt := first } := by
  show ((s.updEng e _).eng e).activity = _
  rw [State.eng_updEng_self]

theorem eng_startTransaction_other (s : State) (first : Nat) (e : EngId) (x : BayId) (o : Origin) (c : TagCommand)
    {e' : EngId} (h : e' ≠ e) : (s.startTransaction first e x o c).eng e' = s.eng e' :=
  State.eng_updEng_other s e e' _ h

/-- What a grant leaves of the engines and of the bays it does not mark. -/
theorem grant_touches (s : State) (first : Nat) (e : EngId) (w : Work) :
    ((s.grant first e w).eng e).activity ≠ .idle
      ∧ (∀ e', e' ≠ e → (s.grant first e w).eng e' = s.eng e')
      ∧ (∀ b, w.marks ≠ some b → (s.grant first e w).bay b = s.bay b)
      ∧ (s.grant first e w).gens = s.gens := by
  have started (u : State) (x : BayId) (o : Origin) (c : TagCommand) :
      ((u.startTransaction first e x o c).eng e).activity ≠ .idle := by
    rw [eng_startTransaction_activity]; exact nofun
  have passed (x : BayId) (o : Bool) {e' : EngId} (h : e' ≠ e) : (s.notePass e x o).eng e' = s.eng e' :=
    State.eng_updEng_other s e e' _ h
  cases w with
  | insertion x st =>
    exact ⟨started _ _ _ _, fun e' h => (eng_startTransaction_other _ _ _ _ _ _ h).trans (passed x true h),
      fun _ _ => rfl, rfl⟩
  | head q =>
    exact ⟨started _ _ _ _, fun e' h => (eng_startTransaction_other _ _ _ _ _ _ h).trans (passed q.bay false h),
      fun _ _ => rfl, rfl⟩
  | sense x =>
    exact ⟨started _ _ _ _, fun e' h => (eng_startTransaction_other _ _ _ _ _ _ h).trans (passed x false h),
      fun b h => State.bay_updBay_other (s.notePass e x false) x b _ fun same => h (congrArg some same.symm), rfl⟩
  | account x =>
    unfold State.grant
    simp only
    split
    · exact ⟨started _ _ _ _, fun e' h => (eng_startTransaction_other _ _ _ _ _ _ h).trans (passed x true h),
        fun _ _ => rfl, rfl⟩
    · split
      · exact ⟨started _ _ _ _, fun e' h => (eng_startTransaction_other _ _ _ _ _ _ h).trans (passed x true h),
          fun _ _ => rfl, rfl⟩
      · exact ⟨started _ _ _ _, fun e' h => (eng_startTransaction_other _ _ _ _ _ _ h).trans (passed x true h),
          fun b h => State.bay_updBay_other (s.notePass e x true) x b _ fun same => h (congrArg some same.symm), rfl⟩

/-- The first grant to a bay with a sense want keeps the want or is its own. -/
theorem grant_sense {s : State} (first : Nat) (e : EngId) (w : Work) {b : BayId} (h : (s.bay b).wants.sense = true) :
    ((s.grant first e w).bay b).wants.sense = true
      ∨ ((s.grant first e w).eng e).work = some (b, .sense, .readSense) := by
  by_cases m : w.marks = some b
  case neg =>
    obtain ⟨_, _, kept, _⟩ := grant_touches s first e w
    exact .inl (by rw [kept b m]; exact h)
  cases w with
  | insertion | head => exact nomatch m
  | sense x =>
    obtain rfl := Option.some.inj m
    right
    show Option.map _ (Activity.transaction ((State.startTransaction _ first e x .sense .readSense).eng e).activity) = _
    rw [eng_startTransaction_activity]
    rfl
  | account x =>
    obtain rfl := Option.some.inj m
    left
    unfold State.grant
    simp only
    split
    · exact h
    · split
      · exact h
      · show (((s.notePass e x true).updBay x _).bay x).wants.sense = true
        rw [State.bay_updBay_self]
        exact h

theorem arbitrate_busy {s : State} {e : EngId} (h : (s.eng e).activity ≠ .idle) (first : Nat) : s.arbitrate first e = s := by
  unfold State.arbitrate
  split
  · next idle => exact absurd idle h
  all_goals rfl

theorem arbitrate_cases (s : State) (first : Nat) (e : EngId) :
    s.arbitrate first e = s ∨ (s.eng e).activity = .idle ∧ ∃ w, s.chooseWork e = some w ∧ s.arbitrate first e = s.grant first e w := by
  unfold State.arbitrate
  split
  · next idle =>
    split
    · next w chosen => exact .inr ⟨idle, w, chosen, rfl⟩
    · exact .inl rfl
  all_goals exact .inl rfl

/-- An engine's arbitration leaves the other engines, the other engines' bays and the generation words as they are. -/
theorem arbitrate_elsewhere (s : State) (first : Nat) (e : EngId) :
    (∀ e', e' ≠ e → (s.arbitrate first e).eng e' = s.eng e')
      ∧ (∀ b, engOf b ≠ e → (s.arbitrate first e).bay b = s.bay b) ∧ (s.arbitrate first e).gens = s.gens := by
  obtain h | ⟨_, w, chosen, h⟩ := arbitrate_cases s first e <;> rw [h]
  · exact ⟨fun _ _ => rfl, fun _ _ => rfl, rfl⟩
  · obtain ⟨_, engines, bays, gens⟩ := grant_touches s first e w
    exact ⟨engines, fun b other => bays b fun m => other (chooseWork_marks chosen m).1, gens⟩

/-- An engine and its bays stand as they were. -/
def StandsAt (e : EngId) (s t : State) : Prop := t.eng e = s.eng e ∧ ∀ b, engOf b = e → t.bay b = s.bay b

theorem StandsAt.trans {e : EngId} {s t u : State} (h : StandsAt e s t) (k : StandsAt e t u) : StandsAt e s u :=
  ⟨k.1.trans h.1, fun b own => (k.2 b own).trans (h.2 b own)⟩

theorem standsAt_arbitrate (s : State) (first : Nat) {e x : EngId} (h : e ≠ x) : StandsAt e s (s.arbitrate first x) := by
  obtain ⟨engines, bays, _⟩ := arbitrate_elsewhere s first x
  exact ⟨engines e h, fun b own => bays b (own ▸ h)⟩

theorem standsAt_foldl_arbitrate (first : Nat) {e : EngId} {l : List EngId} (out : ∀ x ∈ l, e ≠ x) (s : State) :
    StandsAt e s (l.foldl (State.arbitrate first) s) := by
  induction l generalizing s with
  | nil => exact ⟨rfl, fun _ _ => rfl⟩
  | cons x l ih =>
    exact (standsAt_arbitrate s first (out x (List.mem_cons_self ..))).trans
      (ih (fun y hy => out y (List.mem_cons_of_mem _ hy)) _)

/-- Where engines arbitrate in turn, an engine and its bays stand until their own turn, and from then on. -/
theorem foldl_arbitrate_at (first : Nat) {e : EngId} {l m : List EngId} (before : ∀ x ∈ l, e ≠ x)
    (after : ∀ x ∈ m, e ≠ x) (s : State) :
    ∃ u : State, StandsAt e s u ∧ StandsAt e (u.arbitrate first e) ((l ++ e :: m).foldl (State.arbitrate first) s) := by
  rw [List.foldl_append, List.foldl_cons]
  exact ⟨_, standsAt_foldl_arbitrate first before s, standsAt_foldl_arbitrate first after _⟩

theorem arbitrateAll_at (s : State) (first : Nat) (e : EngId) :
    ∃ u : State, StandsAt e s u ∧ StandsAt e (u.arbitrate first e) (s.arbitrateAll first) := by
  have turns : ∀ e : EngId, ∃ l m, [0, 1, 2, 3] = l ++ e :: m ∧ (∀ x ∈ l, e ≠ x) ∧ ∀ x ∈ m, e ≠ x
    | 0 => ⟨[], [1, 2, 3], by decide⟩
    | 1 => ⟨[0], [2, 3], by decide⟩
    | 2 => ⟨[0, 1], [3], by decide⟩
    | 3 => ⟨[0, 1, 2], [], by decide⟩
  obtain ⟨l, m, order, before, after⟩ := turns e
  unfold State.arbitrateAll
  rw [order]
  exact foldl_arbitrate_at first before after s

theorem gens_arbitrateAll (s : State) (first : Nat) : (s.arbitrateAll first).gens = s.gens := by
  have step (u : State) (e : EngId) : (u.arbitrate first e).gens = u.gens := by
    obtain ⟨_, _, gens⟩ := arbitrate_elsewhere u first e
    exact gens
  simp only [State.arbitrateAll, List.foldl_cons, List.foldl_nil, step]

/-- A sense want finds its engine idle and is granted or outlives another grant, or waits for a busy engine (R143). -/
theorem arbitrateAll_sense {s : State} (first : Nat) {b : BayId} (h : (s.bay b).wants.sense = true) :
    ((s.eng (engOf b)).activity ≠ .idle → ((s.arbitrateAll first).bay b).wants.sense = true)
      ∧ ((s.eng (engOf b)).activity = .idle → ((s.arbitrateAll first).eng (engOf b)).activity ≠ .idle
          ∧ (((s.arbitrateAll first).bay b).wants.sense = true
            ∨ ((s.arbitrateAll first).eng (engOf b)).work = some (b, .sense, .readSense))) := by
  obtain ⟨u, ⟨ueng, ubay⟩, eng, bay⟩ := arbitrateAll_at s first (engOf b)
  have wants : (u.bay b).wants.sense = true := by rw [ubay b rfl]; exact h
  rw [eng, bay b rfl, ← ueng]
  refine ⟨fun busy => by rw [arbitrate_busy busy]; exact wants, fun idle => ?_⟩
  obtain ⟨w, chosen⟩ := Option.ne_none_iff_exists'.mp (chooseWork_of_sense wants)
  have granted : u.arbitrate first (engOf b) = u.grant first (engOf b) w := by
    simp only [State.arbitrate, idle, chosen]
  rw [granted]
  exact ⟨(grant_touches u first (engOf b) w).1, grant_sense first _ w wants⟩

/-- The engines leave a bay without wants as it is. -/
theorem bay_arbitrateAll_of_noWants {s : State} (first : Nat) {b : BayId} (h : (s.bay b).wants = Wants.none) :
    (s.arbitrateAll first).bay b = s.bay b := by
  obtain ⟨u, ⟨_, ubay⟩, _, bay⟩ := arbitrateAll_at s first (engOf b)
  rw [bay b rfl, ← ubay b rfl]
  obtain same | ⟨_, w, chosen, granted⟩ := arbitrate_cases u first (engOf b)
  · rw [same]
  · rw [granted]
    obtain ⟨_, _, kept, _⟩ := grant_touches u first (engOf b) w
    refine kept b fun m => ?_
    obtain ⟨_, want⟩ := chooseWork_marks chosen m
    rw [ubay b rfl, h] at want
    exact nomatch want

theorem bay_endEvent_of_noWants {s : State} (before : State) {b : BayId} (h : (s.bay b).wants = Wants.none) :
    (s.endEvent before).bay b = s.bay b := by
  rw [State.endEvent, bay_publishSince, State.advanceWork, bay_arbitrateAll_of_noWants _ (by rw [bay_advanceStore, h]),
    bay_advanceStore]

theorem bay_endTimed_of_noWants {s : State} (before : State) {b : BayId} (h : (s.bay b).wants = Wants.none) :
    (s.endTimed before).bay b = s.bay b := by
  rw [State.endTimed, bay_publishSince, bay_arbitrateAll_of_noWants _ (by rw [bay_advanceStore, h]), bay_advanceStore]

end Sys2Proof.Machine
end

section
/-! SUPPORT. A bay record's sense want and its generation word, and a cartridge seated with the expiry of the three
timers (R18 to R20, R107, R117, R118). -/

namespace Sys2Proof.Machine

/-! ### The sense want in the bay record (R180) -/

theorem flagByte_fifth (a b c d e : Bool) : (flagByte [a, b, c, d, e]).getLsbD 4 = e := by
  cases a <;> cases b <;> cases c <;> cases d <;> cases e <;> rfl

theorem bayContent_wants (x : Bay) : byteAt (bayContent x) 5 = x.wants.byte := by
  unfold bayContent
  simp only [List.append_assoc, List.cons_append]
  rfl

/-- Two bay contexts of which one alone has a sense want have different records. -/
theorem bayContent_ne_of_sense {x y : Bay} (h : x.wants.sense ≠ y.wants.sense) : bayContent x ≠ bayContent y := by
  intro same
  have bytes : x.wants.byte = y.wants.byte := by rw [← bayContent_wants, same, bayContent_wants]
  have bits := congrArg (BitVec.getLsbD · 4) bytes
  simp only [Wants.byte, flagByte_fifth] at bits
  exact h bits

theorem gens_publishSince_bay (after before : State) (b : BayId)
    (h : bayContent (before.bay b) ≠ bayContent (after.bay b) ∨ after.sensedSince before b = true) :
    (after.publishSince before).gens.bays[b] = after.gens.bays[b] + 2#16 := by
  have changed : (decide (bayContent (before.bay b) ≠ bayContent (after.bay b)) || after.sensedSince before b
      || after.fedAnewSince before b) = true := by
    obtain h | h := h <;> simp [h]
  refine (mapAll_get after.gens.bays _ b).trans ?_
  simp only [changed, stepGeneration, if_true]

/-- A sense want that an event raises and leaves standing, or grants to an engine that was idle, steps the bay's generation
word. -/
theorem gens_publishSince_sense {after before : State} {b : BayId} (off : (before.bay b).wants.sense = false)
    (on : (after.bay b).wants.sense = true ∨ (before.eng (engOf b)).activity = .idle
      ∧ (after.eng (engOf b)).work = some (b, .sense, .readSense)) :
    (after.publishSince before).gens.bays[b] = after.gens.bays[b] + 2#16 := by
  refine gens_publishSince_bay after before b ?_
  obtain waits | ⟨idle, work⟩ := on
  · exact .inl (bayContent_ne_of_sense (by rw [off, waits]; exact nofun))
  · right
    have none' : (before.eng (engOf b)).work = none := by
      simp only [Engine.work, idle, Activity.transaction, Option.map_none]
    simp only [State.sensedSince, work, none', decide_true, ne_eq, reduceCtorEq, not_false_eq_true, Bool.and_self]

/-- An event that raises a sense want steps the bay's generation word, granted at once or not (R143, R180). -/
theorem gens_endEvent_sense {s before : State} {b : BayId} (gens : s.gens = before.gens)
    (eng : s.eng (engOf b) = before.eng (engOf b)) (off : (before.bay b).wants.sense = false)
    (on : (s.bay b).wants.sense = true) : (s.endEvent before).gens.bays[b] = before.gens.bays[b] + 2#16 := by
  have wants : ((s.advanceStore before).bay b).wants.sense = true := by rw [bay_advanceStore]; exact on
  obtain ⟨busy, idle⟩ := arbitrateAll_sense s.untimed wants
  rw [eng_advanceStore, eng] at busy idle
  have same : (s.advanceWork before).gens = before.gens := by
    rw [State.advanceWork, gens_arbitrateAll, gens_advanceStore, gens]
  have work : s.advanceWork before = (s.advanceStore before).arbitrateAll s.untimed := rfl
  rw [← work] at busy idle
  rw [State.endEvent]
  generalize s.advanceWork before = after at *
  rw [← same]
  refine gens_publishSince_sense off ?_
  by_cases h : (before.eng (engOf b)).activity = .idle
  · exact (idle h).2.imp id fun granted => ⟨h, granted⟩
  · exact .inl (busy h)

/-! ### A bay that is not sensed moves on -/

theorem updBay_raise (s : State) (n : Notice) (b : BayId) (f : Bay → Bay) :
    (s.raise n).updBay b f = (s.updBay b f).raise n := rfl

/-- A move from a state that is not sensed to another that is neither sensed nor DRAINED is the state and the BAY
notice (R35). -/
theorem moveBay_plain {s : State} {b : BayId} {st : BayState} (old : (s.bay b).state.sensed = false)
    (new : st.sensed = false) (differs : (s.bay b).state ≠ st) (wet : st ≠ .drained) :
    s.moveBay b st = (s.updBay b fun x => { x with state := st }).raise .bay := by
  unfold State.moveBay
  simp only [differs, wet, old, new, if_false, Bool.false_eq_true, false_and]

/-! ### Presence (R18, R19) -/

theorem takeUpPulled_now (s : State) (x : Seating) : (s.takeUpPulled x).outside.now = s.outside.now := by
  cases x <;> rfl

theorem bay_seated (s : State) (x : Seating) (c : Cartridge) (b y : BayId) :
    ((s.takeUpPulled x).seat b c).bay y = s.bay y := by
  cases x <;> rfl

theorem beginSettling_eq {s : State} {b : BayId} (h : (s.bay b).state = .empty) :
    s.beginSettling b
      = (s.updBay b fun y => { y with state := .settling, settleTimer := some (s.outside.now + 200000) }).raise .bay := by
  unfold State.beginSettling
  simp only
  rw [moveBay_plain (st := .settling) (by simp only [State.bay_updBay_self, h]; rfl) rfl
    (by simp only [State.bay_updBay_self, h]; exact nofun) nofun, updBay_updBay]
  rfl

theorem exec_presenceActive_seats {s : State} {b : BayId} {x : Seating} {c : Cartridge}
    (out : s.outside.presence[b] = false) (names : s.seatingOf x = some c) :
    exec (.presenceActive b x) s = .next (if s.port.partState = .ready ∧ (s.bay b).state = .empty
      then (((s.takeUpPulled x).seat b c).beginSettling b).endQuiet s else (s.takeUpPulled x).seat b c) := by
  show execPresenceActive b x s = _
  simp only [execPresenceActive, out, names, Bool.false_eq_true, if_false]

theorem exec_presenceActive_none {s : State} {b : BayId} {x : Seating}
    (h : s.outside.presence[b] = true ∨ s.seatingOf x = none) : exec (.presenceActive b x) s = .next s := by
  show execPresenceActive b x s = _
  unfold execPresenceActive
  obtain h | h := h
  · rw [if_pos h]
  · simp only [h, ite_self]

/-! ### The timers (R20, R107, R117, R118) -/

/-- An expired settle timer leaves the bay IDENTIFYING with its want (R20). -/
theorem settled_eq {s : State} {b : BayId} (h : (s.bay b).state = .settling) (expiry : Nat) :
    (((s.atTime expiry).updBay b fun x => { x with settleTimer := none }).moveBay b .identifying).wantStep b .readIdentity
      = ((s.atTime expiry).updBay b fun x =>
          { x with state := .identifying, settleTimer := none
                   wants := { x.wants with insertion := some .readIdentity } }).raise .bay := by
  have state : (((s.atTime expiry).updBay b fun x => { x with settleTimer := none }).bay b).state = .settling := by
    rw [State.bay_updBay_self]; exact h
  rw [moveBay_plain (st := .identifying) (by rw [state]; rfl) rfl (by rw [state]; exact nofun) nofun, State.wantStep, updBay_raise,
    updBay_updBay, updBay_updBay]
  rfl

theorem exec_settleTimerExpiry {s : State} {b : BayId} {expiry : Nat} (h : (s.bay b).state = .settling)
    (timer : (s.bay b).settleTimer = some expiry) :
    exec (.settleTimerExpiry b) s
      = .next ((((s.atTime expiry).updBay b fun x =>
          { x with state := .identifying, settleTimer := none
                   wants := { x.wants with insertion := some .readIdentity } }).raise .bay).endEvent s) := by
  rw [← settled_eq h]
  show execSettleTimerExpiry b s = _
  simp only [execSettleTimerExpiry, h, timer]

/-- The bay whose sense timer expires has its want (R118). -/
def State.senseDue (s : State) (b : BayId) (expiry : Nat) : State :=
  (s.atTime expiry).updBay b fun x =>
    { x with sense := { x.sense with timer := none }, wants := { x.wants with sense := true } }

theorem exec_senseTimerExpiry {s : State} {b : BayId} {expiry : Nat} (h : (s.bay b).sense.timer = some expiry) :
    exec (.senseTimerExpiry b) s = .next ((s.senseDue b expiry).endEvent s) := by
  show execSenseTimerExpiry b s = _
  simp only [execSenseTimerExpiry, h]
  rfl

/-- The sense want of an expired timer waits for a busy engine, and an idle one takes up work (R143). -/
theorem senseDue_engine (s : State) (b : BayId) (expiry : Nat) :
    ((s.eng (engOf b)).activity ≠ .idle → (((s.senseDue b expiry).endEvent s).bay b).wants.sense = true)
      ∧ ((s.eng (engOf b)).activity = .idle →
          (((s.senseDue b expiry).endEvent s).eng (engOf b)).activity ≠ .idle) := by
  have wants : (((s.senseDue b expiry).advanceStore s).bay b).wants.sense = true := by
    rw [bay_advanceStore, State.senseDue, State.bay_updBay_self]
  obtain ⟨busy, idle⟩ := arbitrateAll_sense (s.senseDue b expiry).untimed wants
  have eng : (s.senseDue b expiry).eng (engOf b) = s.eng (engOf b) := rfl
  rw [eng_advanceStore, eng] at busy idle
  have work : (s.senseDue b expiry).advanceWork s
      = ((s.senseDue b expiry).advanceStore s).arbitrateAll (s.senseDue b expiry).untimed := rfl
  rw [State.endEvent, bay_publishSince, eng_publishSince, work]
  exact ⟨busy, fun h => (idle h).1⟩

theorem exec_settleIntervalExpiry {s : State} {c : ChanId} {expiry : Nat} (h : (s.chan c).settleEnd = some expiry) :
    exec (.settleIntervalExpiry c) s
      = .next (((s.atTime expiry).updChan c fun ch => { ch with settleEnd := none }).endQuiet s) := by
  show execSettleIntervalExpiry c s = _
  simp only [execSettleIntervalExpiry, h]

/-- Settles O46: a seating and each expiry are one change of the bay or channel and the end of an event; a want
raised by the sense timer waits for a busy engine and gives an idle one work. -/
theorem presenceAndTimers : Obligations.PresenceAndTimers := by
  refine ⟨fun b x s => ⟨fun c names => ⟨fun out ready vacant => ?seats, fun out other => ?elsewhere⟩,
    exec_presenceActive_none, fun _ => rfl, fun _ => rfl, fun expiry state timer =>
      ⟨_, exec_settleTimerExpiry state timer, kept_endEvent _ _⟩⟩,
    fun b c s => ⟨fun expiry timer => ?sense, fun none' => ?still, fun expiry ends =>
      ⟨_, exec_settleIntervalExpiry ends, rfl⟩, fun none' => ?settled⟩⟩
  case seats =>
    refine ⟨_, exec_presenceActive_seats out names, ?_⟩
    rw [if_pos ⟨ready, vacant⟩, beginSettling_eq (by rw [bay_seated]; exact vacant)]
    show SameButGens _ _
    have now : ((s.takeUpPulled x).seat b c).outside.now = s.outside.now := takeUpPulled_now s x
    rw [now]
    rfl
  case elsewhere =>
    rw [exec_presenceActive_seats out names, if_neg]
    rintro ⟨ready, vacant⟩
    obtain h | h := other
    · rw [ready] at h; exact nomatch h
    · exact h vacant
  case sense =>
    obtain ⟨busy, idle⟩ := senseDue_engine s b expiry
    refine ⟨_, exec_senseTimerExpiry timer, kept_endEvent _ _, busy, idle, fun off => ?_⟩
    exact gens_endEvent_sense rfl rfl off (by rw [State.senseDue, State.bay_updBay_self])
  case still =>
    show execSenseTimerExpiry b s = _
    simp only [execSenseTimerExpiry, none']
  case settled =>
    show execSettleIntervalExpiry c s = _
    simp only [execSettleIntervalExpiry, none']

end Sys2Proof.Machine
end

section
/-! SUPPORT. The end of an attempt by a frame or by its time, and the reads of an IDENTIFYING bay (R22, R23). -/

namespace Sys2Proof.Machine

/-! ### What the end of an event leaves of a bay -/

/-- A field of a bay that neither a grant nor a sense want touches stands at the end of an event. -/
theorem KeptAtEnd.bayField {s t : State} (h : KeptAtEnd s t) {α : Type} (p : Bay → α) (b : BayId)
    (hp : ∀ x : Bay, p x.settled = p x) : p (t.bay b) = p (s.bay b) := by
  rw [← hp, h.bays, hp]

/-! ### The end of an attempt -/

/-- The state in which an attempt has ended, its engine idle. -/
def State.heard (s : State) (e : EngId) (time : Nat) : State :=
  (s.atTime time).updEng e fun x => { x with activity := .idle }

theorem exec_tagAnswerFrame {s : State} {e : EngId} {tr : Transaction} {r : Reception} {f : AnswerFrame}
    (flies : (s.eng e).activity = .attempt tr) (hears : s.received tr.bay r = some f) (time : Nat) :
    exec (.tagAnswerFrame e r time) s
      = .next (((s.atTime time).endAttempt e tr (classify tr.command f)).endTimed s) := by
  show execTagAnswerFrame e r time s = _
  simp only [execTagAnswerFrame, flies, hears]

theorem exec_answerWindowTimeout {s : State} {e : EngId} {tr : Transaction}
    (flies : (s.eng e).activity = .attempt tr) (time : Nat) :
    exec (.answerWindowTimeout e time) s = .next (((s.atTime time).endAttempt e tr .timeout).endTimed s) := by
  show execAnswerWindowTimeout e time s = _
  simp only [execAnswerWindowTimeout, flies]

/-- An ACK reaches the originator of its transaction (R138). -/
theorem exec_tagAck {s : State} {e : EngId} {tr : Transaction} {r : Reception} {f : AnswerFrame} {p : Payload}
    (flies : (s.eng e).activity = .attempt tr) (hears : s.received tr.bay r = some f)
    (ack : classify tr.command f = .ack p) (time : Nat) :
    exec (.tagAnswerFrame e r time) s = .next (((s.heard e time).deliver e tr p).endTimed s) := by
  rw [exec_tagAnswerFrame flies hears, ack]
  rfl

/-! ### A change of verdict (R29, R35) -/

/-- A verdict set is the verdict and, where it is a change, the BAY notice. -/
theorem setVerdict_cases (s : State) (b : BayId) (v : Verdict) (r : VerdictReason) :
    s.setVerdict b v r = (s.updBay b fun x => { x with verdict := v, verdictReason := r })
      ∨ s.setVerdict b v r = (s.updBay b fun x => { x with verdict := v, verdictReason := r }).raise .bay := by
  unfold State.setVerdict
  split
  · next same =>
    obtain ⟨rfl, rfl⟩ := same
    exact .inl (updBay_eq_self rfl).symm
  · exact .inr rfl

theorem bay_setVerdict_self (s : State) (b : BayId) (v : Verdict) (r : VerdictReason) :
    (s.setVerdict b v r).bay b = { s.bay b with verdict := v, verdictReason := r } := by
  obtain h | h := setVerdict_cases s b v r <;> rw [h]
  · exact State.bay_updBay_self s b _
  · exact State.bay_updBay_self s b _

theorem setVerdict_auth (s : State) (b : BayId) (v : Verdict) (r : VerdictReason) :
    (s.setVerdict b v r).auth = s.auth := by
  obtain h | h := setVerdict_cases s b v r <;> rw [h] <;> rfl

theorem setVerdict_outside (s : State) (b : BayId) (v : Verdict) (r : VerdictReason) :
    (s.setVerdict b v r).outside = s.outside := by
  obtain h | h := setVerdict_cases s b v r <;> rw [h] <;> rfl

/-! ### Block 0 (R22) -/

/-- A good block 0 is the identity, and block 1 is read next. -/
theorem gotIdentity_good {s : State} {b : BayId} {blk : Block} {id : Identity} (h : identityOf blk = some id) :
    (s.endStep b).gotIdentity b blk
      = s.updBay b fun x => { x with identity := some id, wants := { x.wants with insertion := some .readGauge } } := by
  unfold State.gotIdentity
  simp only [h, State.wantStep, State.endStep, updBay_updBay]
  rfl

/-- A bad block 0 is FOREIGN, and block 1 is read next. -/
theorem kept_gotIdentity_bad {s : State} {b : BayId} {blk : Block} (h : identityOf blk = none) :
    KeptAtEnd (s.updBay b fun x => { x with verdict := .foreign, verdictReason := .identityCrc
                                            wants := { x.wants with insertion := some .readGauge } })
      ((s.endStep b).gotIdentity b blk) := by
  unfold State.gotIdentity
  simp only [h]
  obtain same | raised := setVerdict_cases (s.endStep b) b .foreign .identityCrc
  · rw [same]
    simp only [State.wantStep, State.endStep, updBay_updBay]
    exact .refl _
  · rw [raised]
    simp only [State.wantStep, State.endStep, updBay_raise, updBay_updBay]
    exact kept_raise _ .bay

/-! ### Block 1 (R23) -/

/-- The bay's request, its serial, ink type and challenge (R24). -/
def State.requestOf (s : State) (b : BayId) (id : Identity) : AuthRequest :=
  ⟨some b, id.serial, id.inkType, Config.challengeDraw s.outside.challengeDraws⟩

theorem enterChallenging_eq {s : State} {b : BayId} (id : Identity) (h : (s.bay b).state = .identifying) :
    s.enterChallenging b id
      = { (((s.updOutside fun o => { o with challengeDraws := o.challengeDraws + 1 }).updBay b fun x =>
            { x with state := .challenging, challenge := some (Config.challengeDraw s.outside.challengeDraws)
                     wants := { x.wants with insertion := some .challenge } }).raise .bay)
          with auth := s.auth.join (s.requestOf b id) } := by
  unfold State.enterChallenging
  simp only
  rw [moveBay_plain (st := .challenging) (by rw [State.bay_updBay_self]; exact congrArg BayState.sensed h) rfl
    (by rw [State.bay_updBay_self]; exact fun n => nomatch h.symm.trans n) nofun, State.wantStep, updBay_raise,
    updBay_updBay, updBay_updBay]
  rfl

/-- The bay as it enters CHALLENGING. -/
theorem bay_enterChallenging {s : State} {b : BayId} (id : Identity) (h : (s.bay b).state = .identifying) :
    (s.enterChallenging b id).bay b
      = { s.bay b with state := .challenging, challenge := some (Config.challengeDraw s.outside.challengeDraws)
                       wants := { (s.bay b).wants with insertion := some .challenge } } := by
  rw [enterChallenging_eq id h]
  exact State.bay_updBay_self _ b _

/-- A request placed with an idle engine begins; one placed with a busy engine waits behind the others (R24). -/
theorem join_idle (a : AuthEngine) (r : AuthRequest) (idle : a.current = none) (empty : a.fifo = []) :
    a.join r = { fifo := [], current := some (r, false) } := by
  obtain ⟨fifo, current⟩ := a
  obtain rfl : current = none := idle
  obtain rfl : fifo = [] := empty
  rfl

theorem join_busy (a : AuthEngine) (r : AuthRequest) (busy : a.current ≠ none) :
    a.join r = { a with fifo := a.fifo ++ [r] } := by
  obtain ⟨c, h⟩ := Option.ne_none_iff_exists'.mp busy
  simp only [AuthEngine.join, AuthEngine.begin, h]

/-- The figures and the verdict with which a bay of known identity enters CHALLENGING (R23). -/
def State.gauged (s : State) (b : BayId) (id : Identity) (blk : Block) : State :=
  match gaugeOf id.capacityMarks blk with
  | some g => s.takeGauge b g
  | none => s.setVerdict b .foreign .gaugeCrc

theorem gotGauge_eq {s : State} {b : BayId} {id : Identity} (h : (s.bay b).identity = some id) (blk : Block) :
    s.gotGauge b blk = (s.gauged b id blk).enterChallenging b id := by
  unfold State.gotGauge State.gauged
  simp only [h]
  cases gaugeOf id.capacityMarks blk <;> rfl

theorem gauged_keeps (s : State) (b : BayId) (id : Identity) (blk : Block) :
    (s.gauged b id blk).outside = s.outside ∧ (s.gauged b id blk).auth = s.auth
      ∧ ((s.gauged b id blk).bay b).state = (s.bay b).state := by
  unfold State.gauged
  split
  · exact ⟨rfl, rfl, by rw [State.takeGauge, State.bay_updBay_self]⟩
  · exact ⟨setVerdict_outside .., setVerdict_auth .., by rw [bay_setVerdict_self]⟩

/-- What block 1 gives a bay of known identity, from the bay as it stood to the bay as it enters CHALLENGING (R23). -/
theorem bay_gauged (s : State) (b : BayId) (id : Identity) (blk : Block) :
    (∀ g, gaugeOf id.capacityMarks blk = some g →
      (s.gauged b id blk).bay b
        = { s.bay b with tagGauge := g.gauge, pending := 0, book := g.gauge, gaugeKnown := true
                         tagDepleted := g.depleted, tagRefillMark := g.refillMark })
      ∧ (gaugeOf id.capacityMarks blk = none →
        (s.gauged b id blk).bay b = { s.bay b with verdict := .foreign, verdictReason := .gaugeCrc }) := by
  unfold State.gauged
  refine ⟨fun g h => ?_, fun h => ?_⟩
  · simp only [h, State.takeGauge, State.bay_updBay_self]
  · simp only [h, bay_setVerdict_self]

/-- What block 1 leaves of a bay of known identity: challenge drawn, request placed, gauge or FOREIGN (R23). -/
theorem gotGauge_leaves {s : State} {b : BayId} {id : Identity} (known : (s.bay b).identity = some id)
    (state : (s.bay b).state = .identifying) (blk : Block) :
    (s.gotGauge b blk).bay b
        = { (s.gauged b id blk).bay b with
            state := .challenging, challenge := some (Config.challengeDraw s.outside.challengeDraws)
            wants := { ((s.gauged b id blk).bay b).wants with insertion := some .challenge } }
      ∧ (s.gotGauge b blk).auth = s.auth.join (s.requestOf b id)
      ∧ (s.gotGauge b blk).outside.challengeDraws = s.outside.challengeDraws + 1 := by
  obtain ⟨outside, auth, still⟩ := gauged_keeps s b id blk
  have request : (s.gauged b id blk).requestOf b id = s.requestOf b id := by simp only [State.requestOf, outside]
  rw [gotGauge_eq known]
  generalize s.gauged b id blk = w at *
  have start : (w.bay b).state = .identifying := still.trans state
  refine ⟨by rw [bay_enterChallenging id start, outside], ?_, ?_⟩
  · rw [enterChallenging_eq id start, ← request, ← auth]
  · rw [enterChallenging_eq id start, ← outside]; rfl

/-- An insertion read that was ACKed, its want dropped first (R22, R23). -/
theorem deliver_insertionRead {s : State} {e : EngId} {tr : Transaction} {n : Fin 4} {blk : Block}
    (own : tr.origin = .insertion) (reads : tr.command = .readBlock n) (state : (s.bay tr.bay).state = .identifying) :
    s.deliver e tr (.block blk)
      = if n = 0 then (s.endStep tr.bay).gotIdentity tr.bay blk else (s.endStep tr.bay).gotGauge tr.bay blk := by
  have still : ((s.endStep tr.bay).bay tr.bay).state = .identifying := by
    rw [State.endStep, State.bay_updBay_self]; exact state
  unfold State.deliver State.deliverStep
  simp only [own, reads, still, if_true]

/-- Settles O53: block 0 leaves the identity or FOREIGN with the want for block 1; block 1 leaves the challenge drawn,
the request placed and the gauge or FOREIGN. -/
theorem insertionReadsIdentifyTheCartridge : Obligations.InsertionReadsIdentifyTheCartridge := by
  intro e time rec f tr blk s flies own state hears ack
  have identifying : ((s.heard e time).bay tr.bay).state = .identifying := state
  refine ⟨_, exec_tagAck flies hears ack time, fun reads => ?block0, fun id reads known => ?block1⟩
  case block0 =>
    rw [deliver_insertionRead own reads identifying, if_pos rfl]
    refine ⟨fun id good => ?_, fun bad => (kept_gotIdentity_bad bad).trans (kept_endTimed _ s)⟩
    rw [gotIdentity_good good]
    exact kept_endTimed _ s
  case block1 =>
    rw [deliver_insertionRead own reads identifying, if_neg (by decide)]
    have vbay : ((s.heard e time).endStep tr.bay).bay tr.bay
        = { s.bay tr.bay with wants := { (s.bay tr.bay).wants with insertion := none } } := by
      rw [State.endStep, State.bay_updBay_self]; rfl
    have vdraws : ((s.heard e time).endStep tr.bay).outside.challengeDraws = s.outside.challengeDraws := rfl
    have vauth : ((s.heard e time).endStep tr.bay).auth = s.auth := rfl
    generalize (s.heard e time).endStep tr.bay = v at *
    obtain ⟨bay, auth, draws⟩ := gotGauge_leaves (by rw [vbay]; exact known) (by rw [vbay]; exact state) blk
    obtain ⟨good, bad⟩ := bay_gauged v tr.bay id blk
    have kept := kept_endTimed (v.gotGauge tr.bay blk) s
    generalize (v.gotGauge tr.bay blk).endTimed s = t at *
    have settled := (kept.bays tr.bay).trans (congrArg Bay.settled bay)
    rw [vdraws] at settled
    rw [State.requestOf, vdraws, vauth] at auth
    refine ⟨(congrArg Bay.state settled :), (congrArg (·.wants.insertion) settled :), (congrArg Bay.challenge settled :),
      ?_, fun req request => ⟨fun idle empty => ?_, fun busy => ?_⟩, fun g gauge => ?_, fun none' => ?_⟩
    · exact ((congrArg Outside.challengeDraws kept.outside :)).trans (draws.trans (by rw [vdraws]))
    · rw [kept.auth, auth, request]
      exact join_idle s.auth _ idle empty
    · rw [kept.auth, auth, request]
      exact join_busy s.auth _ busy
    · rw [good g gauge, vbay] at settled
      exact ⟨(congrArg Bay.gaugeKnown settled :), (congrArg Bay.tagGauge settled :), (congrArg Bay.book settled :),
        (congrArg Bay.pending settled :), (congrArg Bay.tagDepleted settled :), (congrArg Bay.tagRefillMark settled :),
        (congrArg Bay.verdict settled :)⟩
    · rw [bad none', vbay] at settled
      exact ⟨(congrArg Bay.verdict settled :), (congrArg Bay.verdictReason settled :), (congrArg Bay.gaugeKnown settled :)⟩

end Sys2Proof.Machine
end

section
/-! SUPPORT. The feed selector as a run of small changes: what each of them leaves alone, every feed operation does. -/

namespace Sys2Proof.Machine

/-! ### The changes the feed selector makes -/

/-- The notices the feed selector raises. -/
def Notice.ofFeed : Notice → Bool
  | .bay | .level | .channel => true
  | _ => false

/-- The counts of the window stand at 0. -/
def Sense.WindowEmpty (x : Sense) : Prop := x.windowCount = 0 ∧ x.posCount = 0 ∧ x.negCount = 0

/-- From `s` to `t` by changes of channels, of what a bay's feeding changes, of entries' books and of journal-due marks;
the state of a bay changes only from a decided one to another, and a window that is empty stays so. -/
inductive FeedSteps : State → State → Prop
  | refl (s : State) : FeedSteps s s
  | trans {s t u : State} : FeedSteps s t → FeedSteps t u → FeedSteps s u
  | raise (s : State) (n : Notice) (h : n.ofFeed = true) : FeedSteps s (s.raise n)
  | updChan (s : State) (c : ChanId) (f : Channel → Channel) : FeedSteps s (s.updChan c f)
  | updBay (s : State) (b : BayId) (f : Bay → Bay) (aside : ∀ x, (f x).aside = x.aside)
      (state : (f (s.bay b)).state = (s.bay b).state
        ∨ (s.bay b).state.decided = true ∧ (f (s.bay b)).state.decided = true)
      (window : ∀ x, x.sense.WindowEmpty → (f x).sense.WindowEmpty := by exact fun _ h => h) :
      FeedSteps s (s.updBay b f)
  | book (s : State) (serial : Serial) (n : Nat) : FeedSteps s (s.updEntry serial fun e => { e with book := n })
  | due (s : State) (serial : Serial) : FeedSteps s (s.makeDue serial)

/-- A decided bay is decided still. -/
theorem FeedSteps.decided {s t : State} (h : FeedSteps s t) {b : BayId} (d : (s.bay b).state.decided = true) :
    (t.bay b).state.decided = true := by
  induction h with
  | refl => exact d
  | trans _ _ ih₁ ih₂ => exact ih₂ (ih₁ d)
  | raise | updChan | book => exact d
  | due u serial => simp only [State.bay, makeDue_bays]; exact d
  | updBay u x f aside state window =>
    rw [bay_updBay]
    split
    · next here =>
      subst here
      obtain h | ⟨_, h⟩ := state
      · rw [h]; exact d
      · exact h
    · exact d

/-- A bay that is not decided on keeps its state. -/
theorem FeedSteps.undecided {s t : State} (h : FeedSteps s t) {b : BayId} (d : (s.bay b).state.decided = false) :
    (t.bay b).state = (s.bay b).state := by
  induction h with
  | refl => rfl
  | trans _ _ ih₁ ih₂ =>
    have same := ih₁ d
    exact (ih₂ (by rw [same]; exact d)).trans same
  | raise | updChan | book => rfl
  | due u serial => simp only [State.bay, makeDue_bays]
  | updBay u x f aside state window =>
    rw [bay_updBay]
    split
    · next here =>
      subst here
      obtain h | ⟨h, _⟩ := state
      · exact h
      · rw [h] at d; exact nomatch d
    · rfl

/-- A window that is empty stays empty. -/
theorem FeedSteps.window {s t : State} (h : FeedSteps s t) {b : BayId} (empty : (s.bay b).sense.WindowEmpty) :
    (t.bay b).sense.WindowEmpty := by
  induction h with
  | refl => exact empty
  | trans _ _ ih₁ ih₂ => exact ih₂ (ih₁ empty)
  | raise | updChan | book => exact empty
  | due u serial => simp only [State.bay, makeDue_bays]; exact empty
  | updBay u x f aside state window =>
    rw [bay_updBay]
    split
    · next here => subst here; exact window _ empty
    · exact empty

theorem steps_emptyWindow (s : State) (b : BayId) : FeedSteps s (s.emptyWindow b) :=
  .updBay s b _ (fun _ => rfl) (.inl rfl) fun _ _ => ⟨rfl, rfl, rfl⟩

theorem steps_moveBay {s : State} {b : BayId} {st : BayState} (from' : (s.bay b).state.decided = true)
    (decided : st.decided = true) :
    FeedSteps s (s.moveBay b st) := by
  have stated : FeedSteps s (s.updBay b fun x => { x with state := st }) :=
    .updBay s b _ (fun _ => rfl) (.inr ⟨from', decided⟩)
  have timer (u : State) : FeedSteps u (u.startSenseTimer b) := .updBay u b _ (fun _ => rfl) (.inl rfl)
  have timed (u : State) : FeedSteps u ((u.startSenseTimer b).emptyWindow b) := (timer u).trans (steps_emptyWindow _ b)
  have stopped (u : State) : FeedSteps u (u.updBay b fun x =>
      { x with sense := { x.sense with timer := none }, wants := { x.wants with sense := false } }) :=
    .updBay u b _ (fun _ => rfl) (.inl rfl)
  have level (u : State) : FeedSteps u (if st = .drained then u.raise .level else u) := by
    split
    · exact .raise u .level rfl
    · exact .refl u
  unfold State.moveBay
  simp only
  split
  · exact .refl s
  · have moved := (stated.trans (.raise _ .bay rfl)).trans (level _)
    split
    · exact moved.trans (timed _)
    · split
      · exact moved.trans (stopped _)
      · exact moved

theorem steps_raiseBurnWant (s : State) (b : BayId) : FeedSteps s (s.raiseBurnWant b) := by
  rw [raiseBurnWant_eq]
  exact .updBay s b _ (fun _ => rfl) (.inl rfl)

theorem steps_followBook (s : State) (b : BayId) (before : Nat) : FeedSteps s (s.followBook b before) := by
  unfold State.followBook
  split
  · exact .refl s
  · simp only
    split
    · exact .trans (.book s _ _) (.due _ _)
    · exact .book s _ _

theorem steps_levelCrossing (s : State) (b : BayId) (before : Nat) : FeedSteps s (s.levelCrossing b before) := by
  unfold State.levelCrossing
  split
  · exact .refl s
  · split
    · exact .raise s .level rfl
    · exact .refl s

theorem steps_convert (s : State) (c : ChanId) (b : BayId) : FeedSteps s (s.convert c b) := by
  have charged : FeedSteps s (s.chargeMarks c b) :=
    .trans (.updChan s c _) (.updBay _ b _ (fun _ => rfl) (.inl rfl))
  rw [convert_eq]
  split
  · exact charged
  · exact ((charged.trans (steps_followBook _ b _)).trans (steps_raiseBurnWant _ b)).trans (steps_levelCrossing _ b _)

theorem steps_turnTo {s : State} {b : BayId} (decided : (s.bay b).state.decided = true) (c : ChanId)
    (cause : FeedCause) : FeedSteps s (s.turnTo c b cause) := by
  have turned (u : State) (h : FeedSteps s u) (f : Channel → Channel) :
      FeedSteps s ((u.moveBay b .feeding).updChan c f) :=
    (h.trans (steps_moveBay (h.decided decided) rfl)).trans (.updChan _ c f)
  unfold State.turnTo
  simp only
  refine turned _ ?_ _
  split
  · split
    · next left =>
      obtain ⟨_, feeds⟩ := left
      exact steps_moveBay (by rw [feeds]; rfl) rfl
    · exact .refl s
  · exact .refl s

theorem steps_takeUp (s : State) (c : ChanId) (old : Option BayId) (b : BayId) : FeedSteps s (s.takeUp c old b) := by
  have window (u : State) : FeedSteps u (match old with
      | some o => u.emptyWindow o
      | none => u) := by
    split
    · exact steps_emptyWindow u _
    · exact .refl u
  unfold State.takeUp
  exact ((((steps_convert s c b).trans (window _)).trans (steps_emptyWindow _ b)).trans (.updChan _ c _)).trans
    (.raise _ .channel rfl)

theorem steps_drain {s : State} {b : BayId} (decided : (s.bay b).state.decided = true) : FeedSteps s (s.drain b) := by
  have barred : FeedSteps s (s.updBay b fun x => { x with barReason := s.barReasonOf b }) :=
    .updBay s b _ (fun _ => rfl) (.inl rfl)
  exact barred.trans (steps_moveBay (barred.decided decided) rfl)

theorem steps_afterMarks {s : State} {b : BayId} (decided : (s.bay b).state.decided = true) (c : ChanId) :
    FeedSteps s (s.afterMarks c b).1 := by
  unfold State.afterMarks
  split
  · simp only
    split <;> exact steps_drain decided
  · split <;> exact .refl s

theorem steps_closeChannel (s : State) (c : ChanId) (cause : FeedCause) : FeedSteps s (s.closeChannel c cause) :=
  .trans (.updChan s c _) (.raise _ .channel rfl)

theorem decided_of_eligible {s : State} {b : BayId} (h : s.eligible b = true) : (s.bay b).state.decided = true :=
  ((eligible_iff s b).mp h).1

/-- A bay that has taken up the feed, with what its marks lead to. -/
theorem steps_beginFeeding (n : Nat) {s : State} {b : BayId} (decided : (s.bay b).state.decided = true)
    (cause : FeedCause) : FeedSteps s (s.beginFeeding n (chanOf b) b cause) := by
  have fedTo {s : State} {b : BayId} (decided : (s.bay b).state.decided = true) (cause : FeedCause) :
      FeedSteps s (s.fedTo b cause) := (steps_turnTo decided _ cause).trans (steps_takeUp _ _ _ b)
  induction n generalizing s b cause with
  | zero => rw [beginFeeding_eq]; split <;> exact fedTo decided cause
  | succ n ih =>
    have fed := fedTo decided cause
    have marks := steps_afterMarks (fed.decided decided) (chanOf b)
    rw [beginFeeding_eq]
    split
    · exact fed
    · simp only
      have next {u : State} (h : FeedSteps (s.fedTo b cause) u) (fit : (s.fedTo b cause).eligible (twinOf b) = true)
          (cause' : FeedCause) : FeedSteps s (u.beginFeeding n (chanOf b) (twinOf b) cause') := by
        have back := ih (h.decided (decided_of_eligible fit)) cause'
        rw [chanOf_twinOf] at back
        exact (fed.trans h).trans back
      obtain ⟨_, fit, after⟩ | ⟨_, _, after⟩ | ⟨_, met, after⟩ | ⟨_, after⟩ := afterMarks_cases (s.fedTo b cause) b
      all_goals rw [after] at marks ⊢
      · exact next marks fit _
      · exact (fed.trans marks).trans (steps_closeChannel _ _ _)
      · exact next marks (thresholdMet_twin met (feedingBay_fedTo s b cause)) _
      · exact fed

theorem steps_feedFrom {s : State} {b : BayId} (decided : (s.bay b).state.decided = true) {c : ChanId}
    (own : chanOf b = c) (cause : FeedCause) : FeedSteps s (s.feedFrom c b cause) := by
  subst own
  exact steps_beginFeeding feedBound decided cause

theorem steps_feedLost (s : State) (b : BayId) (cause : FeedCause) : FeedSteps s (s.feedLost b cause) := by
  unfold State.feedLost
  split
  · next fit => exact steps_feedFrom (decided_of_eligible fit) (chanOf_twinOf b) cause
  · exact steps_closeChannel s _ cause

theorem steps_thresholdTest (s : State) (c : ChanId) : FeedSteps s (s.thresholdTest c) := by
  unfold State.thresholdTest
  split
  · next met =>
    split
    · next b hb =>
      exact steps_feedFrom (decided_of_eligible (thresholdMet_twin met hb))
        ((chanOf_twinOf b).trans (chanOf_feedingBay s c b hb)) _
    · exact .refl s
  · exact .refl s

/-- The bay a CLOSED channel opens with is eligible (R97). -/
theorem eligible_openingChoice {s : State} {c : ChanId} {x : BayId} (h : s.openingChoice c = some x) :
    s.eligible x = true := by
  unfold State.openingChoice at h
  simp only at h
  split at h
  · exact nomatch h
  · next yA _ => obtain rfl := Option.some.inj h; exact yA
  · next _ yB => obtain rfl := Option.some.inj h; exact yB
  · next yA yB =>
    have one : x = bayA c ∨ x = bayB c := by
      split at h
      · exact .inl (Option.some.inj h).symm
      · split at h
        · exact .inr (Option.some.inj h).symm
        · split at h
          · exact .inl (Option.some.inj h).symm
          · exact .inr (Option.some.inj h).symm
    obtain rfl | rfl := one
    · exact yA
    · exact yB

theorem steps_becameEligible (s : State) (b : BayId) : FeedSteps s (s.becameEligible b) := by
  unfold State.becameEligible
  simp only
  split
  · exact steps_thresholdTest s _
  · split
    · next x hx => exact steps_feedFrom (decided_of_eligible (eligible_openingChoice hx)) (chanOf_openingChoice s _ x hx) _
    · exact .refl s

theorem ineligibleState_decided (x : Bay) : x.ineligibleState.decided = true := by
  unfold Bay.ineligibleState
  split <;> rfl

theorem steps_reevaluate (s : State) (b : BayId) : FeedSteps s (s.reevaluate b) := by
  have bar : FeedSteps s (s.updBay b fun x => { x with barReason := s.barReasonOf b }) :=
    .updBay s b _ (fun _ => rfl) (.inl rfl)
  unfold State.reevaluate
  simp only
  split
  · next decided =>
    have moved {st : BayState} (d : st.decided = true) := bar.trans (steps_moveBay (bar.decided decided) d)
    split
    · exact bar
    · split
      · split
        · exact (moved rfl).trans (steps_becameEligible _ b)
        · exact bar
      · split
        · exact (moved (ineligibleState_decided _)).trans (steps_feedLost _ b _)
        · exact moved (ineligibleState_decided _)
  · exact .refl s

/-! ### What they leave -/

theorem notified_raise (s : State) (n m : Notice) : (s.raise n).notified m = (s.notified m || decide (m = n)) := by
  have bits : n.mask.getLsbD m.bit = decide (m = n) := by cases n <;> cases m <;> decide
  show (s.port.notices ||| n.mask).getLsbD m.bit = _
  rw [BitVec.getLsbD_or, bits]
  rfl

theorem makeDue_port (s : State) (serial : Serial) : (s.makeDue serial).port = s.port :=
  makeDue_keeps (·.port) (fun _ _ => rfl) s serial

/-- Only the feed's notices are raised. -/
theorem FeedSteps.notified {s t : State} (h : FeedSteps s t) (n : Notice) :
    (s.notified n = true → t.notified n = true) ∧ (n.ofFeed = false → t.notified n = s.notified n) := by
  induction h with
  | refl => exact ⟨id, fun _ => rfl⟩
  | trans _ _ ih₁ ih₂ => exact ⟨fun k => ih₂.1 (ih₁.1 k), fun k => (ih₂.2 k).trans (ih₁.2 k)⟩
  | updChan | book | updBay => exact ⟨id, fun _ => rfl⟩
  | due u serial =>
    have same : (u.makeDue serial).notified n = u.notified n := by simp only [State.notified, makeDue_port]
    exact ⟨same.trans, fun _ => same⟩
  | raise u m feed =>
    rw [notified_raise]
    refine ⟨fun k => by rw [k]; rfl, fun k => ?_⟩
    have differs : n ≠ m := fun same => by rw [same, feed] at k; exact nomatch k
    rw [decide_eq_false differs, Bool.or_false]

theorem FeedSteps.aside {s t : State} (h : FeedSteps s t) : KeepsAside s t := by
  induction h with
  | refl s => exact .refl s
  | trans _ _ ih₁ ih₂ => exact ih₁.trans ih₂
  | raise | updChan | book => exact fun _ => rfl
  | due u serial => exact aside_of_bays (makeDue_bays u serial)
  | updBay u b f aside _ _ => exact aside_updBay u b f aside

/-- The store is left alone, so its mode stands. -/
theorem FeedSteps.store {s t : State} (h : FeedSteps s t) : t.store = s.store := by
  induction h with
  | trans _ _ ih₁ ih₂ => exact ih₂.trans ih₁
  | due u serial => exact makeDue_keeps (·.store) (fun _ _ => rfl) u serial
  | _ => rfl

/-! ### Entries -/

/-- An entry keeps verdict and seen flags, and stays journal-due where it is. -/
structure Entry.Follows (x e : Entry) : Prop where
  verdict : x.verdict = e.verdict
  seen    : x.seen = e.seen
  due     : e.journalDue = true → x.journalDue = true

theorem Entry.Follows.refl (e : Entry) : e.Follows e := ⟨rfl, rfl, id⟩

theorem Entry.Follows.trans {x y z : Entry} (h : y.Follows x) (k : z.Follows y) : z.Follows x :=
  ⟨k.verdict.trans h.verdict, k.seen.trans h.seen, fun d => k.due (h.due d)⟩

/-- Each live entry is followed by one of its serial. -/
def EntriesKept (s t : State) : Prop :=
  ∀ serial e, s.entryOf serial = some e → ∃ x, t.entryOf serial = some x ∧ x.Follows e

theorem EntriesKept.refl (s : State) : EntriesKept s s := fun _ e h => ⟨e, h, .refl e⟩

theorem EntriesKept.trans {s t u : State} (h : EntriesKept s t) (k : EntriesKept t u) : EntriesKept s u := by
  intro serial e found
  obtain ⟨x, hx, follows⟩ := h serial e found
  obtain ⟨y, hy, next⟩ := k serial x hx
  exact ⟨y, hy, follows.trans next⟩

theorem EntriesKept.of_live {s t : State} (h : t.history.live = s.history.live) : EntriesKept s t := by
  intro serial e found
  exact ⟨e, by rw [State.entryOf, h]; exact found, .refl e⟩

/-- An entry changed is the one of its serial, changed; every other stands. -/
theorem entryOf_updEntry (s : State) (x serial : Serial) (f : Entry → Entry) (keeps : ∀ e, (f e).serial = e.serial) :
    (s.updEntry x f).entryOf serial = (s.entryOf serial).map fun e => if e.serial = x then f e else e := by
  show List.find? _ (List.map _ s.history.live) = _
  rw [List.find?_map]
  refine congrArg (Option.map _) (congrArg (fun p => List.find? p s.history.live) (funext fun e => ?_))
  show ((if e.serial = x then f e else e).serial == serial) = (e.serial == serial)
  split
  · rw [keeps]
  · rfl

theorem entriesKept_updEntry (s : State) (x : Serial) (f : Entry → Entry) (keeps : ∀ e, (f e).serial = e.serial)
    (follows : ∀ e, (f e).Follows e) : EntriesKept s (s.updEntry x f) := by
  intro serial e found
  refine ⟨_, by rw [entryOf_updEntry s x serial f keeps, found]; rfl, ?_⟩
  show (if e.serial = x then f e else e).Follows e
  split
  · exact follows e
  · exact .refl e

theorem entriesKept_makeDue (s : State) (serial : Serial) : EntriesKept s (s.makeDue serial) := by
  unfold State.makeDue
  split
  · exact .refl s
  · split
    · exact .refl s
    · split
      · exact .refl s
      · exact (entriesKept_updEntry s serial (fun e => { e with journalDue := true }) (fun _ => rfl)
          fun _ => ⟨rfl, rfl, fun _ => rfl⟩).trans (.of_live rfl)

/-- A live entry made due is due, unless the journal is degraded (R49, R54). -/
theorem makeDue_due {s : State} {serial : Serial} {e : Entry} (found : s.entryOf serial = some e)
    (mode : s.store.mode ≠ .degraded) : ∃ x, (s.makeDue serial).entryOf serial = some x ∧ x.journalDue = true := by
  have named : e.serial = serial := by simpa using List.find?_some found
  unfold State.makeDue
  rw [if_neg mode]
  simp only [found]
  split
  · next due => exact ⟨e, found, due⟩
  · refine ⟨{ e with journalDue := true }, ?_, rfl⟩
    refine (entryOf_updEntry s serial serial (fun e => { e with journalDue := true }) fun _ => rfl).trans ?_
    rw [found, Option.map_some, if_pos named]

theorem FeedSteps.entries {s t : State} (h : FeedSteps s t) : EntriesKept s t := by
  induction h with
  | refl s => exact .refl s
  | trans _ _ ih₁ ih₂ => exact ih₁.trans ih₂
  | raise | updChan | updBay => exact .of_live rfl
  | due u serial => exact entriesKept_makeDue u serial
  | book u serial n => exact entriesKept_updEntry u serial _ (fun _ => rfl) fun _ => ⟨rfl, rfl, id⟩

end Sys2Proof.Machine
end

section
/-! SUPPORT. What the end of an insertion and a reconciliation leave of a bay, and the results of the authentication
engine (R24 to R26, R206). -/

namespace Sys2Proof.Machine

/-! ### What an insertion leaves of a bay's fields -/

section
variable {α : Type} (p : Bay → α)

theorem bay_updBay_keeps (s : State) (b : BayId) (f : Bay → Bay) (h : ∀ x, p (f x) = p x) :
    p ((s.updBay b f).bay b) = p (s.bay b) := by
  rw [State.bay_updBay_self, h]

theorem KeepsAside.keeps {s t : State} (k : KeepsAside s t) (ha : ∀ x : Bay, p x.aside = p x) (b : BayId) :
    p (t.bay b) = p (s.bay b) := by
  rw [← ha, k b, ha]

variable (ha : ∀ x : Bay, p x.aside = p x) (hw : ∀ (x : Bay) (w : Wants), p { x with wants := w } = p x)
include ha hw

/-- A field that the feed and the wants do not change is the same when an insertion has ended. -/
theorem placeBay_keeps (s : State) (b : BayId) (st : BayState) : p ((s.placeBay b st).bay b) = p (s.bay b) := by
  have barred : KeepsAside s (s.updBay b fun x => { x with barReason := s.barReasonOf b }) :=
    aside_updBay s b _ fun _ => rfl
  have moved := (barred.trans (aside_moveBay _ b st)).trans (aside_raiseBurnWant _ b)
  unfold State.placeBay
  rw [raiseRefillMarkWant_eq, bay_updBay_keeps p _ b _ fun x => hw x _, raiseDepletedWant_eq,
    bay_updBay_keeps p _ b _ fun x => hw x _]
  exact moved.keeps p ha b

theorem endInsertion_keeps (s : State) (b : BayId) : p ((s.endInsertion b).bay b) = p (s.bay b) := by
  rw [endInsertion_eq]
  split
  · exact ((steps_becameEligible _ b).aside.keeps p ha b).trans (placeBay_keeps p ha hw s b _)
  · exact placeBay_keeps p ha hw s b _

end

/-- A bay whose insertion has ended is decided (R27). -/
theorem endInsertion_decided (s : State) (b : BayId) : ((s.endInsertion b).bay b).state.decided = true := by
  have placed (st : BayState) : ((s.placeBay b st).bay b).state = st := (placeBay_bay s b st).1
  rw [endInsertion_eq]
  split
  · exact (steps_becameEligible _ b).decided (by rw [placed]; rfl)
  · rw [placed]; exact ineligibleState_decided _

/-! ### A reconciliation leaves the bay authenticated and decided -/

/-- From `s` to `t` the bay stays authenticated or not. -/
def KeepsAuth (b : BayId) (s t : State) : Prop := (t.bay b).authenticated = (s.bay b).authenticated

theorem KeepsAuth.trans {b : BayId} {s t u : State} (h : KeepsAuth b s t) (k : KeepsAuth b t u) : KeepsAuth b s u :=
  Eq.trans k h

theorem keepsAuth_of_bays {b : BayId} {s t : State} (h : t.bays = s.bays) : KeepsAuth b s t := by
  simp only [KeepsAuth, State.bay, h]

theorem keepsAuth_updBay (s : State) (b : BayId) (f : Bay → Bay) (h : ∀ x, (f x).authenticated = x.authenticated) :
    KeepsAuth b s (s.updBay b f) := bay_updBay_keeps Bay.authenticated s b f h

theorem keepsAuth_aside {s t : State} (h : KeepsAside s t) (b : BayId) : KeepsAuth b s t :=
  h.keeps Bay.authenticated (fun _ => rfl) b

theorem keepsAuth_setVerdict (s : State) (b : BayId) (v : Verdict) (r : VerdictReason) :
    KeepsAuth b s (s.setVerdict b v r) := by rw [KeepsAuth, bay_setVerdict_self]

theorem setSeen_bays (s : State) (serial : Serial) (bits : SeenSet) : (s.setSeen serial bits).bays = s.bays := by
  unfold State.setSeen
  split
  · rfl
  · split
    · rfl
    · exact makeDue_bays _ _

theorem keepsAuth_applyConsequence (s : State) (b : BayId) (v : Verdict) (r : VerdictReason) :
    KeepsAuth b s (s.applyConsequence b v r) := by
  have verdict := keepsAuth_setVerdict s b v r
  have dropped (u : State) : KeepsAuth b u (if v = .foreign then
      u.updBay b fun x => { x with wants := { x.wants with burn := false } } else u) := by
    split
    · exact keepsAuth_updBay u b _ fun _ => rfl
    · exact rfl
  unfold State.applyConsequence
  simp only
  split
  · split
    · exact verdict.trans (dropped _)
    · exact (verdict.trans (dropped _)).trans (keepsAuth_of_bays (makeDue_bays _ _))
  · exact rfl

theorem keepsAuth_setFlag (s : State) (b : BayId) (k : HeldKind) : KeepsAuth b s (s.setFlag b k) := by
  have hold : KeepsAuth b s (s.holdFlag b k) := keepsAuth_updBay s b _ fun _ => rfl
  have alert (u : State) : KeepsAuth b u (u.alertFlag b k) := by
    unfold State.alertFlag
    split <;> exact rfl
  have judge (u : State) : KeepsAuth b u (u.judgeFlag b k) := by
    unfold State.judgeFlag
    split
    · exact keepsAuth_applyConsequence u b _ _
    · exact rfl
  have shows (u : State) : KeepsAuth b u (u.showFlag b k) := by
    unfold State.showFlag
    split
    · exact keepsAuth_of_bays (setSeen_bays _ _ _)
    · exact rfl
  have want (u : State) : KeepsAuth b u (u.raiseRefillMarkWant b) := by
    rw [raiseRefillMarkWant_eq]
    exact keepsAuth_updBay u b _ fun _ => rfl
  exact (((hold.trans (alert _)).trans (judge _)).trans (shows _)).trans (want _)

theorem keepsAuth_fireCheck (s : State) (b : BayId) (k : HeldKind) : KeepsAuth b s (s.fireCheck b k) := by
  rw [fireCheck_eq]
  split
  · exact rfl
  · exact (keepsAuth_setFlag s b k).trans (keepsAuth_aside (steps_reevaluate _ b).aside b)

theorem keepsAuth_fireInsertionChecks (s : State) (b : BayId) (conflict rise : Bool) :
    KeepsAuth b s (s.fireInsertionChecks b conflict rise) := by
  have fire (u : State) (k : HeldKind) (x : Bool) : KeepsAuth b u (if x = true then u.fireCheck b k else u) := by
    split
    · exact keepsAuth_fireCheck u b k
    · exact rfl
  exact (fire s .flagConflict conflict).trans (fire _ .gaugeRise rise)

theorem keepsAuth_settleBay (s : State) (b : BayId) (e : Option Serial) (gc : GaugeCase) (v : Verdict × VerdictReason) :
    KeepsAuth b s (s.settleBay b e gc v) := by
  refine .trans ?_ (keepsAuth_setVerdict _ b _ _)
  exact keepsAuth_updBay s b _ fun _ => rfl

/-- Authenticated as before, and decided. -/
def EndsAuth (b : BayId) (s t : State) : Prop := KeepsAuth b s t ∧ (t.bay b).state.decided = true

theorem KeepsAuth.ends {b : BayId} {s t : State} (h : KeepsAuth b s t) : EndsAuth b s (t.endInsertion b) :=
  ⟨h.trans (endInsertion_keeps Bay.authenticated (fun _ => rfl) (fun _ _ => rfl) t b), endInsertion_decided t b⟩

/-- A reconciliation ends the insertion and does not authenticate (R43 to R48). -/
theorem endsAuth_reconcile (s : State) (b : BayId) : EndsAuth b s (s.reconcile b) := by
  have moved : KeepsAuth b s (s.moveBay b .reconciling) := keepsAuth_aside (aside_moveBay s b _) b
  have hist (u : State) (f : History → History) : KeepsAuth b u (u.updHist f) := rfl
  have due (u : State) (serial : Serial) : KeepsAuth b u (u.makeDue serial) := keepsAuth_of_bays (makeDue_bays u serial)
  unfold State.reconcile
  simp only
  split
  · exact moved.ends
  · split
    · split
      · exact (moved.trans (keepsAuth_settleBay _ b _ _ _)).ends
      · unfold State.reconcileExisting
        refine KeepsAuth.ends (.trans ?_ (keepsAuth_fireInsertionChecks _ b _ _))
        refine .trans ?_ (keepsAuth_settleBay _ b _ _ _)
        exact moved.trans (.trans (.trans (hist _ _) (hist _ _)) (due _ _))
    · split
      · unfold State.reconcileNew
        refine KeepsAuth.ends (.trans ?_ (keepsAuth_fireInsertionChecks _ b _ _))
        refine .trans ?_ (keepsAuth_settleBay _ b _ _ _)
        exact moved.trans (due _ _)
      · unfold State.reconcileUntracked
        refine KeepsAuth.ends (.trans ?_ (keepsAuth_fireInsertionChecks _ b _ _))
        refine .trans ?_ (keepsAuth_settleBay _ b _ _ _)
        exact moved.trans (hist _ _)

/-! ### The comparison (R25) -/

/-- A response that differs from the expected one gives FOREIGN and ends the insertion. -/
theorem checkResponse_differs {s : State} {b : BayId} {r v : Bytes16} (resp : (s.bay b).tagResponse = some r)
    (expect : (s.bay b).expectedResponse = some v) (ne : r ≠ v) :
    ((s.checkResponse b).bay b).verdict = .foreign ∧ ((s.checkResponse b).bay b).verdictReason = .response
      ∧ ((s.checkResponse b).bay b).state.decided = true
      ∧ ((s.checkResponse b).bay b).authenticated = (s.bay b).authenticated
      ∧ ((s.checkResponse b).bay b).tagResponse = none ∧ ((s.checkResponse b).bay b).expectedResponse = none := by
  have eq : s.checkResponse b = (((s.updBay b fun x =>
      { x with challenge := none, tagResponse := none, expectedResponse := none }).setVerdict b .foreign
        .response).endInsertion b) := by
    simp only [State.checkResponse, resp, expect, if_pos ne]
  have kept {α : Type} (p : Bay → α) (ha : ∀ x : Bay, p x.aside = p x)
      (hw : ∀ (x : Bay) (w : Wants), p { x with wants := w } = p x) :
      p ((s.checkResponse b).bay b) = p { s.bay b with
        challenge := none, tagResponse := none, expectedResponse := none, verdict := .foreign, verdictReason := .response } := by
    rw [eq, endInsertion_keeps p ha hw, bay_setVerdict_self, State.bay_updBay_self]
  refine ⟨kept Bay.verdict (fun _ => rfl) fun _ _ => rfl, kept Bay.verdictReason (fun _ => rfl) fun _ _ => rfl, ?_,
    kept Bay.authenticated (fun _ => rfl) fun _ _ => rfl, kept Bay.tagResponse (fun _ => rfl) fun _ _ => rfl,
    kept Bay.expectedResponse (fun _ => rfl) fun _ _ => rfl⟩
  rw [eq]
  exact endInsertion_decided _ b

/-- A response that is the expected one authenticates the cartridge and ends the insertion. -/
theorem checkResponse_same {s : State} {b : BayId} {r : Bytes16} (resp : (s.bay b).tagResponse = some r)
    (expect : (s.bay b).expectedResponse = some r) :
    ((s.checkResponse b).bay b).authenticated = true ∧ ((s.checkResponse b).bay b).state.decided = true := by
  obtain ⟨u, known, eq⟩ : ∃ u : State, (u.bay b).authenticated = true
      ∧ s.checkResponse b = if (u.bay b).gaugeKnown then u.reconcile b else u.endInsertion b := by
    refine ⟨(s.updBay b fun x => { x with challenge := none, tagResponse := none, expectedResponse := none }).updBay b
      fun x => { x with authenticated := true }, by rw [State.bay_updBay_self], ?_⟩
    simp only [State.checkResponse, resp, expect, ne_eq, not_true, if_false]
  rw [eq]
  split
  · obtain ⟨auth, decided⟩ := endsAuth_reconcile u b
    exact ⟨Eq.trans auth known, decided⟩
  · obtain ⟨auth, decided⟩ := KeepsAuth.ends (b := b) (s := u) (t := u) rfl
    exact ⟨Eq.trans auth known, decided⟩

/-! ### A completed computation (R24) -/

/-- The state in which the computation under way has ended. -/
def State.computed (s : State) : State := { s with auth := { s.auth with current := none } }

/-- The next request begins. -/
def State.nextRequest (s : State) : State := { s with auth := s.auth.begin }

theorem exec_authComputationComplete {s : State} {r : AuthRequest} {w : Bool} (h : s.auth.current = some (r, w)) :
    exec .authComputationComplete s
      = .next ((if w then s.computed
          else s.computed.handResult r (Config.keyedResponse r.serial r.inkType r.challenge)).nextRequest.endEvent s) := by
  show execAuthComputationComplete s = _
  simp only [execAuthComputationComplete, h]
  rfl

theorem begin_empty {a : AuthEngine} (h : a.fifo = []) : a.begin = a := by
  obtain ⟨fifo, current⟩ := a
  obtain rfl : fifo = [] := h
  cases current <;> rfl

/-- A computation's result for a CHALLENGING bay is its expected response (R25). -/
theorem handResult_bay {s : State} {r : AuthRequest} {b : BayId} (own : r.origin = some b)
    (state : (s.bay b).state = .challenging) (v : Bytes16) :
    s.computed.handResult r v
      = (s.computed.updBay b fun x => { x with expectedResponse := some v }).checkResponse b := by
  have still : (s.computed.bay b).state = .challenging := state
  simp only [State.handResult, own, still, if_true]
  rfl

/-- A computation's result for a test decides it (R206). -/
theorem handResult_test {s : State} {r : AuthRequest} {k : SlotId} (own : r.origin = none)
    (slot : s.selfTest.slot = some k) (v : Bytes16) :
    s.computed.handResult r v = s.computed.decideTest k (decide (v = Config.fusedExpected)) [] := by
  have same : s.computed.selfTest.slot = some k := slot
  simp only [State.handResult, own, same]

/-- A test decided at once is ended and its ticket answered (R203). -/
theorem decideTest_leaves {s : State} {k : SlotId} (hand : (s.slot k).hand = .taken) (pass : Bool) (detail : List Byte) :
    (s.decideTest k pass detail).notified .test = true
      ∧ (s.decideTest k pass detail).slot k = (s.slot k).answered (s.decidedAnswer pass detail)
      ∧ (s.decideTest k pass detail).selfTest
          = s.selfTest.ended (decidedResult s.selfTest.code pass) (decidedCause pass)
      ∧ (s.decideTest k pass detail).bays = s.bays := by
  have taken : ((s.concludeTest pass).slot k).hand = .taken := hand
  refine ⟨?_, State.slot_writeAnswer_self _ k _ taken, ?_, ?_⟩
  · unfold State.decideTest State.writeAnswer
    rw [if_pos taken]
    have raised : (s.concludeTest pass).notified .test = true := by
      unfold State.concludeTest State.endTest
      rw [notified_raise]
      exact Bool.or_true _
    rw [notified_raise]
    rw [show ((s.concludeTest pass).updSlot k _).notified .test = true from raised]
    rfl
  · exact State.writeAnswer_selfTest ..
  · exact State.writeAnswer_bays ..

/-- A notice that is pending stays so where no pending flag is dropped. -/
theorem notified_of_notices {s t : State} (h : s.port.notices &&& ~~~t.port.notices = 0#8) {n : Notice}
    (k : s.notified n = true) : t.notified n = true := by
  have bit := congrArg (BitVec.getLsbD · n.bit) h
  have small : n.bit < 8 := by cases n <;> decide
  have on : s.port.notices.getLsbD n.bit = true := k
  simp only [BitVec.getLsbD_and, BitVec.getLsbD_not, on, small, decide_true, Bool.true_and, BitVec.getLsbD_zero,
    Bool.not_eq_false'] at bit
  exact bit

theorem KeptAtEnd.notified {s t : State} (h : KeptAtEnd s t) {n : Notice} (k : s.notified n = true) :
    t.notified n = true := notified_of_notices h.notices k

theorem decidedAnswer_word (s : State) (pass : Bool) (detail : List Byte) :
    (s.decidedAnswer pass detail).word = 0x0001#16 := by
  show ((0#8 : Byte) ++ Status.code .done : Word) = 0x0001#16
  decide

/-- A zero byte behind an answer's bytes is the zero fill (Table 12-6). -/
theorem padded_zero (x y z : Byte) : fitList 30 0#8 [x, y, z, 0#8] = fitList 30 0#8 [x, y, z] := rfl

/-- Settles O48: a withdrawn result is discarded, one for a bay is kept or compared, one for a test decides it; the
oldest waiting request begins. -/
theorem authenticationResultsReachTheirBay : Obligations.AuthenticationResultsReachTheirBay := by
  intro r w s current
  refine ⟨_, exec_authComputationComplete current, fun withdrawn empty => ?empty, fun x rest withdrawn waits => ?next,
    fun b kept own state => ?bay, fun k kept own slot hand => ?test⟩
  case empty =>
    have begun : s.computed.nextRequest = { s with auth := { fifo := [], current := none } } := by
      have begun : ({ s.auth with current := none } : AuthEngine).begin = { fifo := [], current := none } := by
        rw [begin_empty (a := { s.auth with current := none }) empty]
        simp only [empty]
      exact congrArg (fun a => ({ s with auth := a } : State)) begun
    rw [if_pos withdrawn, begun]
    exact kept_endEvent _ s
  case next =>
    have begun : s.computed.nextRequest = { s with auth := { fifo := rest, current := some (x, false) } } := by
      simp only [State.nextRequest, State.computed, AuthEngine.begin, waits]
    rw [if_pos withdrawn, begun]
    exact kept_endEvent _ s
  case bay =>
    rw [if_neg (by rw [kept]; exact nofun), handResult_bay own state]
    generalize Config.keyedResponse r.serial r.inkType r.challenge = v
    have now : (s.computed.updBay b fun x => { x with expectedResponse := some v }).bay b
        = { s.bay b with expectedResponse := some v } := State.bay_updBay_self s.computed b _
    have expect : ((s.computed.updBay b fun x => { x with expectedResponse := some v }).bay b).expectedResponse = some v := by
      rw [now]
    have response : ((s.computed.updBay b fun x => { x with expectedResponse := some v }).bay b).tagResponse
        = (s.bay b).tagResponse := by rw [now]
    have auth : ((s.computed.updBay b fun x => { x with expectedResponse := some v }).bay b).authenticated
        = (s.bay b).authenticated := by rw [now]
    have ended := kept_endEvent
      ((s.computed.updBay b fun x => { x with expectedResponse := some v }).checkResponse b).nextRequest s
    refine ⟨fun none' empty => ?waits, fun resp given ne => ?differs, fun resp given same => ?agrees⟩
    case waits =>
      have compared : (s.computed.updBay b fun x => { x with expectedResponse := some v }).checkResponse b
          = s.computed.updBay b fun x => { x with expectedResponse := some v } := by
        simp only [State.checkResponse, response, none']
      rw [compared] at ended ⊢
      have begun : (s.computed.updBay b fun x => { x with expectedResponse := some v }).nextRequest
          = ({ s with auth := { fifo := [], current := none } } : State).updBay b fun x =>
              { x with expectedResponse := some v } := by
        have none'' : (s.computed.updBay b fun x => { x with expectedResponse := some v }).auth.fifo = [] := empty
        rw [State.nextRequest, begin_empty none'']
        simp only [State.computed, empty]
      rw [begun] at ended ⊢
      exact ended
    case differs =>
      obtain ⟨verdict, reason, decided, authenticated, tag, expected⟩ :=
        checkResponse_differs (response.trans given) expect ne
      exact ⟨(ended.bayField Bay.verdict b fun _ => rfl).trans verdict,
        (ended.bayField Bay.verdictReason b fun _ => rfl).trans reason,
        (ended.bayField (·.state.decided) b fun _ => rfl).trans decided,
        (ended.bayField Bay.authenticated b fun _ => rfl).trans (authenticated.trans auth),
        (ended.bayField Bay.tagResponse b fun _ => rfl).trans tag,
        (ended.bayField Bay.expectedResponse b fun _ => rfl).trans expected⟩
    case agrees =>
      subst same
      obtain ⟨authenticated, decided⟩ := checkResponse_same (response.trans given) expect
      exact ⟨(ended.bayField Bay.authenticated b fun _ => rfl).trans authenticated,
        (ended.bayField (·.state.decided) b fun _ => rfl).trans decided⟩
  case test =>
    rw [if_neg (by rw [kept]; exact nofun), handResult_test own slot]
    generalize Config.keyedResponse r.serial r.inkType r.challenge = v
    obtain ⟨noticed, answered, ended, bays⟩ :=
      decideTest_leaves (s := s.computed) hand (decide (v = Config.fusedExpected)) []
    have last := kept_endEvent (s.computed.decideTest k (decide (v = Config.fusedExpected)) []).nextRequest s
    have slot' : (((s.computed.decideTest k (decide (v = Config.fusedExpected)) []).nextRequest).endEvent s).slot k
        = (s.slot k).answered (s.decidedAnswer (decide (v = Config.fusedExpected)) []) :=
      (last.slots k (.inl (by
        show ((s.computed.decideTest k _ []).slot k).hand ≠ .taken
        rw [answered]; exact nofun))).trans answered
    refine ⟨last.notified noticed, by rw [slot']; rfl,
      by rw [slot']; exact decidedAnswer_word .., fun b => (last.bays b).trans ?_,
      fun same => ?_, fun differs => ?_⟩
    · show ((s.computed.decideTest k _ []).bay b).settled = _
      simp only [State.bay, bays]
      rfl
    · have test := last.selfTest.trans ended
      rw [decide_eq_true same] at test slot' ⊢
      exact ⟨test, by rw [slot']; exact padded_zero _ _ _⟩
    · have test := last.selfTest.trans ended
      rw [decide_eq_false differs] at test slot' ⊢
      exact ⟨test, by rw [slot']; exact padded_zero _ _ _⟩

end Sys2Proof.Machine
end

section
/-! SUPPORT. A channel passed to the twin, or closed, when its feeding bay stops feeding at an event of its own (R98,
R102 to R104). -/

namespace Sys2Proof.Machine

/-- A twin that is neither eligible nor feeding is unfit still once its bay has taken up the feed. -/
theorem fedTo_unfit {s : State} {b : BayId} (cause : FeedCause) (unfit : s.eligible (twinOf b) = false)
    (still : (s.bay (twinOf b)).state ≠ .feeding) : (s.fedTo b cause).eligible (twinOf b) = false := by
  obtain ⟨same, _, ⟨_, feeds, _⟩ | ⟨_, state⟩⟩ := bay_fedTo_twin s b cause
  · exact absurd feeds still
  · rw [(merits_fedTo s b cause).eligible (twinOf b) (by rw [state]) same, unfit]

/-- A bay that takes up the feed beside an unfit twin, its book above the marks of the residue, keeps it. -/
theorem feedFrom_stays {s : State} {b : BayId} (cause : FeedCause)
    (unfit : s.eligible (twinOf b) = false) (still : (s.bay (twinOf b)).state ≠ .feeding)
    (left : s.marksDue (chanOf b) b < (s.bay b).book) : s.feedFrom (chanOf b) b cause = s.fedTo b cause := by
  obtain ⟨_, book, _⟩ := bay_fedTo_self s b cause
  have some' : ((s.fedTo b cause).bay b).book ≠ 0 := by
    rw [book]
    have most : s.marksApplied (chanOf b) b ≤ s.marksDue (chanOf b) b := Nat.min_le_left _ _
    omega
  have shut := fedTo_unfit cause unfit still
  have calm : (s.fedTo b cause).thresholdMet (chanOf b) = false := by
    simp only [State.thresholdMet, feedingBay_fedTo, shut, Bool.and_false, Bool.false_and]
  have stays : (s.fedTo b cause).afterMarks (chanOf b) b = (s.fedTo b cause, .stay) := by
    unfold State.afterMarks
    rw [if_neg some', calm]
    rfl
  show State.beginFeeding feedBound s (chanOf b) b cause = _
  rw [beginFeeding_eq]
  split
  · rfl
  · simp only [feedBound, stays]

theorem settleEndFrom_eq {s : State} {b : BayId} {p : Profile} (h : s.profileOf b = some p) :
    s.settleEndFrom (chanOf b) = settleFrom s.outside.now p := by
  have profile : (s.chan (chanOf b)).profile = some p := h
  rw [State.settleEndFrom, profile, Option.bind_some]

/-- CHANNEL is raised when a bay takes up the feed. -/
theorem notified_fedTo (s : State) (b : BayId) (cause : FeedCause) : (s.fedTo b cause).notified .channel = true := by
  unfold State.fedTo State.takeUp
  rw [notified_raise]
  exact Bool.or_true _

/-- A bay has taken up the feed, all marks of the residue passed from its book (R76, R98). -/
theorem feedsFrom_fedTo {s : State} {b : BayId} (cause : FeedCause) (left : s.marksDue (chanOf b) b < (s.bay b).book) :
    s.FeedsFrom (s.fedTo b cause) b cause (s.chan (chanOf b)).residue := by
  have applied : s.marksApplied (chanOf b) b = (s.chan (chanOf b)).residue / (s.bay b).markSize := Nat.min_eq_left left.le
  obtain ⟨_, feedCause, closed, residue, settles⟩ := chan_fedTo s b cause
  obtain ⟨state, book, pending, _⟩ := bay_fedTo_self s b cause
  rw [applied] at book pending
  exact ⟨⟨feedingBay_fedTo s b cause, state⟩, ⟨feedCause, closed⟩, book, pending, residue,
    fun p h => settles.trans (settleEndFrom_eq h), notified_fedTo s b cause⟩

/-- What `FeedsFrom` and `PassesFeed` read of the state before the event, for the bay that takes over. -/
structure FedAlike (b : BayId) (s u : State) : Prop where
  book    : (u.bay b).book = (s.bay b).book
  pending : (u.bay b).pending = (s.bay b).pending
  mark    : (u.bay b).markSize = (s.bay b).markSize
  chan    : u.chan (chanOf b) = s.chan (chanOf b)
  now     : u.outside.now = s.outside.now
  el      : u.eligible b = s.eligible b

theorem FedAlike.trans {b : BayId} {s u v : State} (h : FedAlike b s u) (k : FedAlike b u v) : FedAlike b s v :=
  ⟨k.book.trans h.book, k.pending.trans h.pending, k.mark.trans h.mark, k.chan.trans h.chan, k.now.trans h.now,
    k.el.trans h.el⟩

/-- A bay that is the same, under the same latch and channel. -/
theorem FedAlike.of_bay {b : BayId} {s u : State} (bay : u.bay b = s.bay b) (chan : u.chan (chanOf b) = s.chan (chanOf b))
    (latch : u.latch = s.latch) (now : u.outside.now = s.outside.now) : FedAlike b s u := by
  have reason : u.barReasonOf b = s.barReasonOf b := by
    simp only [State.barReasonOf, State.profileOf, bay, chan, latch]
  exact ⟨by rw [bay], by rw [bay], by rw [bay], chan, now, eligible_congr reason (by rw [bay]) (by rw [bay])⟩

theorem State.FeedsFrom.of_alike {s u t : State} {b : BayId} {cause : FeedCause} {residue : Nat} (alike : FedAlike b s u)
    (h : u.FeedsFrom t b cause residue) : s.FeedsFrom t b cause residue := by
  obtain ⟨open', reasons, book, pending, left, settles, noticed⟩ := h
  rw [alike.mark] at book pending left
  rw [alike.book] at book
  rw [alike.pending] at pending
  refine ⟨open', reasons, book, pending, left, fun p hp => ?_, noticed⟩
  rw [← alike.now]
  exact settles p (by rw [State.profileOf, alike.chan]; exact hp)

/-- The feed of a bay that stopped feeding at an event of its own passes to the twin or closes (R102 to R104). -/
theorem feedLost_passes {s u : State} {b : BayId} (cause : FeedCause) (alike : FedAlike (twinOf b) s u)
    (unfit : u.eligible b = false) (still : (u.bay b).state ≠ .feeding) :
    s.PassesFeed (u.feedLost b cause) b cause cause.closes := by
  have chan : u.chan (chanOf b) = s.chan (chanOf b) := by rw [← chanOf_twinOf]; exact alike.chan
  refine ⟨fun no => ?_, fun yes _ left => ?_⟩
  · have shuts : u.feedLost b cause = u.closeChannel (chanOf b) cause := if_neg (by rw [alike.el, no]; exact nofun)
    have self : (u.closeChannel (chanOf b) cause).chan (chanOf b)
        = { u.chan (chanOf b) with feedState := .closed, closedReason := cause.closes, feedCause := cause } :=
      State.chan_updChan_self u _ _
    rw [shuts]
    refine ⟨feedingBay_close u _ cause, by rw [self], by rw [self], by rw [self, chan], ?_⟩
    unfold State.closeChannel
    rw [notified_raise]
    exact Bool.or_true _
  · have marks : u.marksDue (chanOf (twinOf b)) (twinOf b) < (u.bay (twinOf b)).book := by
      rw [State.marksDue, chanOf_twinOf, chan, alike.mark, alike.book]; exact left
    have passes : u.feedLost b cause = u.fedTo (twinOf b) cause := by
      have goes : u.feedLost b cause = u.feedFrom (chanOf b) (twinOf b) cause := if_pos (by rw [alike.el, yes])
      rw [goes, ← chanOf_twinOf b]
      exact feedFrom_stays cause (by rw [twinOf_twinOf]; exact unfit) (by rw [twinOf_twinOf]; exact still) marks
    rw [passes]
    have fed := (feedsFrom_fedTo cause marks).of_alike alike
    rwa [chanOf_twinOf, chan] at fed

theorem fedAlike_of_same {s u : State} (bays : u.bays = s.bays) (channels : u.channels = s.channels)
    (latch : u.latch = s.latch) (now : u.outside.now = s.outside.now) (b : BayId) : FedAlike b s u := by
  exact .of_bay (by simp only [State.bay, bays]) (by simp only [State.chan, channels]) latch now

/-- A feeding bay's twin takes over on the figures it had, whatever changed of the bay itself. -/
theorem OnlyBay.fedAlike {b : BayId} {s u : State} (h : OnlyBay b s u) (now : u.outside.now = s.outside.now) :
    FedAlike (twinOf b) s u := by
  exact .of_bay (h.bays (twinOf b) (twinOf_ne b)) (h.chan _) h.latch now

theorem State.PassesFeed.of_alike {s u t : State} {b : BayId} {cause : FeedCause} {reason : ClosedReason}
    (alike : FedAlike (twinOf b) s u) (h : u.PassesFeed t b cause reason) : s.PassesFeed t b cause reason := by
  have chan : u.chan (chanOf b) = s.chan (chanOf b) := by rw [← chanOf_twinOf]; exact alike.chan
  obtain ⟨closes, passes⟩ := h
  rw [chan, alike.el] at closes
  rw [alike.el, feedingBay_congr (s := s) (t := u) (by rw [chan]), chan, alike.mark, alike.book] at passes
  exact ⟨closes, fun yes open' left => (passes yes open' left).of_alike alike⟩

/-! ### The rest of the event -/

/-- What the rest of an event leaves of a channel's feed as it stands. -/
structure FeedRead (c : ChanId) (s t : State) : Prop where
  chan    : t.chan c = s.chan c
  bays    : ∀ b, chanOf b = c → (t.bay b).state = (s.bay b).state ∧ (t.bay b).book = (s.bay b).book
    ∧ (t.bay b).pending = (s.bay b).pending
  noticed : s.notified .channel = true → t.notified .channel = true

theorem KeptAtEnd.feedRead {s t : State} (h : KeptAtEnd s t) (c : ChanId) : FeedRead c s t :=
  ⟨by simp only [State.chan, h.channels], fun b _ => ⟨h.bayField Bay.state b fun _ => rfl,
    h.bayField Bay.book b fun _ => rfl, h.bayField Bay.pending b fun _ => rfl⟩, h.notified⟩

theorem FeedRead.trans {c : ChanId} {s t u : State} (h : FeedRead c s t) (k : FeedRead c t u) : FeedRead c s u := by
  refine ⟨k.chan.trans h.chan, fun b own => ?_, fun n => k.noticed (h.noticed n)⟩
  obtain ⟨state, book, pending⟩ := h.bays b own
  obtain ⟨state', book', pending'⟩ := k.bays b own
  exact ⟨state'.trans state, book'.trans book, pending'.trans pending⟩

theorem FeedRead.feedingBay {c : ChanId} {s t : State} (h : FeedRead c s t) : t.feedingBay c = s.feedingBay c :=
  feedingBay_congr (by rw [h.chan])

theorem State.FeedsFrom.carry {s u t : State} {b : BayId} {cause : FeedCause} {residue : Nat}
    (h : s.FeedsFrom u b cause residue) (k : FeedRead (chanOf b) u t) : s.FeedsFrom t b cause residue := by
  obtain ⟨⟨valve, state⟩, reasons, book, pending, left, settles, noticed⟩ := h
  obtain ⟨sameState, sameBook, samePending⟩ := k.bays b rfl
  refine ⟨⟨k.feedingBay.trans valve, sameState.trans state⟩, ?_, sameBook.trans book, samePending.trans pending,
    ?_, fun p hp => ?_, k.noticed noticed⟩
  · rw [k.chan]; exact reasons
  · rw [k.chan]; exact left
  · rw [k.chan]; exact settles p hp

theorem State.PassesFeed.carry {s u t : State} {b : BayId} {cause : FeedCause} {reason : ClosedReason}
    (h : s.PassesFeed u b cause reason) (k : FeedRead (chanOf b) u t) : s.PassesFeed t b cause reason := by
  obtain ⟨closes, passes⟩ := h
  refine ⟨fun no => ?_, fun yes open' left => (passes yes open' left).carry (by rw [chanOf_twinOf]; exact k)⟩
  obtain ⟨shut, closed, feedCause, residue, noticed⟩ := closes no
  exact ⟨k.feedingBay.trans shut, by rw [k.chan]; exact closed, by rw [k.chan]; exact feedCause,
    by rw [k.chan]; exact residue, k.noticed noticed⟩

end Sys2Proof.Machine
end

section
/-! SUPPORT. The bay a feed leaves, an entry into FAULT, and transactions discarded at a limit (R33, R88, R139 to R142,
R209). -/

namespace Sys2Proof.Machine

/-! ### The bay that the feed leaves -/

/-- A bay that does not feed keeps all but its window when its twin takes up the feed. -/
theorem bay_fedTo_left {s : State} {b : BayId} (still : (s.bay (twinOf b)).state ≠ .feeding) (cause : FeedCause)
    {α : Type} (p : Bay → α) (hp : ∀ y : Bay, p { y with sense := y.sense.emptyWindow } = p y) :
    p ((s.fedTo b cause).bay (twinOf b)) = p (s.bay (twinOf b)) := by
  refine (takeUp_bay _ _ _ b (twinOf b) p hp).trans (congrArg p ?_)
  obtain ⟨stays, _⟩ | ⟨_, _, feeds⟩ := leaveFeed_cases s b
  · rw [bay_convert_other _ _ b _ (twinOf_ne b), bay_turnTo_twin, stays]
  · exact absurd feeds still

/-- A bay that is neither eligible nor feeding keeps all but its window at the switch to its twin. -/
theorem bay_feedLost_left {s : State} {b : BayId} (cause : FeedCause) (unfit : s.eligible b = false)
    (still : (s.bay b).state ≠ .feeding) {α : Type} (p : Bay → α)
    (hp : ∀ y : Bay, p { y with sense := y.sense.emptyWindow } = p y) :
    p ((s.feedLost b cause).bay b) = p (s.bay b) := by
  have twin := twinOf_twinOf b
  have fed : p ((s.fedTo (twinOf b) cause).bay b) = p (s.bay b) := by
    have left := bay_fedTo_left (s := s) (b := twinOf b) (by rw [twin]; exact still) cause p hp
    rwa [twin] at left
  have shut : (s.fedTo (twinOf b) cause).eligible b = false := by
    have same := fedTo_unfit (s := s) (b := twinOf b) cause (by rw [twin]; exact unfit) (by rw [twin]; exact still)
    rwa [twin] at same
  unfold State.feedLost
  split
  · show p ((State.beginFeeding feedBound s (chanOf b) (twinOf b) cause).bay b) = _
    rw [← chanOf_twinOf b, beginFeeding_eq]
    split
    · exact fed
    · obtain ⟨_, fit, _⟩ | ⟨_, _, after⟩ | ⟨_, met, _⟩ | ⟨_, after⟩ :=
        afterMarks_cases (s.fedTo (twinOf b) cause) (twinOf b)
      · rw [twin, shut] at fit; exact nomatch fit
      · simp only [feedBound, after]
        show p (((s.fedTo (twinOf b) cause).drain (twinOf b)).bay b) = _
        rw [bay_drain_other _ _ _ (twinOf_ne b).symm, fed]
      · have fit := thresholdMet_twin met (feedingBay_fedTo s (twinOf b) cause)
        rw [twin, shut] at fit; exact nomatch fit
      · simp only [feedBound, after]
        exact fed
  · rfl

/-! ### An entry into FAULT (R33) -/

/-- A bay with no verdict yet is UNREAD. -/
def Bay.unread (x : Bay) : Bay :=
  if x.verdict = .none then { x with verdict := .unread, verdictReason := .none } else x

/-- A bay context as an entry into FAULT leaves it, but for the move. -/
def Bay.failing (x : Bay) : Bay :=
  { x.unread with challenge := none, tagResponse := none, expectedResponse := none, burnInFlight := none, barReason := .none }

/-- The state of `faultBay` before the move. -/
def State.failing (s : State) (b : BayId) : State :=
  ((if (s.bay b).verdict = .none then s.setVerdict b .unread .none else s).withdrawAuth b).updBay b fun x =>
    { x with burnInFlight := none, barReason := .none }

theorem faultBay_eq (s : State) (b : BayId) :
    s.faultBay b = ((s.failing b).moveBay b .fault).updBay b fun x => { x with wants := Wants.none } := rfl

theorem bay_failing (s : State) (b : BayId) : (s.failing b).bay b = (s.bay b).failing := by
  have cleared (u : State) : (u.withdrawAuth b).bay b
      = { u.bay b with challenge := none, tagResponse := none, expectedResponse := none } :=
    State.bay_updBay_self { u with auth := u.auth.withdraw b } b _
  unfold State.failing Bay.failing Bay.unread
  rw [State.bay_updBay_self, cleared]
  split
  · rw [bay_setVerdict_self]
  · rfl

theorem failing_outside (s : State) (b : BayId) : (s.failing b).outside = s.outside := by
  unfold State.failing
  show (State.withdrawAuth _ b).outside = _
  rw [withdrawAuth_outside]
  split
  · exact setVerdict_outside ..
  · rfl

theorem faultBay_outside (s : State) (b : BayId) : (s.faultBay b).outside = s.outside := by
  rw [faultBay_eq]
  exact (moveBay_keeps _ b .fault (·.outside) (fun _ _ => rfl) fun _ _ => rfl).trans (failing_outside s b)

/-- A field that neither the move nor the wants change is the failing bay's. -/
theorem bay_faultBay (s : State) (b : BayId) :
    ∃ n, (s.faultBay b).bay b = { (s.bay b).failing.moved .fault n with wants := Wants.none } := by
  refine ⟨(s.failing b).outside.now + sensePeriodOf ((s.failing b).profileOf b) * 1000000, ?_⟩
  rw [faultBay_eq, State.bay_updBay_self, bay_moveBay_self, bay_failing]

/-- A bay that moves raises BAY (R35). -/
theorem notified_moveBay {s : State} {b : BayId} {st : BayState} (h : (s.bay b).state ≠ st) :
    (s.moveBay b st).notified .bay = true := by
  have raised (f : Bay → Bay) : ((s.updBay b f).raise .bay).notified .bay = true := by
    rw [notified_raise]; exact Bool.or_true _
  have level (u : State) (k : u.notified .bay = true) :
      (if st = .drained then u.raise .level else u).notified .bay = true := by
    split
    · rw [notified_raise, k]; rfl
    · exact k
  have on := level _ (raised fun x => { x with state := st })
  unfold State.moveBay
  simp only [if_neg h]
  split
  · exact on
  · split <;> exact on

theorem unread_state (x : Bay) : x.unread.state = x.state := by
  unfold Bay.unread; split <;> rfl

theorem notified_faultBay {s : State} {b : BayId} (h : (s.bay b).state ≠ .fault) :
    (s.faultBay b).notified .bay = true := by
  rw [faultBay_eq]
  refine notified_moveBay (s := s.failing b) ?_
  rw [bay_failing]
  exact (unread_state _).trans_ne h

/-- What an entry into FAULT leaves of a bay (R33). -/
structure Faulted (x y : Bay) : Prop where
  state    : y.state = .fault
  wants    : y.wants = Wants.none
  pending  : y.pending = x.pending
  tagGauge : y.tagGauge = x.tagGauge
  book     : y.book = x.book
  identity : y.identity = x.identity
  entry    : y.entry = x.entry
  held     : y.sense.held = x.sense.held
  reason   : y.barReason = .none
  burn     : y.burnInFlight = none
  verdict  : y.verdict = if x.verdict = .none then .unread else x.verdict

theorem faulted_faultBay (s : State) (b : BayId) : Faulted (s.bay b) ((s.faultBay b).bay b) := by
  obtain ⟨n, e⟩ := bay_faultBay s b
  have unread {α : Type} (p : Bay → α)
      (h : ∀ x : Bay, p { x with verdict := .unread, verdictReason := .none } = p x) :
      p (s.bay b).unread = p (s.bay b) := by
    unfold Bay.unread
    split
    · exact h _
    · rfl
  rw [e]
  refine ⟨moved_state .., rfl, (moved_pending ..).trans (unread Bay.pending fun _ => rfl),
    (moved_tagGauge ..).trans (unread Bay.tagGauge fun _ => rfl), (moved_book ..).trans (unread Bay.book fun _ => rfl),
    (moved_identity ..).trans (unread Bay.identity fun _ => rfl), (moved_entry ..).trans (unread Bay.entry fun _ => rfl),
    (moved_held ..).trans (unread (·.sense.held) fun _ => rfl), moved_barReason .., moved_burnInFlight ..,
    (moved_verdict ..).trans ?_⟩
  show (s.bay b).unread.verdict = _
  unfold Bay.unread
  split <;> rfl

/-- FAULT leaves a bay unfit. -/
theorem unfit_of_fault {s : State} {b : BayId} (h : (s.bay b).state = .fault) : s.eligible b = false :=
  (not_eligible_iff s b).mpr fun k => by rw [h] at k; exact nomatch k

/-- The twin of a bay that fails is as it was before the event, and so is the channel. -/
theorem alike_faultBay (s : State) (b : BayId) : FedAlike (twinOf b) s (s.faultBay b) :=
  (onlyBay_faultBay s b).fedAlike (by rw [faultBay_outside])

/-- A bay that enters FAULT, its feed passed on (R33, R103). -/
theorem enterFault_leaves {s : State} {b : BayId} (h : (s.bay b).state ≠ .fault) :
    Faulted (s.bay b) ((s.enterFault b).bay b) ∧ (s.enterFault b).notified .bay = true
      ∧ ((s.bay b).state = .feeding → s.PassesFeed (s.enterFault b) b .fault .fault) := by
  have noticed := notified_faultBay h
  have failed := faulted_faultBay s b
  have unfit := unfit_of_fault failed.state
  have still : ((s.faultBay b).bay b).state ≠ .feeding := by rw [failed.state]; exact nofun
  rw [enterFault_eq, if_neg h]
  split
  · have kept {α : Type} (p : Bay → α) (hp : ∀ y : Bay, p { y with sense := y.sense.emptyWindow } = p y) :=
      bay_feedLost_left .fault unfit still p hp
    refine ⟨⟨(kept Bay.state fun _ => rfl).trans failed.state, (kept Bay.wants fun _ => rfl).trans failed.wants,
      (kept Bay.pending fun _ => rfl).trans failed.pending, (kept Bay.tagGauge fun _ => rfl).trans failed.tagGauge,
      (kept Bay.book fun _ => rfl).trans failed.book, (kept Bay.identity fun _ => rfl).trans failed.identity,
      (kept Bay.entry fun _ => rfl).trans failed.entry, (kept (·.sense.held) fun _ => rfl).trans failed.held,
      (kept Bay.barReason fun _ => rfl).trans failed.reason, (kept Bay.burnInFlight fun _ => rfl).trans failed.burn,
      (kept Bay.verdict fun _ => rfl).trans failed.verdict⟩,
      ((steps_feedLost _ b .fault).notified .bay).1 noticed, fun _ => ?_⟩
    exact feedLost_passes .fault (alike_faultBay s b) unfit still
  · next idle => exact ⟨failed, noticed, fun k => absurd k idle⟩

theorem enterFault_state (s : State) (b : BayId) : ((s.enterFault b).bay b).state = .fault := by
  by_cases h : (s.bay b).state = .fault
  · rw [enterFault_eq, if_pos h, h]
  · exact (enterFault_leaves h).1.state

end Sys2Proof.Machine
end

section
/-! SUPPORT. A ticket that is alone in its bay's order list, and transactions discarded at a limit (R88, R139 to R142,
R189, R209). -/

namespace Sys2Proof.Machine

/-! ### A bay that is not decided on keeps its state while tickets are answered -/

/-- Every bay that is not decided on keeps its state. -/
def UndecidedStays (s t : State) : Prop :=
  ∀ x, (s.bay x).state.decided = false → (t.bay x).state = (s.bay x).state

theorem UndecidedStays.trans {s t u : State} (h : UndecidedStays s t) (k : UndecidedStays t u) : UndecidedStays s u := by
  intro x d
  have same := h x d
  exact (k x (by rw [same]; exact d)).trans same

theorem undecidedStays_of_bays {s t : State} (h : t.bays = s.bays) : UndecidedStays s t := fun x _ => by
  simp only [State.bay, h]

theorem undecidedStays_updBay (s : State) (b : BayId) (f : Bay → Bay) (h : ∀ x, (f x).state = x.state) :
    UndecidedStays s (s.updBay b f) := fun x _ => by
  rw [bay_updBay]
  split
  · exact h _
  · rfl

theorem undecidedStays_carryOutClear (s : State) (b : BayId) (a : Args) : UndecidedStays s (s.carryOutClear b a).1 := by
  have dropped (u : State) : UndecidedStays u (if (u.bay b).sense.held = 0#5 then
      u.updBay b fun x => { x with sense := { x.sense with snapshot := none } } else u) := by
    split
    · exact undecidedStays_updBay u b _ fun _ => rfl
    · exact fun _ _ => rfl
  have cleared (set : HeldSet) : UndecidedStays s (s.updBay b fun x =>
      { x with sense := { x.sense with held := x.sense.held &&& ~~~set } }) := undecidedStays_updBay s b _ fun _ => rfl
  have emptied (u : State) : UndecidedStays u (u.emptyWindow b) := undecidedStays_updBay u b _ fun _ => rfl
  unfold State.carryOutClear
  split
  · exact fun _ _ => rfl
  · next set _ =>
    split
    · exact fun _ _ => rfl
    · unfold State.clearFlags
      simp only
      have before := ((cleared set).trans (emptied _)).trans (dropped _)
      split
      · exact before.trans fun x => (steps_reevaluate _ b).undecided
      · exact before

theorem undecidedStays_serveList (b : BayId) (l : List SlotId) (s : State) :
    UndecidedStays s (State.serveList b l s) := by
  have answered (u : State) (k : SlotId) (a : Answer) : UndecidedStays u (u.writeAnswer k a) :=
    undecidedStays_of_bays (State.writeAnswer_bays ..)
  induction l generalizing s with
  | nil => exact undecidedStays_of_bays rfl
  | cons k l ih =>
    unfold State.serveList
    split
    · exact ih s
    · split
      · exact ((undecidedStays_carryOutClear s b _).trans (answered _ k _)).trans (ih _)
      · split
        · exact (answered s k _).trans (ih _)
        · exact undecidedStays_of_bays rfl

/-- What the end of a ticket leaves: engines, self-test record, pending notices and the states of bays that are not
decided on. -/
theorem finishTicket_keeps (s : State) (k : SlotId) (a : Answer) :
    (s.finishTicket k a).engines = s.engines ∧ (s.finishTicket k a).selfTest = s.selfTest
      ∧ (∀ n, s.notified n = true → (s.finishTicket k a).notified n = true)
      ∧ UndecidedStays s (s.finishTicket k a) := by
  unfold State.finishTicket
  split
  · exact ⟨rfl, rfl, fun _ => id, fun _ _ => rfl⟩
  · split
    · exact ⟨State.writeAnswer_engines .., State.writeAnswer_selfTest ..,
        fun n => notified_of_notices (answer_writeAnswer 0 s k a).notices, undecidedStays_of_bays (State.writeAnswer_bays ..)⟩
    · next b _ =>
      have served := answer_serveBay (s.holdResult k a) b
      exact ⟨served.engines, served.selfTest, fun n => notified_of_notices (s := s.holdResult k a) served.notices,
        undecidedStays_serveList b _ (s.holdResult k a)⟩

/-! ### A ticket alone in its order list (R189) -/

/-- The slot and the emptied order list of a ticket that was alone in it, once its result is ready. -/
theorem finishTicket_alone {s : State} {b : BayId} {k : SlotId} {kind : Word} (alone : s.AloneAt b k kind)
    (other : kind ≠ Kind.clearHeld.code) (a : Answer) :
    s.finishTicket k a = ((s.holdResult k a).writeAnswer k a).setOrder b [] := by
  obtain ⟨_, order, tk, copy, same, names⟩ := alone
  have held : ((s.holdResult k a).slot k).copy = some { tk with result := some a } := by
    rw [State.holdResult, State.slot_updSlot_self, copy]
    rfl
  have list : (s.holdResult k a).port.bayOrder[b] = [k] := order
  unfold State.finishTicket
  simp only [copy, names, State.serveBay, list, State.serveList, held, same, other, if_false]

theorem finishTicket_alone_leaves {s : State} {b : BayId} {k : SlotId} {kind : Word} (alone : s.AloneAt b k kind)
    (other : kind ≠ Kind.clearHeld.code) (a : Answer) :
    (s.finishTicket k a).port.bayOrder[b] = [] ∧ ((s.finishTicket k a).slot k).hand = .answered
      ∧ ((s.finishTicket k a).slot k).status = a.word ∧ ((s.finishTicket k a).slot k).answer = a.area
      ∧ ∀ c, FeedRead c s (s.finishTicket k a) := by
  have taken : ((s.holdResult k a).slot k).hand = .taken := by
    rw [State.holdResult, State.slot_updSlot_self]
    exact alone.1
  have slot : ((s.finishTicket k a).slot k) = ((s.holdResult k a).slot k).answered a := by
    rw [finishTicket_alone alone other]
    exact State.slot_writeAnswer_self _ k a taken
  obtain ⟨_, _, noticed, _⟩ := finishTicket_keeps s k a
  refine ⟨?_, by rw [slot]; rfl, by rw [slot]; rfl, by rw [slot]; rfl, fun c => ⟨?_, fun x _ => ?_, noticed _⟩⟩
  · rw [finishTicket_alone alone other]
    exact updAt_self ..
  · rw [finishTicket_alone alone other]
    show (State.chan _ c) = _
    simp only [State.chan]
    exact congrArg (·[c]) (State.writeAnswer_channels ..)
  · have bays : (s.finishTicket k a).bays = s.bays := by
      rw [finishTicket_alone alone other]
      exact State.writeAnswer_bays ..
    simp only [State.bay, bays, and_self]

/-! ### Discards (R142) -/

/-- The counts of an engine: retries, and discards with the last one's bay and cause. -/
def Engine.tallies (x : Engine) : Word × Nat × Option BayId × DiscardCause :=
  (x.retryTally, x.discardCount, x.lastDiscardBay, x.lastDiscardCause)

/-- The state in which a transaction has been counted as discarded, its engine idle. -/
def State.discarded (s : State) (e : EngId) (b : BayId) (cause : DiscardCause) : State :=
  (s.updEng e fun x =>
    { x with discardCount := satAdd top16 x.discardCount 1, lastDiscardBay := some b, lastDiscardCause := cause }).idleEngine e

theorem eng_of_engines {s t : State} (h : t.engines = s.engines) (e : EngId) : t.eng e = s.eng e := by
  simp only [State.eng, h]

theorem eng_discarded (s : State) (e : EngId) (b : BayId) (cause : DiscardCause) :
    (s.discarded e b cause).eng e = { s.eng e with
      activity := .idle, discardCount := satAdd top16 (s.eng e).discardCount 1, lastDiscardBay := some b
      lastDiscardCause := cause } := by
  unfold State.discarded State.idleEngine
  rw [State.eng_updEng_self, State.eng_updEng_self]

theorem tallies_leaveQueue (s : State) (e : EngId) (k : SlotId) :
    ((s.leaveQueue e k).eng e).tallies = (s.eng e).tallies := by
  unfold State.leaveQueue State.fillQueue
  show ((State.updEng _ e _).eng e).tallies = _
  rw [State.eng_updEng_self, State.eng_updEng_self]
  rfl

theorem KeptAtEnd.bayOrder {s t : State} (h : KeptAtEnd s t) : t.port.bayOrder = s.port.bayOrder :=
  (congrArg Port.bayOrder h.port :)

theorem KeptAtEnd.tallies {s t : State} (h : KeptAtEnd s t) (e : EngId) : (t.eng e).tallies = (s.eng e).tallies :=
  (congrArg Engine.tallies (h.engines e) :)

/-- The owner of a discarded transaction leaves the engine's counts alone. -/
theorem tallies_handDiscard (s : State) (e : EngId) (t : Transaction) :
    ((s.handDiscard e t).eng e).tallies = (s.eng e).tallies := by
  have fault (u : State) : (u.enterFault t.bay).eng e = u.eng e := eng_of_engines (channel_enterFault u t.bay).engines e
  have finish (u : State) (k : SlotId) (a : Answer) : (u.finishTicket k a).eng e = u.eng e :=
    eng_of_engines (finishTicket_keeps u k a).1 e
  unfold State.handDiscard
  split
  iterate 5 rw [fault]
  · unfold State.endHeadTicket
    split
    · rw [finish, tallies_leaveQueue]
    · rfl
  · split
    · rfl
    · simp only
      rw [finish, fault]
      exact tallies_leaveQueue s e _

/-- An attempt that reaches a limit discards its transaction (R139, R140). -/
theorem exec_discards {e : EngId} {time : Nat} {cmd : Instr} {cause : DiscardCause} {tr : Transaction} {s : State}
    (flies : (s.eng e).activity = .attempt tr)
    (limit : cause = .failures ∧ 31 ≤ tr.failureRun ∧
        (cmd = .answerWindowTimeout e time ∨ ∃ r f, cmd = .tagAnswerFrame e r time
          ∧ s.received tr.bay r = some f ∧ classify tr.command f = .crcBad)
      ∨ cause = .busyLimit ∧ tr.firstAttempt + 100000 ≤ max s.outside.now time ∧
        ∃ r f, cmd = .tagAnswerFrame e r time ∧ s.received tr.bay r = some f
          ∧ classify tr.command f = .busy) :
    ∃ t : Transaction, t.bay = tr.bay ∧ t.origin = tr.origin
      ∧ exec cmd s = .next ((((s.atTime time).discarded e tr.bay cause).handDiscard e t).endTimed s) := by
  obtain ⟨rfl, run, how⟩ | ⟨rfl, late, r, f, rfl, hears, busy⟩ := limit
  · refine ⟨{ tr with failureRun := tr.failureRun + 1 }, rfl, rfl, ?_⟩
    have most : Config.failureLimit ≤ tr.failureRun + 1 := Nat.succ_le_succ run
    obtain rfl | ⟨r, f, rfl, hears, bad⟩ := how
    · rw [exec_answerWindowTimeout flies, State.endAttempt]
      simp only [most, if_true]
      rfl
    · rw [exec_tagAnswerFrame flies hears, bad, State.endAttempt]
      simp only [most, if_true]
      rfl
  · refine ⟨tr, rfl, rfl, ?_⟩
    have past : tr.firstAttempt + Config.busyLimit ≤ (s.atTime time).outside.now := late
    rw [exec_tagAnswerFrame flies hears, busy, State.endAttempt]
    simp only [past, if_true]
    rfl

theorem handDiscard_own {s : State} {e : EngId} {t : Transaction} (ticket : t.origin ≠ .ticket)
    (test : t.origin ≠ .selfTest) : s.handDiscard e t = s.enterFault t.bay := by
  unfold State.handDiscard
  split
  · rfl
  · rfl
  · rfl
  · rfl
  · rfl
  · next own => exact absurd own ticket
  · next own => exact absurd own test

/-- A code 9 test whose read was discarded: its entry gone, the test ended as a fail (R209). -/
def State.testFailed (s : State) (e : EngId) (k : SlotId) : State := (s.leaveQueue e k).endTest 15 .discarded

theorem handDiscard_test {s : State} {e : EngId} {t : Transaction} {q : QueueEntry} {rest : List QueueEntry}
    (own : t.origin = .selfTest) (queue : (s.eng e).queue = q :: rest) :
    s.handDiscard e t = ((s.testFailed e q.slot).enterFault t.bay).finishTicket q.slot
      (testAnswer s.selfTest.code 15 .discarded (loopDetail t.bay q.firstCopy none)) := by
  unfold State.handDiscard
  simp only [own, queue]
  rfl

theorem testAnswer_word (code result : Nat) (cause : FailCause) (detail : List Byte) :
    (testAnswer code result cause detail).word = 0x0001#16 := by
  show ((0#8 : Byte) ++ Status.code .done : Word) = 0x0001#16
  decide

/-- The bytes of a test's answer: code, result and cause (Table 12-6). -/
theorem testAnswer_bytes (code result : Nat) (cause : FailCause) (detail : List Byte) :
    byteAt (testAnswer code result cause detail).area.toList 0 = natByte code
      ∧ byteAt (testAnswer code result cause detail).area.toList 1 = natByte result
      ∧ byteAt (testAnswer code result cause detail).area.toList 2 = cause.code := by
  refine ⟨?_, ?_, ?_⟩ <;> simp [testAnswer, answerOf, fitList, byteAt]

theorem alone_of_port {s t : State} {b : BayId} {k : SlotId} {kind : Word} (alone : s.AloneAt b k kind)
    (slots : t.port.slots = s.port.slots) (orders : t.port.bayOrder = s.port.bayOrder) : t.AloneAt b k kind := by
  unfold State.AloneAt State.slot at *
  rw [slots, orders]
  exact alone

/-- Settles O51: a transaction at a limit is counted; one of the bay's own takes the bay to FAULT, and one of a test
fails the test, takes the bay to FAULT and answers the ticket at its turn. -/
theorem limitsDiscardTransactions : Obligations.LimitsDiscardTransactions := by
  intro e time cmd cause tr s flies limit
  obtain ⟨t', hbay, horigin, run⟩ := exec_discards flies limit
  have eng := eng_discarded (s.atTime time) e tr.bay cause
  have alike (b : BayId) : FedAlike b (s.atTime time) ((s.atTime time).discarded e tr.bay cause) :=
    fedAlike_of_same (s := s.atTime time) (u := (s.atTime time).discarded e tr.bay cause) rfl rfl rfl rfl b
  have bays : ((s.atTime time).discarded e tr.bay cause).bays = s.bays := rfl
  have port : ((s.atTime time).discarded e tr.bay cause).port = s.port := rfl
  have record : ((s.atTime time).discarded e tr.bay cause).selfTest = s.selfTest := rfl
  generalize (s.atTime time).discarded e tr.bay cause = u at *
  have bay (b : BayId) : u.bay b = s.bay b := by simp only [State.bay, bays]
  have last := kept_endTimed (u.handDiscard e t') s
  have counts : (((u.handDiscard e t').endTimed s).eng e).tallies = (u.eng e).tallies := by
    rw [← tallies_handDiscard u e t']
    exact last.tallies e
  rw [eng] at counts
  simp only [Engine.tallies, Prod.mk.injEq] at counts
  obtain ⟨retries, count, lastBay, lastCause⟩ := counts
  refine ⟨_, run, count, lastBay, lastCause, retries, fun ticket test fit => ?own, fun q rest test queue => ?test⟩
  case own =>
    have own := handDiscard_own (s := u) (e := e) (t := t') (by rw [horigin]; exact ticket)
      (by rw [horigin]; exact test)
    rw [own, hbay] at last ⊢
    obtain ⟨failed, noticed, passes⟩ := enterFault_leaves (s := u) (b := tr.bay) (by rw [bay]; exact fit)
    rw [bay] at failed passes
    have now := bay_endTimed_of_noWants s failed.wants
    generalize (u.enterFault tr.bay).endTimed s = t at *
    rw [now]
    exact ⟨failed.state, failed.wants, failed.pending, failed.tagGauge, failed.book, failed.identity, failed.entry,
      failed.held, failed.reason, failed.burn, failed.verdict, last.notified noticed,
      fun fed => ((passes fed).of_alike (alike _)).carry (last.feedRead _)⟩
  case test =>
    have queued : (u.eng e).queue = q :: rest := by rw [eng]; exact queue
    have own := handDiscard_test (t := t') (horigin.trans test) queued
    rw [own, hbay, record] at last ⊢
    have vbays : (u.testFailed e q.slot).bays = s.bays := bays
    have vport : (u.testFailed e q.slot).port.slots = s.port.slots
        ∧ (u.testFailed e q.slot).port.bayOrder = s.port.bayOrder := by rw [← port]; exact ⟨rfl, rfl⟩
    have vrecord : (u.testFailed e q.slot).selfTest = s.selfTest.ended 15 .discarded := by rw [← record]; rfl
    have vnoticed : (u.testFailed e q.slot).notified .test = true := by
      unfold State.testFailed State.endTest
      rw [notified_raise]
      exact Bool.or_true _
    have valike : FedAlike (twinOf tr.bay) u (u.testFailed e q.slot) :=
      fedAlike_of_same (s := u) (u := u.testFailed e q.slot) rfl rfl rfl rfl _
    generalize u.testFailed e q.slot = v at *
    have vbay : v.bay tr.bay = s.bay tr.bay := by simp only [State.bay, vbays]
    have failed := enterFault_state v tr.bay
    have touched := channel_enterFault v tr.bay
    have wport : (v.enterFault tr.bay).port.slots = s.port.slots
        ∧ (v.enterFault tr.bay).port.bayOrder = s.port.bayOrder :=
      ⟨(congrArg Port.slots touched.port).trans vport.1, (congrArg Port.bayOrder touched.port).trans vport.2⟩
    generalize ha : testAnswer s.selfTest.code 15 .discarded (loopDetail tr.bay q.firstCopy none) = a at *
    obtain ⟨_, fin, noticed, stays⟩ := finishTicket_keeps (v.enterFault tr.bay) q.slot a
    have state := (last.bayField Bay.state tr.bay fun _ => rfl).trans
      ((stays tr.bay (by rw [failed]; rfl)).trans failed)
    refine ⟨last.selfTest.trans (fin.trans (touched.selfTest.trans vrecord)),
      last.notified (noticed _ (notified_of_notices touched.notices vnoticed)), state, fun alone => ?_⟩
    obtain ⟨order, hand, status, area, read⟩ := finishTicket_alone_leaves
      (alone_of_port alone wport.1 wport.2) (by decide) a
    have slot := last.slots q.slot (.inl (by rw [hand]; exact nofun))
    obtain ⟨code, result, fails⟩ := testAnswer_bytes s.selfTest.code 15 .discarded (loopDetail tr.bay q.firstCopy none)
    have word := testAnswer_word s.selfTest.code 15 .discarded (loopDetail tr.bay q.firstCopy none)
    rw [ha] at code result fails word
    rw [slot, hand, status, area, word, code, result, fails]
    refine ⟨?_, fun fed => ?_, rfl, rfl, rfl, rfl, rfl⟩
    · rw [last.bayOrder, order]
    · obtain ⟨_, _, passes⟩ := enterFault_leaves (s := v) (b := tr.bay) (by rw [vbay, fed]; exact nofun)
      exact ((((passes (by rw [vbay]; exact fed)).of_alike valike).of_alike (alike _)).carry (read _)).carry (last.feedRead _)

end Sys2Proof.Machine
end

section
/-! SUPPORT. What a re-evaluation leaves of a bay that fails a condition or fits (R31), and what the end of an event leaves
of ALERT and of the entries. -/

namespace Sys2Proof.Machine

/-! ### A re-evaluation (R31, R103) -/

/-- A decided bay that fails a condition with a reason is barred, and its feed passes on or closes. -/
theorem reevaluate_bars {s : State} {b : BayId} (decided : (s.bay b).state.decided = true)
    (left : (s.bay b).state ≠ .drained) (fails : s.meetsConditions b = false)
    (ink : (s.bay b).gaugeKnown = true → (s.bay b).book ≠ 0) :
    ((s.reevaluate b).bay b).state = .barred ∧ ((s.reevaluate b).bay b).barReason = s.barReasonOf b
      ∧ ((s.bay b).state = .feeding → s.PassesFeed (s.reevaluate b) b .barred .barred) := by
  have goes : (s.bay b).ineligibleState = .barred := if_neg fun ⟨known, empty⟩ => ink known empty
  have noted : OnlyBay b s (s.updBay b fun x => { x with barReason := s.barReasonOf b }) := onlyBay_updBay s b _
  have only := noted.trans (onlyBay_moveBay _ b .barred)
  have now : ((s.updBay b fun x => { x with barReason := s.barReasonOf b }).moveBay b .barred).outside.now = s.outside.now :=
    moveBay_keeps _ b .barred (·.outside.now) (fun _ _ => rfl) fun _ _ => rfl
  have merit : SameMerit s ((s.updBay b fun x => { x with barReason := s.barReasonOf b }).moveBay b .barred) := by
    refine .trans ?_ (merits_moveBay _ b .barred)
    refine ⟨rfl, fun _ => rfl, fun x => ?_⟩
    rw [bay_updBay]
    split <;> rfl
  have bay := bay_moveBay_self (s.updBay b fun x => { x with barReason := s.barReasonOf b }) b .barred
  rw [State.bay_updBay_self] at bay
  have eq : s.reevaluate b
      = if (s.bay b).state = .feeding then
          ((s.updBay b fun x => { x with barReason := s.barReasonOf b }).moveBay b .barred).feedLost b .barred
        else (s.updBay b fun x => { x with barReason := s.barReasonOf b }).moveBay b .barred := by
    unfold State.reevaluate
    simp only [decided, fails, left, if_true, if_false, State.bay_updBay_self, Bay.ineligibleState,
      Bool.false_eq_true]
    have same : (if (s.bay b).gaugeKnown = true ∧ (s.bay b).book = 0 then BayState.drained else .barred) = .barred := goes
    simp only [same, reduceCtorEq, if_false]
  rw [eq]
  generalize (s.updBay b fun x => { x with barReason := s.barReasonOf b }).moveBay b .barred = u at *
  have state : (u.bay b).state = .barred := by rw [bay, moved_state]
  have reason : (u.bay b).barReason = s.barReasonOf b := by rw [bay, moved_barReason]
  have unfit : u.eligible b = false := by
    simp only [State.eligible, merit.meetsConditions b (by rw [bay, moved_book]), fails, Bool.and_false]
  have still : (u.bay b).state ≠ .feeding := by rw [state]; exact nofun
  split
  · refine ⟨?_, ?_, fun _ => feedLost_passes .barred (only.fedAlike now) unfit still⟩
    · exact (bay_feedLost_left .barred unfit still Bay.state fun _ => rfl).trans state
    · exact (bay_feedLost_left .barred unfit still Bay.barReason fun _ => rfl).trans reason
  · next idle => exact ⟨state, reason, fun fed => absurd fed idle⟩

/-- A sensed bay that fits stands as it is, its reason noted. -/
theorem reevaluate_fit {s : State} {b : BayId} (sensed : (s.bay b).state.sensed = true) (fits : s.meetsConditions b = true) :
    s.reevaluate b = s.updBay b fun x => { x with barReason := s.barReasonOf b } := by
  unfold State.reevaluate
  cases state : (s.bay b).state with
  | standby | feeding => simp only [BayState.decided, fits, if_true, reduceCtorEq, if_false]
  | _ => rw [state] at sensed; exact nomatch sensed

/-- A DRAINED bay stands as it is, its reason noted. -/
theorem reevaluate_drained {s : State} {b : BayId} (drained : (s.bay b).state = .drained) :
    s.reevaluate b = s.updBay b fun x => { x with barReason := s.barReasonOf b } := by
  unfold State.reevaluate
  simp only [drained, BayState.decided, if_true]

/-- A bay that fails a condition, neither drained nor feeding, goes where Table 2-4 has it, its reason noted. -/
theorem reevaluate_unfit {s : State} {b : BayId} (decided : (s.bay b).state.decided = true)
    (left : (s.bay b).state ≠ .drained) (still : (s.bay b).state ≠ .feeding) (fails : s.meetsConditions b = false) :
    s.reevaluate b
      = (s.updBay b fun x => { x with barReason := s.barReasonOf b }).moveBay b (s.bay b).ineligibleState := by
  unfold State.reevaluate
  simp only [decided, left, still, fails, if_true, if_false, Bool.false_eq_true, State.bay_updBay_self,
    Bay.ineligibleState]

/-- A sensed bay that fits, a DRAINED bay, and a BARRED one that fails a condition with a reason keep their state. -/
theorem reevaluate_stands {s : State} {b : BayId}
    (barred : (s.bay b).state = .barred →
      s.meetsConditions b = false ∧ ((s.bay b).gaugeKnown = true → (s.bay b).book ≠ 0))
    (sensed : (s.bay b).state.sensed = true → s.meetsConditions b = true) :
    ((s.reevaluate b).bay b).state = (s.bay b).state := by
  cases decided : (s.bay b).state.decided
  case false => rw [reevaluate_undecided s b decided]
  case true =>
    cases state : (s.bay b).state
    case standby =>
      have fit : (s.bay b).state.sensed = true := by rw [state]; rfl
      rw [reevaluate_fit fit (sensed fit), State.bay_updBay_self]; exact state
    case feeding =>
      have fit : (s.bay b).state.sensed = true := by rw [state]; rfl
      rw [reevaluate_fit fit (sensed fit), State.bay_updBay_self]; exact state
    case drained =>
      rw [reevaluate_drained state, State.bay_updBay_self]
      exact state
    case barred =>
      obtain ⟨fails, ink⟩ := barred state
      exact (reevaluate_bars decided (by rw [state]; exact nofun) fails ink).1
    all_goals rw [state] at decided; exact nomatch decided

/-! ### The end of an event: port, entries and ALERT -/

theorem grant_beside (s : State) (first : Nat) (e : EngId) (w : Work) :
    (s.grant first e w).port = s.port ∧ (s.grant first e w).history = s.history
      ∧ (s.grant first e w).store = s.store := by
  cases w with
  | insertion | head | sense => exact ⟨rfl, rfl, rfl⟩
  | account x =>
    unfold State.grant
    simp only
    split
    · exact ⟨rfl, rfl, rfl⟩
    · split <;> exact ⟨rfl, rfl, rfl⟩

theorem arbitrateAll_beside (s : State) (first : Nat) :
    (s.arbitrateAll first).port = s.port ∧ (s.arbitrateAll first).history = s.history
      ∧ (s.arbitrateAll first).store = s.store := by
  have step (u : State) (e : EngId) : (u.arbitrate first e).port = u.port ∧ (u.arbitrate first e).history = u.history
      ∧ (u.arbitrate first e).store = u.store := by
    obtain h | ⟨_, w, _, h⟩ := arbitrate_cases u first e <;> rw [h]
    · exact ⟨rfl, rfl, rfl⟩
    · exact grant_beside u first e w
  have all (l : List EngId) (u : State) : (l.foldl (State.arbitrate first) u).port = u.port
      ∧ (l.foldl (State.arbitrate first) u).history = u.history
      ∧ (l.foldl (State.arbitrate first) u).store = u.store := by
    induction l generalizing u with
    | nil => exact ⟨rfl, rfl, rfl⟩
    | cons x l ih =>
      obtain ⟨port, history, store⟩ := ih (u.arbitrate first x)
      obtain ⟨port', history', store'⟩ := step u x
      exact ⟨port.trans port', history.trans history', store.trans store'⟩
  exact all _ s

/-- The end of an event raises no ALERT. -/
theorem notified_alert_endTimed (s before : State) : (s.endTimed before).notified .alert = s.notified .alert := by
  obtain ⟨port, _⟩ := arbitrateAll_beside (s.advanceStore before) s.outside.now
  have quiet (u : State) (n : Notice) (h : n = .store ∨ n = .answer) : (u.raise n).notified .alert = u.notified .alert := by
    rw [notified_raise]
    obtain rfl | rfl := h <;> exact Bool.or_false _
  have store : (s.advanceStore before).notified .alert = s.notified .alert :=
    advanceStore_keeps (·.notified .alert) (fun _ _ => rfl) (fun _ _ => rfl) quiet (fun _ _ _ => rfl) s before
  rw [← store, State.notified, State.endTimed, State.publishSince_port, port]
  rfl

/-- Unless the journal is degraded at the end, it was not before, and each live entry is followed. -/
def DueKept (s t : State) : Prop := t.store.mode ≠ .degraded → s.store.mode ≠ .degraded ∧ EntriesKept s t

theorem DueKept.refl (s : State) : DueKept s s := fun h => ⟨h, .refl s⟩

theorem DueKept.trans {s t u : State} (h : DueKept s t) (k : DueKept t u) : DueKept s u := fun mode => by
  obtain ⟨mode', follow'⟩ := k mode
  obtain ⟨mode'', follow⟩ := h mode'
  exact ⟨mode'', follow.trans follow'⟩

theorem DueKept.of_same {s t : State} (live : t.history.live = s.history.live) (mode : t.store.mode = s.store.mode) :
    DueKept s t := fun h => ⟨mode ▸ h, .of_live live⟩

theorem dueKept_makeAllDue (l : List Serial) (s : State) : DueKept s (s.makeAllDue l) := by
  unfold State.makeAllDue
  induction l generalizing s with
  | nil => exact .refl s
  | cons x l ih =>
    have store : (s.makeDue x).store = s.store := makeDue_keeps (·.store) (fun _ _ => rfl) s x
    exact DueKept.trans (fun h => ⟨by rw [← store]; exact h, entriesKept_makeDue s x⟩) (ih (s.makeDue x))

theorem dueKept_degrade (s : State) : DueKept s s.degrade := by
  unfold State.degrade
  split
  · exact .refl s
  · exact fun h => absurd rfl h

theorem dueKept_watchJournal (s : State) : DueKept s s.watchJournal := by
  have reclaim (u : State) : DueKept u u.reclaimCheck := by
    unfold State.reclaimCheck
    split
    · exact .refl u
    · split
      · exact .refl u
      · exact (DueKept.of_same rfl rfl).trans (dueKept_makeAllDue _ _)
  have waiting : DueKept s s.startWaiting := by
    unfold State.startWaiting
    split
    · next h =>
      obtain ⟨normal, _⟩ := h
      refine .trans ?_ (reclaim _)
      exact fun _ => ⟨by rw [normal]; exact nofun, .of_live rfl⟩
    · exact .refl s
  unfold State.watchJournal State.stalledTest
  split
  · exact waiting.trans (dueKept_degrade _)
  · exact waiting

theorem dueKept_advanceStore (s before : State) : DueKept s (s.advanceStore before) := by
  have noted : DueKept s (s.noteChange before) := by
    obtain h | h := noteChange_cases s before <;> rw [h]
    · exact .refl s
    · exact .of_same rfl rfl
  have started (u : State) : DueKept u u.startStore := by
    have keeps := startStore_keeps (fun x => (x.history.live, x.store.mode))
      (fun _ _ h => congrArg (Prod.mk _) (h _)) (fun _ _ _ => rfl) (fun _ _ _ => rfl) u
    exact .of_same (congrArg Prod.fst keeps :) (congrArg Prod.snd keeps :)
  have flushed (u : State) : DueKept u u.flushJoining := .of_same rfl rfl
  exact ((noted.trans (dueKept_watchJournal _)).trans (flushed _)).trans (started _)

theorem dueKept_endTimed (s before : State) : DueKept s (s.endTimed before) := by
  obtain ⟨_, history, store⟩ := arbitrateAll_beside (s.advanceStore before) s.outside.now
  refine (dueKept_advanceStore s before).trans ?_
  refine .of_same ?_ ?_
  · rw [State.endTimed, State.publishSince_history, history]
  · rw [State.endTimed, State.publishSince_store, store]

/-- The live entries of two histories alike but for journal-due marks. -/
theorem KeptAtEnd.entryOf {s t : State} (h : KeptAtEnd s t) {serial : Serial} {e : Entry}
    (found : s.entryOf serial = some e) : ∃ x, t.entryOf serial = some x ∧ x.content = e.content := by
  have find (u : State) : (u.history.live.map Entry.content).find? (fun e => e.serial == serial)
      = (u.entryOf serial).map Entry.content := List.find?_map ..
  have both := (find t).symm.trans ((congrArg (List.find? _) h.history).trans (find s))
  rw [found] at both
  exact Option.map_eq_some_iff.mp both

end Sys2Proof.Machine
end

section
/-! SUPPORT. A held flag that sets: the figures, the entry, ALERT and the state it leaves (R52, R125 to R131). -/

namespace Sys2Proof.Machine

/-! ### The bay of a flag that sets -/

theorem hasKind_or (x y : HeldSet) (k : HeldKind) : hasKind (x ||| y) k = (hasKind x k || hasKind y k) := by
  rw [Bool.eq_iff_iff, Bool.or_eq_true]
  simp only [hasKind, bne_iff_ne]
  rw [BitVec.and_comm, BitVec.and_or_distrib_left, ne_eq, BitVec.or_eq_zero_iff, BitVec.and_comm, BitVec.and_comm k.bit y]
  tauto

theorem hasKind_bit (k k' : HeldKind) : hasKind k.bit k' = decide (k' = k) := by
  cases k <;> cases k' <;> decide

/-- The consequence verdict of a kind, where it is stronger than the bay's (R29, Table 7-3). -/
def Bay.judged (x : Bay) (k : HeldKind) : Option (Verdict × VerdictReason) :=
  k.consequence.filter fun c => decide (x.verdict.strength < c.1.strength)

/-- A bay with a held flag set and its snapshot. -/
def Bay.holding (x : Bay) (k : HeldKind) : Bay :=
  { x with sense := { x.sense with
      held := x.sense.held ||| k.bit, snapshot := some (x.sense.snapshot.getD (x.snapshotFor k)) } }

/-- A bay that takes a consequence verdict; FOREIGN drops the burn want. -/
def Bay.taking (x : Bay) : Option (Verdict × VerdictReason) → Bay
  | none => x
  | some (v, r) =>
    { x with verdict := v, verdictReason := r, wants := { x.wants with burn := x.wants.burn && decide (v ≠ .foreign) } }

/-- A bay whose REFILL_MARK want is raised where it is due (R38). -/
def Bay.wanting (x : Bay) (latch : Bool) : Bay :=
  { x with wants := { x.wants with refillMark := x.wants.refillMark || latch && x.refillMarkDue } }

theorem bay_holdFlag (s : State) (b : BayId) (k : HeldKind) : (s.holdFlag b k).bay b = (s.bay b).holding k := by
  rw [State.holdFlag, State.bay_updBay_self, Bay.holding]
  cases (s.bay b).sense.snapshot <;> rfl

theorem bay_alertFlag (s : State) (b : BayId) (k : HeldKind) : (s.alertFlag b k).bay b = s.bay b := by
  unfold State.alertFlag
  split <;> rfl

theorem judgeFlag_none {s : State} {b : BayId} {k : HeldKind} (h : (s.bay b).judged k = none) : s.judgeFlag b k = s := by
  unfold State.judgeFlag
  split
  · next v r consequence =>
    have weak : ¬ (s.bay b).verdict.strength < v.strength := by
      simpa [Bay.judged, consequence, Option.filter] using h
    exact if_neg weak
  · rfl

theorem judgeFlag_some {s : State} {b : BayId} {k : HeldKind} {v : Verdict} {r : VerdictReason}
    (h : (s.bay b).judged k = some (v, r)) :
    s.judgeFlag b k = s.applyConsequence b v r ∧ (s.bay b).verdict.strength < v.strength := by
  obtain ⟨consequence, stronger⟩ := Option.filter_eq_some_iff.mp h
  exact ⟨by simp only [State.judgeFlag, consequence], of_decide_eq_true stronger⟩

/-- A stronger consequence verdict taken, but for the entry. -/
def State.takeVerdict (s : State) (b : BayId) (v : Verdict) (r : VerdictReason) : State :=
  if v = .foreign then (s.setVerdict b v r).updBay b fun x => { x with wants := { x.wants with burn := false } }
  else s.setVerdict b v r

theorem applyConsequence_eq {s : State} {b : BayId} {v : Verdict} {r : VerdictReason}
    (stronger : (s.bay b).verdict.strength < v.strength) :
    s.applyConsequence b v r
      = match ((s.takeVerdict b v r).bay b).entry with
        | none => s.takeVerdict b v r
        | some serial => ((s.takeVerdict b v r).updEntry serial fun e => { e with verdict := v }).makeDue serial := by
  unfold State.applyConsequence
  rw [if_pos stronger]
  rfl

theorem bay_takeVerdict (s : State) (b : BayId) (v : Verdict) (r : VerdictReason) :
    (s.takeVerdict b v r).bay b = (s.bay b).taking (some (v, r)) := by
  unfold State.takeVerdict Bay.taking
  split
  · next foreign => simp only [State.bay_updBay_self, bay_setVerdict_self, foreign, ne_eq, not_true, decide_false, Bool.and_false]
  · next other => simp only [bay_setVerdict_self, ne_eq, other, not_false_eq_true, decide_true, Bool.and_true]

theorem bay_judgeFlag (s : State) (b : BayId) (k : HeldKind) :
    (s.judgeFlag b k).bay b = (s.bay b).taking ((s.bay b).judged k) := by
  cases h : (s.bay b).judged k with
  | none => rw [judgeFlag_none h]; rfl
  | some c =>
    obtain ⟨v, r⟩ := c
    obtain ⟨eq, stronger⟩ := judgeFlag_some h
    rw [eq, applyConsequence_eq stronger, ← bay_takeVerdict]
    split
    · rfl
    · simp only [State.bay, makeDue_bays]; rfl

theorem bay_showFlag (s : State) (b : BayId) (k : HeldKind) (x : BayId) : (s.showFlag b k).bay x = s.bay x := by
  unfold State.showFlag
  split
  · simp only [State.bay, setSeen_bays]
  · rfl

theorem bay_raiseRefillMarkWant (s : State) (b : BayId) : (s.raiseRefillMarkWant b).bay b = (s.bay b).wanting s.latch := by
  rw [raiseRefillMarkWant_eq, State.bay_updBay_self]
  rfl

/-- The bay context of a flag that sets, before its re-evaluation. -/
theorem bay_setFlag (s : State) (b : BayId) (k : HeldKind) :
    (s.setFlag b k).bay b = (((s.bay b).holding k).taking ((s.bay b).judged k)).wanting s.latch := by
  have same : ((s.bay b).holding k).judged k = (s.bay b).judged k := rfl
  have latch : ((((s.holdFlag b k).alertFlag b k).judgeFlag b k).showFlag b k).latch = s.latch := by
    refine Eq.symm ?_
    rw [← (adjusts_setFlag s b k).latch]
    exact (adjusts_raiseRefillMarkWant _ b).latch
  unfold State.setFlag
  rw [bay_raiseRefillMarkWant, latch, bay_showFlag, bay_judgeFlag, bay_alertFlag, bay_holdFlag, same]

theorem taking_sense (x : Bay) (n : Option (Verdict × VerdictReason)) : (x.taking n).sense = x.sense := by
  unfold Bay.taking
  split <;> rfl

theorem sense_setFlag (s : State) (b : BayId) (k : HeldKind) :
    ((s.setFlag b k).bay b).sense = ((s.bay b).holding k).sense := by
  rw [bay_setFlag]
  exact taking_sense ..

/-- A check leaves its kind held, and every other kind as it was. -/
theorem hasKind_fireCheck (s : State) (b : BayId) (k k' : HeldKind) :
    hasKind ((s.fireCheck b k).bay b).sense.held k'
      = (hasKind (s.bay b).sense.held k' || decide (k' = k)) := by
  rw [fireCheck_eq]
  split
  · next set =>
    by_cases same : k' = k
    · rw [same, set]; rfl
    · rw [decide_eq_false same, Bool.or_false]
  · have aside := (steps_reevaluate (s.setFlag b k) b).aside b
    rw [show ((State.reevaluate (s.setFlag b k) b).bay b).sense.held = ((s.setFlag b k).bay b).sense.held from
      congrArg (·.sense.held) aside, sense_setFlag, ← hasKind_bit k k']
    exact hasKind_or ..

/-- A check leaves the live flags, and an empty window empty. -/
theorem window_fireCheck (s : State) (b : BayId) (k : HeldKind) :
    ((s.fireCheck b k).bay b).sense.liveRefill = (s.bay b).sense.liveRefill
      ∧ ((s.fireCheck b k).bay b).sense.liveLeak = (s.bay b).sense.liveLeak
      ∧ ((s.bay b).sense.WindowEmpty → ((s.fireCheck b k).bay b).sense.WindowEmpty) := by
  rw [fireCheck_eq]
  split
  · exact ⟨rfl, rfl, id⟩
  · have steps := steps_reevaluate (s.setFlag b k) b
    have aside := steps.aside b
    have sense := sense_setFlag s b k
    exact ⟨(congrArg (·.sense.liveRefill) aside :).trans (congrArg Sense.liveRefill sense :),
      (congrArg (·.sense.liveLeak) aside :).trans (congrArg Sense.liveLeak sense :),
      fun empty => steps.window (by rw [sense]; exact empty)⟩

/-! ### What setting a flag leaves beside the bay -/

section
variable {α : Type} (p : State → α) (hh : ∀ (s : State) (f : History → History), p (s.updHist f) = p s)
include hh

theorem showFlag_keeps (s : State) (b : BayId) (k : HeldKind) : p (s.showFlag b k) = p s := by
  unfold State.showFlag
  split
  · unfold State.setSeen
    split
    · rfl
    · split
      · rfl
      · exact (makeDue_keeps p hh _ _).trans (hh s _)
  · rfl

end

section
variable {α : Type} (p : State → α) (hb : ∀ (s : State) (b : BayId) (f : Bay → Bay), p (s.updBay b f) = p s)
  (hr : ∀ s : State, p (s.raise .bay) = p s)
include hb hr

theorem takeVerdict_keeps (s : State) (b : BayId) (v : Verdict) (r : VerdictReason) : p (s.takeVerdict b v r) = p s := by
  have judged : p (s.setVerdict b v r) = p s := by
    obtain h | h := setVerdict_cases s b v r <;> rw [h]
    · exact hb s b _
    · exact (hr _).trans (hb s b _)
  unfold State.takeVerdict
  split
  · exact (hb _ b _).trans judged
  · exact judged

variable (hh : ∀ (s : State) (f : History → History), p (s.updHist f) = p s)
include hh

theorem judgeFlag_keeps (s : State) (b : BayId) (k : HeldKind) : p (s.judgeFlag b k) = p s := by
  cases h : (s.bay b).judged k with
  | none => rw [judgeFlag_none h]
  | some c =>
    obtain ⟨v, r⟩ := c
    obtain ⟨eq, stronger⟩ := judgeFlag_some h
    rw [eq, applyConsequence_eq stronger, ← takeVerdict_keeps p hb hr s b v r]
    split
    · rfl
    · exact (makeDue_keeps p hh _ _).trans (hh _ _)

theorem setFlag_keeps (s : State) (b : BayId) (k : HeldKind) :
    p (s.setFlag b k) = p ((s.holdFlag b k).alertFlag b k) := by
  unfold State.setFlag
  rw [raiseRefillMarkWant_eq, hb, showFlag_keeps p hh, judgeFlag_keeps p hb hr hh]

end

/-- ALERT is raised where the kind is selected (R130). -/
theorem alert_setFlag (s : State) (b : BayId) (k : HeldKind) :
    (s.setFlag b k).notified .alert = (s.notified .alert || s.alerts b k) := by
  have quiet (u : State) : (u.raise .bay).notified .alert = u.notified .alert := by
    rw [notified_raise]; exact Bool.or_false _
  have selected : hasKind ((s.holdFlag b k).alertSelect b) k = s.alerts b k := by
    unfold State.alertSelect State.alerts
    show hasKind (match s.profileOf b with
      | some p => p.alertSelect
      | none => 0b11111#5) k = _
    cases s.profileOf b with
    | none => cases k <;> rfl
    | some p => rfl
  rw [setFlag_keeps (·.notified .alert) (fun _ _ _ => rfl) quiet fun _ _ => rfl, State.alertFlag, selected]
  split
  · next yes => rw [notified_raise, yes]; rfl
  · next no => rw [Bool.eq_false_iff.mpr no, Bool.or_false]; rfl

theorem store_setFlag (s : State) (b : BayId) (k : HeldKind) : (s.setFlag b k).store = s.store := by
  rw [setFlag_keeps (·.store) (fun _ _ _ => rfl) (fun _ => rfl) fun _ _ => rfl, State.alertFlag]
  split <;> rfl

theorem now_setFlag (s : State) (b : BayId) (k : HeldKind) : (s.setFlag b k).outside.now = s.outside.now := by
  rw [setFlag_keeps (·.outside.now) (fun _ _ _ => rfl) (fun _ => rfl) fun _ _ => rfl, State.alertFlag]
  split <;> rfl

/-! ### The entry of a flag that sets (R52) -/

/-- The entry of a serial with a verdict and seen flags, journal-due where `due` holds. -/
def State.EntryShows (s : State) (serial : Serial) (v : Verdict) (seen : SeenSet) (due : Prop) : Prop :=
  ∃ x, s.entryOf serial = some x ∧ x.verdict = v ∧ x.seen = seen ∧ (due → x.journalDue = true)

theorem State.EntryShows.follow {s t : State} {serial : Serial} {v : Verdict} {seen : SeenSet} {due : Prop}
    (h : s.EntryShows serial v seen due) (k : EntriesKept s t) : t.EntryShows serial v seen due := by
  obtain ⟨x, found, verdict, flags, marked⟩ := h
  obtain ⟨y, found', follows⟩ := k serial x found
  exact ⟨y, found', follows.verdict.trans verdict, follows.seen.trans flags, fun d => follows.due (marked d)⟩

/-- An entry changed and made due. -/
theorem entryShows_change {s : State} {serial : Serial} {e : Entry} (found : s.entryOf serial = some e)
    (f : Entry → Entry) (keeps : ∀ e, (f e).serial = e.serial) :
    ((s.updEntry serial f).makeDue serial).EntryShows serial (f e).verdict (f e).seen (s.store.mode ≠ .degraded) := by
  have named : e.serial = serial := by simpa using List.find?_some found
  have changed : (s.updEntry serial f).entryOf serial = some (f e) := by
    rw [entryOf_updEntry s serial serial f keeps, found, Option.map_some, if_pos named]
  obtain ⟨x, found', follows⟩ := entriesKept_makeDue (s.updEntry serial f) serial serial _ changed
  refine ⟨x, found', follows.verdict, follows.seen, fun mode => ?_⟩
  obtain ⟨y, found'', due⟩ := makeDue_due (s := s.updEntry serial f) changed mode
  rw [found'] at found''
  obtain rfl := Option.some.inj found''
  exact due

theorem entry_judgeFlag {s : State} {b : BayId} {k : HeldKind} {serial : Serial} {e : Entry}
    (own : (s.bay b).entry = some serial) (found : s.entryOf serial = some e) :
    (s.judgeFlag b k).EntryShows serial ((((s.bay b).judged k).map (·.1)).getD e.verdict) e.seen
      (s.store.mode ≠ .degraded ∧ (s.bay b).judged k ≠ none) := by
  cases h : (s.bay b).judged k with
  | none =>
    rw [judgeFlag_none h]
    exact ⟨e, found, rfl, rfl, fun ⟨_, n⟩ => absurd rfl n⟩
  | some c =>
    obtain ⟨v, r⟩ := c
    obtain ⟨eq, stronger⟩ := judgeFlag_some h
    have history : (s.takeVerdict b v r).entryOf serial = some e := by
      refine Eq.trans ?_ found
      exact takeVerdict_keeps (·.entryOf serial) (fun _ _ _ => rfl) (fun _ => rfl) s b v r
    have store : (s.takeVerdict b v r).store = s.store :=
      takeVerdict_keeps (·.store) (fun _ _ _ => rfl) (fun _ => rfl) s b v r
    have still : ((s.takeVerdict b v r).bay b).entry = some serial := by rw [bay_takeVerdict]; exact own
    rw [eq, applyConsequence_eq stronger]
    simp only [still]
    obtain ⟨x, found', verdict, seen, due⟩ := entryShows_change history (fun e => { e with verdict := v }) fun _ => rfl
    exact ⟨x, found', verdict, seen, fun ⟨mode, _⟩ => due (by rw [store]; exact mode)⟩

theorem entry_showFlag {s : State} {b : BayId} {k : HeldKind} {serial : Serial} {v : Verdict} {seen : SeenSet}
    {due : Prop} (own : (s.bay b).entry = some serial) (h : s.EntryShows serial v seen due) :
    (s.showFlag b k).EntryShows serial v (seen ||| k.seenBit)
      (s.store.mode ≠ .degraded ∧ (due ∨ seen ||| k.seenBit ≠ seen)) := by
  obtain ⟨x, found, rfl, rfl, marked⟩ := h
  simp only [State.showFlag, own, State.setSeen, found]
  split
  · next same => exact ⟨x, found, rfl, same.symm, fun ⟨_, d⟩ => d.elim marked fun n => absurd same n⟩
  · obtain ⟨y, found', verdict, flags, made⟩ :=
      entryShows_change found (fun e => { e with seen := e.seen ||| k.seenBit }) fun _ => rfl
    exact ⟨y, found', verdict, flags, fun ⟨mode, _⟩ => made mode⟩

theorem entry_setFlag {s : State} {b : BayId} {k : HeldKind} {serial : Serial} {e : Entry}
    (own : (s.bay b).entry = some serial) (found : s.entryOf serial = some e) :
    (s.setFlag b k).EntryShows serial ((((s.bay b).judged k).map (·.1)).getD e.verdict) (e.seen ||| k.seenBit)
      (s.store.mode ≠ .degraded ∧ ((s.bay b).judged k ≠ none ∨ e.seen ||| k.seenBit ≠ e.seen)) := by
  have held : ((s.holdFlag b k).alertFlag b k).entryOf serial = some e := by
    unfold State.alertFlag
    split <;> exact found
  have bay : ((s.holdFlag b k).alertFlag b k).bay b = (s.bay b).holding k := by rw [bay_alertFlag, bay_holdFlag]
  have store : ((s.holdFlag b k).alertFlag b k).store = s.store := by
    unfold State.alertFlag
    split <;> rfl
  unfold State.setFlag
  rw [raiseRefillMarkWant_eq]
  generalize (s.holdFlag b k).alertFlag b k = u at *
  have judged : (u.bay b).judged k = (s.bay b).judged k := by rw [bay]; rfl
  have still : ((u.judgeFlag b k).bay b).entry = some serial := by
    rw [bay_judgeFlag, bay]
    unfold Bay.taking
    split <;> exact own
  have mode : (u.judgeFlag b k).store = s.store := by
    rw [← store]
    exact judgeFlag_keeps (·.store) (fun _ _ _ => rfl) (fun _ => rfl) (fun _ _ => rfl) u b k
  obtain ⟨x, found', verdict, seen, due⟩ := entry_showFlag (k := k) still (entry_judgeFlag (k := k) (by rw [bay]; exact own) held)
  rw [judged] at verdict due
  rw [mode, store] at due
  exact ⟨x, found', verdict, seen, fun ⟨normal, why⟩ => due ⟨normal, why.imp_left fun n => ⟨normal, n⟩⟩⟩

end Sys2Proof.Machine
end

section
/-! SUPPORT. A check that fires on a decided bay makes its held flag set (R125, R126), and what the rest of the event leaves
of it. -/

namespace Sys2Proof.Machine

/-! ### The conditions of Table 2-3 beside a new held flag -/

/-- Without the latch a bay's reason is a matter of its identity and gauge alone; under it of held kinds that bar and of
the verdict too. -/
theorem barReasonFor_congr {latch : Bool} {p : Option Profile} {x y : Bay} (identity : y.identity = x.identity)
    (known : y.gaugeKnown = x.gaugeKnown)
    (same : latch = true → y.sense.held &&& barringKinds = x.sense.held &&& barringKinds ∧ y.verdict = x.verdict) :
    barReasonFor latch p y = barReasonFor latch p x := by
  unfold barReasonFor
  rw [identity, known]
  cases latch with
  | false => rfl
  | true =>
    obtain ⟨held, verdict⟩ := same rfl
    rw [held, verdict]

theorem hold_bars {set : HeldSet} {k : HeldKind} (other : k ≠ .leakSense) : (set ||| k.bit) &&& barringKinds ≠ 0#5 := by
  intro none'
  rw [BitVec.and_comm, BitVec.and_or_distrib_left, BitVec.or_eq_zero_iff] at none'
  obtain ⟨_, bit⟩ := none'
  cases k with
  | leakSense => exact other rfl
  | _ => exact absurd bit (by decide)

theorem leak_bars_not (set : HeldSet) : (set ||| HeldKind.leakSense.bit) &&& barringKinds = set &&& barringKinds := by
  have none' : barringKinds &&& HeldKind.leakSense.bit = 0#5 := by decide
  rw [BitVec.and_comm, BitVec.and_or_distrib_left, none', BitVec.or_zero, BitVec.and_comm]

/-- A bay that fits without a barring flag is held under the latch with one. -/
theorem barReasonFor_held {p : Option Profile} {x y : Bay} (fits : barReasonFor true p x = .none)
    (identity : y.identity = x.identity) (known : y.gaugeKnown = x.gaugeKnown)
    (held : y.sense.held &&& barringKinds ≠ 0#5) : barReasonFor true p y = .held := by
  unfold barReasonFor at fits ⊢
  rw [identity, known]
  cases p with
  | none => exact nomatch fits
  | some p =>
    simp only at fits ⊢
    split at fits
    · exact nomatch fits
    · next ink =>
      split at fits
      · exact nomatch fits
      · next gauge => rw [if_neg ink, if_neg gauge, if_pos ⟨trivial, held⟩]

/-! ### A check that fires -/

/-- What a flag that sets leaves of the bay beside verdict, sense and wants. -/
theorem bay_setFlag_keeps (s : State) (b : BayId) (k : HeldKind) {α : Type} (p : Bay → α)
    (hp : ∀ (x : Bay) (v : Verdict) (r : VerdictReason) (y : Sense) (w : Wants),
      p { x with verdict := v, verdictReason := r, sense := y, wants := w } = p x) :
    p ((s.setFlag b k).bay b) = p (s.bay b) := by
  rw [bay_setFlag]
  unfold Bay.wanting Bay.taking
  split <;> exact hp (s.bay b) _ _ _ _

theorem verdict_setFlag (s : State) (b : BayId) (k : HeldKind) :
    (((s.setFlag b k).bay b).verdict, ((s.setFlag b k).bay b).verdictReason)
      = ((s.bay b).judged k).getD ((s.bay b).verdict, (s.bay b).verdictReason) := by
  rw [bay_setFlag]
  cases (s.bay b).judged k <;> rfl

/-- A check of a clear flag on a decided bay makes the flag set. -/
theorem flagSets_fireCheck {s : State} {b : BayId} {k : HeldKind} (clear : hasKind (s.bay b).sense.held k = false)
    (decided : (s.bay b).state.decided = true) :
    s.FlagSets (s.fireCheck b k) b k ((s.bay b).snapshotFor k) ((s.bay b).judged k) k.seenBit := by
  have steps := steps_reevaluate (s.setFlag b k) b
  have aside := steps.aside b
  have fired : s.fireCheck b k = (s.setFlag b k).reevaluate b := by
    rw [fireCheck_eq, clear]; rfl
  have adjusts := adjusts_setFlag s b k
  have sense := sense_setFlag s b k
  have identity := bay_setFlag_keeps s b k Bay.identity fun _ _ _ _ _ => rfl
  have known := bay_setFlag_keeps s b k Bay.gaugeKnown fun _ _ _ _ _ => rfl
  have profile : (s.setFlag b k).profileOf b = s.profileOf b := by simp only [State.profileOf, adjusts.chan]
  have holds : ((s.setFlag b k).bay b).sense.held = (s.bay b).sense.held ||| k.bit := congrArg Sense.held sense
  have unbarred (h : s.latch = false ∨ k = .leakSense) : (s.setFlag b k).meetsConditions b = s.meetsConditions b := by
    refine meetsConditions_congr ?_ adjusts.book
    unfold State.barReasonOf
    rw [profile, adjusts.latch]
    refine barReasonFor_congr identity known fun on => ?_
    obtain off | rfl := h
    · rw [off] at on; exact nomatch on
    · exact ⟨by rw [holds, leak_bars_not], (congrArg Prod.fst (verdict_setFlag s b .leakSense) :)⟩
  refine ⟨fun k' => hasKind_fireCheck s b k k', ?_, ?_, ?_, fun serial e own found => ?_, fun on other sensed fit => ?_,
    fun off barred fit => ?_, fun on refilled authenticated unmarked => ?_⟩
  · rw [fired]
    exact (congrArg (·.sense.snapshot) aside :).trans (congrArg Sense.snapshot sense)
  · rw [fired, (steps.notified .alert).2 rfl, alert_setFlag]
  · rw [fired, ← verdict_setFlag]
    exact congrArg₂ Prod.mk (congrArg (·.verdict) aside) (congrArg (·.verdictReason) aside)
  · obtain ⟨x, found', verdict, seen, due⟩ := (entry_setFlag own found).follow steps.entries
    rw [fired]
    exact ⟨x, found', verdict, seen, fun mode why => due ⟨by rwa [steps.store, store_setFlag] at mode, why⟩⟩
  · obtain ⟨_, reason, marks⟩ := (eligible_iff s b).mp fit
    have held : (s.setFlag b k).barReasonOf b = .held := by
      unfold State.barReasonOf at reason ⊢
      rw [on] at reason
      rw [profile, adjusts.latch, on]
      exact barReasonFor_held reason identity known (by rw [holds]; exact hold_bars other)
    have fails : (s.setFlag b k).meetsConditions b = false := by
      rw [State.meetsConditions, held]; rfl
    obtain ⟨state, why, passes⟩ := reevaluate_bars (s := s.setFlag b k) (by rw [adjusts.state]; exact decided)
      (by rw [adjusts.state]; intro k; rw [k] at sensed; exact nomatch sensed) fails
      (fun _ => by rw [adjusts.book]; exact marks.ne')
    rw [fired]
    exact ⟨state, why.trans held, fun fed =>
      (passes (adjusts.state.trans fed)).of_alike (adjusts.fedAlike (now_setFlag s b k))⟩
  · rw [fired, ← adjusts.state]
    refine reevaluate_stands (fun bar => ?_) fun still => ?_
    · obtain ⟨unfit, ink⟩ := barred (adjusts.state.symm.trans bar)
      rw [unbarred off, adjusts.book, known]
      exact ⟨by simpa only [State.eligible, decided, Bool.true_and] using unfit, ink⟩
    · have fits := fit (by rw [← adjusts.state]; exact still)
      rw [unbarred off]
      simpa only [State.eligible, decided, Bool.true_and] using fits
  · rw [fired]
    refine (congrArg (·.wants.refillMark) aside :).trans ?_
    obtain ⟨⟨v, r⟩, judged, rfl⟩ := Option.map_eq_some_iff.mp refilled
    rw [bay_setFlag, judged]
    have due : (((s.bay b).holding k).taking (some (.refilled, r))).refillMarkDue = true := by
      show ((s.bay b).state.decided && (s.bay b).authenticated && true && !(s.bay b).tagRefillMark) = true
      rw [decided, authenticated, unmarked]
      rfl
    simp only [Bay.wanting, on, due, Bool.and_self, Bool.or_true]
    rfl

/-! ### The rest of the event -/

/-- A flag that has set is as set when the event ends. -/
theorem State.FlagSets.endTimed {s u : State} {b : BayId} {k : HeldKind} {snap : Snapshot}
    {new : Option (Verdict × VerdictReason)} {seen : SeenSet} (h : s.FlagSets u b k snap new seen) (before : State) :
    s.FlagSets (u.endTimed before) b k snap new seen := by
  have kept := kept_endTimed u before
  have due := dueKept_endTimed u before
  have quiet := notified_alert_endTimed u before
  generalize u.endTimed before = t at *
  have state := kept.bayField Bay.state b fun _ => rfl
  refine ⟨fun k' => ?_, ?_, quiet.trans h.alert, ?_, fun serial e own found => ?_, fun on other sensed fit => ?_,
    fun off barred fit => state.trans (h.stands off barred fit),
    fun on refilled authenticated unmarked =>
      (kept.bayField (·.wants.refillMark) b fun _ => rfl).trans (h.marks on refilled authenticated unmarked)⟩
  · rw [← h.held k', (kept.bayField (·.sense.held) b fun _ => rfl :)]
  · exact (kept.bayField (·.sense.snapshot) b fun _ => rfl).trans h.snapshot
  · rw [← h.verdict, kept.bayField Bay.verdict b fun _ => rfl, kept.bayField Bay.verdictReason b fun _ => rfl]
  · obtain ⟨x, found', verdict, flags, marked⟩ := h.entry serial e own found
    obtain ⟨y, last, same⟩ := kept.entryOf found'
    refine ⟨y, last, (congrArg Entry.verdict same :).trans verdict, (congrArg Entry.seen same :).trans flags,
      fun mode why => ?_⟩
    obtain ⟨mode', follows⟩ := due mode
    obtain ⟨z, last', follow⟩ := follows serial x found'
    rw [last] at last'
    obtain rfl := Option.some.inj last'
    exact follow.due (marked mode' why)
  · obtain ⟨bars, reason, passes⟩ := h.bars on other sensed fit
    exact ⟨state.trans bars, (kept.bayField Bay.barReason b fun _ => rfl).trans reason,
      fun fed => (passes fed).carry (kept.feedRead _)⟩

/-- From `s` to `u` only what a sample stores changes of the one bay, and nothing else that a flag's setting reads. -/
structure SampleAlike (b : BayId) (s u : State) : Prop extends OnlyBay b s u where
  now      : u.outside.now = s.outside.now
  live     : u.history.live = s.history.live
  alert    : u.notified .alert = s.notified .alert
  bay      : { u.bay b with sense := (s.bay b).sense } = s.bay b
  held     : (u.bay b).sense.held = (s.bay b).sense.held
  snapshot : (u.bay b).sense.snapshot = (s.bay b).sense.snapshot

theorem SampleAlike.field {b : BayId} {s u : State} (h : SampleAlike b s u) {α : Type} (p : Bay → α)
    (hp : ∀ (x : Bay) (y : Sense), p { x with sense := y } = p x) : p (u.bay b) = p (s.bay b) := by
  rw [← hp (u.bay b) (s.bay b).sense, h.bay]

theorem SampleAlike.eligible {b : BayId} {s u : State} (h : SampleAlike b s u) : u.eligible b = s.eligible b := by
  refine eligible_congr ?_ (h.field (·.state.decided) fun _ _ => rfl) (h.field Bay.book fun _ _ => rfl)
  simp only [State.barReasonOf, State.profileOf, h.chan, h.latch]
  refine barReasonFor_merit ?_
  rw [Bay.merit, Bay.merit, h.field Bay.identity fun _ _ => rfl, h.field Bay.gaugeKnown fun _ _ => rfl, h.held,
    h.field Bay.verdict fun _ _ => rfl]

theorem State.FlagSets.of_alike {s u t : State} {b : BayId} {k : HeldKind} {snap : Snapshot}
    {new : Option (Verdict × VerdictReason)} {seen : SeenSet} (alike : SampleAlike b s u)
    (h : u.FlagSets t b k snap new seen) : s.FlagSets t b k snap new seen := by
  have state := alike.field Bay.state fun _ _ => rfl
  have find (serial : Serial) : u.entryOf serial = s.entryOf serial := by rw [State.entryOf, alike.live]; rfl
  refine ⟨fun k' => by rw [h.held, alike.held], by rw [h.snapshot, alike.snapshot], ?_, ?_, fun serial e own found => ?_,
    fun on other sensed fit => ?_, fun off barred fit => ?_, fun on refilled authenticated unmarked => ?_⟩
  · rw [h.alert, alike.alert, State.alerts, State.profileOf, alike.chan]; rfl
  · rw [h.verdict, alike.field Bay.verdict fun _ _ => rfl, alike.field Bay.verdictReason fun _ _ => rfl]
  · exact h.entry serial e ((alike.field Bay.entry fun _ _ => rfl).trans own) ((find serial).trans found)
  · obtain ⟨bars, reason, passes⟩ := h.bars (alike.latch.trans on) other (by rw [state]; exact sensed)
      (alike.eligible.trans fit)
    exact ⟨bars, reason, fun fed => (passes (state.trans fed)).of_alike (alike.toOnlyBay.fedAlike alike.now)⟩
  · rw [← state]
    refine h.stands (by rw [alike.latch]; exact off) (fun bar => ?_) fun still => ?_
    · rw [alike.eligible, alike.field Bay.gaugeKnown fun _ _ => rfl, alike.field Bay.book fun _ _ => rfl]
      exact barred (state.symm.trans bar)
    · rw [alike.eligible]
      exact fit (by rw [← state]; exact still)
  · exact h.marks (alike.latch.trans on) refilled ((alike.field Bay.authenticated fun _ _ => rfl).trans authenticated)
      ((alike.field Bay.tagRefillMark fun _ _ => rfl).trans unmarked)

end Sys2Proof.Machine
end

section
/-! SUPPORT. Flag writes and sense samples, discarded, counted or ending a window (R38, R91, R118 to R127). -/

namespace Sys2Proof.Machine

/-! ### Discards and counts -/

/-- A sample that fails a condition of R120 is discarded, with the first condition that fails. -/
theorem takeSample_discards {s : State} {b : BayId} {reading : Byte} {ok : Bool} {why : SampleDiscard}
    (h : ok = false ∧ why = .sensor
      ∨ ok = true ∧ (s.chan (chanOf b)).settleEnd ≠ none ∧ why = .settling
      ∨ ok = true ∧ (s.chan (chanOf b)).settleEnd = none
        ∧ (∀ q, s.profileOf b = some q → q.sFull = q.sEmpty) ∧ why = .uncalibrated) :
    s.takeSample b reading ok = (s.startSenseTimer b).discardSample b why := by
  unfold State.takeSample
  simp only
  have chan : (s.startSenseTimer b).chan (chanOf b) = s.chan (chanOf b) := rfl
  have profile : (s.startSenseTimer b).profileOf b = s.profileOf b := rfl
  rw [chan, profile]
  obtain ⟨rfl, rfl⟩ | ⟨rfl, settling, rfl⟩ | ⟨rfl, settled, uncalibrated, rfl⟩ := h
  · rfl
  · rw [if_neg nofun, if_pos (Option.isSome_iff_ne_none.mpr settling)]
  · have none' : calibrated (s.profileOf b) = none := by
      cases h : s.profileOf b with
      | none => rfl
      | some q => exact if_neg (not_not.mpr (uncalibrated q h))
    rw [if_neg nofun, settled, none']
    rfl

/-- A sample that meets the conditions of R120 is used. -/
theorem takeSample_uses {s : State} {b : BayId} {reading : Byte} {q : Profile}
    (settled : (s.chan (chanOf b)).settleEnd = none) (profile : s.profileOf b = some q) (set : q.sFull ≠ q.sEmpty) :
    s.takeSample b reading true = (s.startSenseTimer b).useSample b q reading := by
  have cal : calibrated (s.profileOf b) = some q := by rw [profile]; exact if_pos set
  have chan : (s.startSenseTimer b).chan (chanOf b) = s.chan (chanOf b) := rfl
  have same : (s.startSenseTimer b).profileOf b = s.profileOf b := rfl
  unfold State.takeSample
  simp only
  rw [if_neg nofun, chan, settled, same, cal]
  rfl

/-- The figures a usable sample stores (R121, R122). -/
structure Sample where
  reading  : Byte
  estimate : Nat
  apart    : Int
  cls      : SampleClass

/-- The figures of a reading for a bay under a profile. -/
def Bay.sample (x : Bay) (q : Profile) (reading : Byte) : Sample :=
  let e := estimateOf reading.toNat q.sEmpty q.sFull x.capacity
  let d := (e : Int) - x.book
  ⟨reading, e, d, classOf d q.tolerance⟩

/-- The counts of a window with a sample added (R123). -/
def Sense.counting (x : Sense) (c : SampleClass) : WindowCounts :=
  WindowCounts.add ⟨x.windowCount, x.posCount, x.negCount⟩ c

/-- A sample stored, with the counts and live flags it leaves. -/
def Sense.stored (x : Sense) (m : Sample) (w : WindowCounts) (refill leak : Bool) : Sense :=
  { x with lastDiscard := .none, lastReading := some m.reading, lastEstimate := some m.estimate
           lastDiscrepancy := some m.apart, lastClass := m.cls, windowCount := w.count, posCount := w.pos
           negCount := w.neg, liveRefill := refill, liveLeak := leak }

/-- The checks of a window's end (R127). -/
def State.fireSenseChecks (s : State) (b : BayId) (refill leak : Bool) : State :=
  let s := if refill then s.fireCheck b .refillSense else s
  if leak then s.fireCheck b .leakSense else s

/-- A sample within its window is stored and counted. -/
theorem useSample_counts {s : State} {b : BayId} {q : Profile} {reading : Byte} {m : Sample}
    (sample : (s.bay b).sample q reading = m) (within : (s.bay b).sense.windowCount + 1 < q.window) :
    s.useSample b q reading = s.updBay b fun x =>
      { x with sense := x.sense.stored m (x.sense.counting m.cls) x.sense.liveRefill x.sense.liveLeak } := by
  subst sample
  unfold State.useSample
  simp only
  refine (if_neg (Nat.not_le.mpr within)).trans ?_
  rw [updBay_updBay]
  exact updBay_congr rfl

/-- A sample that ends its window is stored, the window emptied, the live flags set and their checks fired. -/
theorem useSample_ends {s : State} {b : BayId} {q : Profile} {reading : Byte} {m : Sample} {refill leak : Bool}
    (sample : (s.bay b).sample q reading = m) (ends : q.window ≤ (s.bay b).sense.windowCount + 1)
    (pos : refill = majority ((s.bay b).sense.counting m.cls).pos q.window)
    (neg : leak = majority ((s.bay b).sense.counting m.cls).neg q.window) :
    s.useSample b q reading
      = (s.updBay b fun x => { x with sense := x.sense.stored m ⟨0, 0, 0⟩ refill leak }).fireSenseChecks b refill
          leak := by
  subst sample pos neg
  unfold State.useSample
  simp only
  refine (if_pos ends).trans ?_
  rw [updBay_updBay]
  rfl

/-! ### The checks of a window's end -/

theorem fireCheck_of_held {s : State} {b : BayId} {k : HeldKind} (h : hasKind (s.bay b).sense.held k = true) :
    s.fireCheck b k = s := by
  rw [fireCheck_eq, if_pos h]

/-- The checks of a window's end leave the live flags and the empty window, and each kind that fired held. -/
theorem fireSenseChecks_leaves (s : State) (b : BayId) (refill leak : Bool) :
    ((s.fireSenseChecks b refill leak).bay b).sense.liveRefill = (s.bay b).sense.liveRefill
      ∧ ((s.fireSenseChecks b refill leak).bay b).sense.liveLeak = (s.bay b).sense.liveLeak
      ∧ ((s.bay b).sense.WindowEmpty → ((s.fireSenseChecks b refill leak).bay b).sense.WindowEmpty)
      ∧ (refill = true → hasKind ((s.fireSenseChecks b refill leak).bay b).sense.held .refillSense = true)
      ∧ (leak = true → hasKind ((s.fireSenseChecks b refill leak).bay b).sense.held .leakSense = true) := by
  have fired (u : State) (k : HeldKind) (on : Bool) :
      ((if on then u.fireCheck b k else u).bay b).sense.liveRefill = (u.bay b).sense.liveRefill
        ∧ ((if on then u.fireCheck b k else u).bay b).sense.liveLeak = (u.bay b).sense.liveLeak
        ∧ ((u.bay b).sense.WindowEmpty → ((if on then u.fireCheck b k else u).bay b).sense.WindowEmpty)
        ∧ (on = true → hasKind ((if on then u.fireCheck b k else u).bay b).sense.held k = true)
        ∧ ∀ k', hasKind (u.bay b).sense.held k' = true →
            hasKind ((if on then u.fireCheck b k else u).bay b).sense.held k' = true := by
    cases on with
    | false => exact ⟨rfl, rfl, id, nofun, fun _ => id⟩
    | true =>
      obtain ⟨refills, leaks, window⟩ := window_fireCheck u b k
      refine ⟨refills, leaks, window, fun _ => ?_, fun k' set => ?_⟩ <;>
        refine (hasKind_fireCheck u b k _).trans ?_
      · rw [decide_eq_true rfl, Bool.or_true]
      · rw [set]; rfl
  obtain ⟨refill₁, leak₁, window₁, held₁, _⟩ := fired s .refillSense refill
  obtain ⟨refill₂, leak₂, window₂, held₂, still₂⟩ :=
    fired (if refill then s.fireCheck b .refillSense else s) .leakSense leak
  exact ⟨refill₂.trans refill₁, leak₂.trans leak₁, fun empty => window₂ (window₁ empty),
    fun on => still₂ _ (held₁ on), held₂⟩

/-- Where neither kind is live and clear, no check has an effect. -/
theorem fireSenseChecks_none {s : State} {b : BayId} {refill leak : Bool}
    (noRefill : refill = false ∨ hasKind (s.bay b).sense.held .refillSense = true)
    (noLeak : leak = false ∨ hasKind (s.bay b).sense.held .leakSense = true) : s.fireSenseChecks b refill leak = s := by
  have skip (k : HeldKind) {on : Bool} (h : on = false ∨ hasKind (s.bay b).sense.held k = true) :
      (if on then s.fireCheck b k else s) = s := by
    obtain rfl | held := h
    · rfl
    · rw [fireCheck_of_held held, ite_self]
  unfold State.fireSenseChecks
  rw [skip .refillSense noRefill]
  exact skip .leakSense noLeak

/-- Where LEAK_SENSE is not live and clear, only REFILL_SENSE is checked. -/
theorem fireSenseChecks_refill {s : State} {b : BayId} {leak : Bool}
    (noLeak : leak = false ∨ hasKind (s.bay b).sense.held .leakSense = true) :
    s.fireSenseChecks b true leak = s.fireCheck b .refillSense := by
  unfold State.fireSenseChecks
  simp only [if_true]
  obtain rfl | held := noLeak
  · rfl
  · rw [fireCheck_of_held (by rw [hasKind_fireCheck, held]; rfl), ite_self]

/-- Where REFILL_SENSE is not live and clear, only LEAK_SENSE is checked. -/
theorem fireSenseChecks_leak {s : State} {b : BayId} {refill : Bool}
    (noRefill : refill = false ∨ hasKind (s.bay b).sense.held .refillSense = true) :
    s.fireSenseChecks b refill true = s.fireCheck b .leakSense := by
  unfold State.fireSenseChecks
  simp only [if_true]
  obtain rfl | held := noRefill
  · rfl
  · rw [fireCheck_of_held held, ite_self]

/-- The consequence of REFILL_SENSE for a bay that has been judged: REFILLED where it is GENUINE. -/
theorem judged_refillSense {x : Bay} (some' : x.verdict ≠ .none) (read : x.verdict ≠ .unread) :
    x.judged .refillSense = if x.verdict = .genuine then some (.refilled, .refillSense) else none := by
  unfold Bay.judged
  cases h : x.verdict with
  | none => exact absurd h some'
  | unread => exact absurd h read
  | _ => rfl

/-- What a sample stores leaves a bay alike for the setting of a flag. -/
theorem sampleAlike_stored (s : State) (e : EngId) (time n : Nat) (b : BayId) (m : Sample) (w : WindowCounts)
    (refill leak : Bool) :
    SampleAlike b (s.atTime time) (((s.heard e time).updBay b fun x => { x with sense := { x.sense with timer := some n } }).updBay b
      fun x => { x with sense := x.sense.stored m w refill leak }) := by
  have heard : OnlyBay b (s.atTime time) (s.heard e time) := onlyBay_beside rfl rfl rfl rfl
  have bay : (s.heard e time).bay b = (s.atTime time).bay b := rfl
  refine ⟨(heard.trans (onlyBay_updBay _ b _)).trans (onlyBay_updBay _ b _), rfl, rfl, rfl, ?_, ?_, ?_⟩ <;>
    rw [State.bay_updBay_self, State.bay_updBay_self] <;> rfl

/-- A sample that ends its window, and the rest of the event (R123, R125 to R127). -/
theorem windowEnd_leaves {s : State} {e : EngId} {time : Nat} {b : BayId} {q : Profile} {reading : Byte} {m : Sample}
    {refill leak : Bool} {n : Nat} {w : State}
    (timed : w = (s.heard e time).updBay b fun x => { x with sense := { x.sense with timer := some n } })
    (sample : (s.bay b).sample q reading = m) (ends : q.window ≤ (s.bay b).sense.windowCount + 1)
    (sensed : (s.bay b).state.sensed = true)
    (pos : refill = majority ((s.bay b).sense.counting m.cls).pos q.window)
    (neg : leak = majority ((s.bay b).sense.counting m.cls).neg q.window) :
    (((w.useSample b q reading).endTimed s).bay b).sense.windowCount = 0
      ∧ (((w.useSample b q reading).endTimed s).bay b).sense.liveRefill = refill
      ∧ (((w.useSample b q reading).endTimed s).bay b).sense.liveLeak = leak
      ∧ (refill = true → hasKind (((w.useSample b q reading).endTimed s).bay b).sense.held .refillSense = true)
      ∧ (leak = true → hasKind (((w.useSample b q reading).endTimed s).bay b).sense.held .leakSense = true)
      ∧ ∀ snap : HeldKind → Snapshot,
          (∀ k, snap k = { kind := k, book := (s.bay b).book, tagGauge := (s.bay b).tagGauge
                           pending := (s.bay b).pending, estimate := some m.estimate, discrepancy := some m.apart }) →
          ((refill = false ∨ hasKind (s.bay b).sense.held .refillSense = true) →
            (leak = false ∨ hasKind (s.bay b).sense.held .leakSense = true) →
            KeptAtEnd (w.updBay b fun x => { x with sense := x.sense.stored m ⟨0, 0, 0⟩ refill leak })
              ((w.useSample b q reading).endTimed s))
          ∧ (refill = true → hasKind (s.bay b).sense.held .refillSense = false →
              (leak = false ∨ hasKind (s.bay b).sense.held .leakSense = true) →
              (s.atTime time).FlagSets ((w.useSample b q reading).endTimed s) b .refillSense (snap .refillSense)
                ((s.bay b).judged .refillSense) 0b001000#6)
          ∧ (leak = true → hasKind (s.bay b).sense.held .leakSense = false →
              (refill = false ∨ hasKind (s.bay b).sense.held .refillSense = true) →
              (s.atTime time).FlagSets ((w.useSample b q reading).endTimed s) b .leakSense (snap .leakSense) none
                0b010000#6) := by
  have alike := sampleAlike_stored s e time n b m ⟨0, 0, 0⟩ refill leak
  have wbay : w.bay b = { s.bay b with sense := { (s.bay b).sense with timer := some n } } := by
    rw [timed, State.bay_updBay_self]; rfl
  have fired := useSample_ends (s := w) (m := m) (refill := refill) (leak := leak) (by rw [wbay]; exact sample)
    (by rw [wbay]; exact ends) (by rw [wbay]; exact pos) (by rw [wbay]; exact neg)
  rw [← timed] at alike
  have vbay : (w.updBay b fun x => { x with sense := x.sense.stored m ⟨0, 0, 0⟩ refill leak }).bay b
      = { s.bay b with sense := { (s.bay b).sense with timer := some n }.stored m ⟨0, 0, 0⟩ refill leak } := by
    rw [State.bay_updBay_self, wbay]
  rw [fired]
  generalize (w.updBay b fun x => { x with sense := x.sense.stored m ⟨0, 0, 0⟩ refill leak }) = v at *
  have held : (v.bay b).sense.held = (s.bay b).sense.held := by rw [vbay]; rfl
  have decided : (v.bay b).state.decided = true := by
    rw [vbay]
    exact decided_of_sensed sensed
  have snapped (k : HeldKind) (h : k = .refillSense ∨ k = .leakSense) : (v.bay b).snapshotFor k
      = { kind := k, book := (s.bay b).book, tagGauge := (s.bay b).tagGauge, pending := (s.bay b).pending
          estimate := some m.estimate, discrepancy := some m.apart } := by
    rw [vbay]
    obtain rfl | rfl := h <;> rfl
  have sets {k : HeldKind} (h : k = .refillSense ∨ k = .leakSense) (clear : hasKind (s.bay b).sense.held k = false) :
      (s.atTime time).FlagSets ((v.fireCheck b k).endTimed s) b k _ ((v.bay b).judged k) k.seenBit :=
    .of_alike alike ((snapped k h ▸ flagSets_fireCheck (by rw [held]; exact clear) decided).endTimed s)
  have judged (k : HeldKind) : (v.bay b).judged k = (s.bay b).judged k := by rw [vbay]; rfl
  have kept := kept_endTimed (v.fireSenseChecks b refill leak) s
  obtain ⟨liveRefill, liveLeak, window, heldRefill, heldLeak⟩ := fireSenseChecks_leaves v b refill leak
  refine ⟨?_, ?_, ?_, fun on => ?_, fun on => ?_, fun snap figures => ⟨fun noRefill noLeak => ?_, fun on clear noLeak => ?_,
    fun on clear noRefill => ?_⟩⟩
  · obtain ⟨empty, _⟩ := window (by rw [vbay]; exact ⟨rfl, rfl, rfl⟩)
    exact (kept.bayField (·.sense.windowCount) b fun _ => rfl).trans empty
  · exact ((kept.bayField (·.sense.liveRefill) b fun _ => rfl).trans liveRefill).trans (by rw [vbay]; rfl)
  · exact ((kept.bayField (·.sense.liveLeak) b fun _ => rfl).trans liveLeak).trans (by rw [vbay]; rfl)
  · rw [← heldRefill on, (kept.bayField (·.sense.held) b fun _ => rfl :)]
  · rw [← heldLeak on, (kept.bayField (·.sense.held) b fun _ => rfl :)]
  · rwa [fireSenseChecks_none (by rw [held]; exact noRefill) (by rw [held]; exact noLeak)] at kept ⊢
  · subst on
    rw [fireSenseChecks_refill (by rw [held]; exact noLeak), figures, ← judged]
    exact sets (.inl rfl) clear
  · subst on
    rw [fireSenseChecks_leak (by rw [held]; exact noRefill), figures]
    exact sets (.inr rfl) clear

/-- Settles O55: a flag write marks the flag; a sample is discarded, counted, or ends its window with the checks of its
live flags, each of which sets its held flag where it was clear. -/
theorem flagWritesAndSamples : Obligations.FlagWritesAndSamples := by
  intro e time rec f tr p s u flies hears ack heard
  have ended (v : State) := kept_endTimed v s
  refine ⟨_, exec_tagAck flies hears ack time, fun own => ?depleted, fun own => ?mark, fun reading ok own level => ?sense⟩
  case depleted =>
    rw [show (s.heard e time).deliver e tr p = u.flagWritten tr.bay .depleted by
      rw [heard]; simp only [State.deliver, own]; rfl]
    exact ended _
  case mark =>
    rw [show (s.heard e time).deliver e tr p = u.flagWritten tr.bay .refillMark by
      rw [heard]; simp only [State.deliver, own]; rfl]
    exact ended _
  case sense =>
    have sampled : (s.heard e time).deliver e tr p
        = if (s.bay tr.bay).state.sensed then u.takeSample tr.bay reading ok else u := by
      rw [heard, level]; simp only [State.deliver, own]; rfl
    rw [sampled]
    refine ⟨fun unfit => ?_, fun w why fit timed => ?_⟩
    · rw [unfit]
      exact ended _
    · have started : u.startSenseTimer tr.bay = w := by rw [timed, heard]; rfl
      have wbay : (w.bay tr.bay).sense.windowCount = (s.bay tr.bay).sense.windowCount := by
        rw [timed, heard, State.bay_updBay_self]; rfl
      rw [fit, if_pos rfl]
      refine ⟨fun cause => ?discards, fun q est d cls good settled profile set hest hd hcls => ?uses⟩
      case discards =>
        rw [takeSample_discards (s := u) (b := tr.bay) (why := why) (by rw [heard]; exact cause), started]
        exact ended _
      case uses =>
        subst good
        have sample : (s.bay tr.bay).sample q reading = ⟨reading, est, d, cls⟩ := by rw [hcls, hd, hest]; rfl
        rw [takeSample_uses (s := u) (b := tr.bay) (q := q) (by rw [heard]; exact settled)
          (by rw [heard]; exact profile) set, started]
        refine ⟨fun within => ?_, fun ends => ?_⟩
        · rw [useSample_counts (s := w) (m := ⟨reading, est, d, cls⟩)
            (by rw [timed, heard, State.bay_updBay_self]; exact sample) (by rw [wbay]; exact within)]
          exact ended _
        · rw [heard] at timed
          obtain ⟨window, liveRefill, liveLeak, heldRefill, heldLeak, sets⟩ :=
            windowEnd_leaves (e := e) (time := time) timed sample ends fit rfl rfl
          refine ⟨window, liveRefill, liveLeak, fun on => heldRefill (liveRefill ▸ on), fun on => heldLeak (liveLeak ▸ on),
            fun refill leak snap hrefill hleak figures => ?_⟩
          obtain ⟨none', refills, leaks⟩ := sets snap figures
          subst hrefill hleak
          refine ⟨none', fun on clear noLeak judged read => ?_, leaks⟩
          rw [← judged_refillSense judged read]
          exact refills on clear noLeak

end Sys2Proof.Machine
end

section
/-! SUPPORT. All bays re-evaluated in turn: a bay that fails a condition beside its twin's turn, and a twin that takes
over or stays out (R31, R37, R103). -/

namespace Sys2Proof.Machine

/-! ### A bay that fails a condition, at another bay's re-evaluation -/

/-- A bay keeps book, reason and what Table 2-3 reads; its state changes only from FEEDING to STANDBY. -/
structure Beside (b : BayId) (s t : State) : Prop where
  book   : (t.bay b).book = (s.bay b).book
  reason : (t.bay b).barReason = (s.bay b).barReason
  state  : (t.bay b).state = (s.bay b).state ∨ (s.bay b).state = .feeding ∧ (t.bay b).state = .standby
  merit  : SameMerit s t

theorem Beside.refl (b : BayId) (s : State) : Beside b s s := ⟨rfl, rfl, .inl rfl, .refl s⟩

theorem Beside.trans {b : BayId} {s t u : State} (h : Beside b s t) (k : Beside b t u) : Beside b s u := by
  refine ⟨k.book.trans h.book, k.reason.trans h.reason, ?_, h.merit.trans k.merit⟩
  obtain same | ⟨fed, left⟩ := h.state
  · rw [← same]; exact k.state
  · obtain same | ⟨again, _⟩ := k.state
    · exact .inr ⟨fed, same.trans left⟩
    · rw [left] at again; exact nomatch again

theorem Beside.of_same {b : BayId} {s t : State} (bay : t.bay b = s.bay b) (merit : SameMerit s t) : Beside b s t :=
  ⟨by rw [bay], by rw [bay], .inl (by rw [bay]), merit⟩

theorem Beside.fails {b : BayId} {s t : State} (h : Beside b s t) (no : s.meetsConditions b = false) :
    t.meetsConditions b = false := (h.merit.meetsConditions b h.book).trans no

theorem unfit_of_fails {s : State} {b : BayId} (no : s.meetsConditions b = false) : s.eligible b = false := by
  rw [State.eligible, no, Bool.and_false]

theorem fails_of_reason {s : State} {b : BayId} (h : s.barReasonOf b ≠ .none) : s.meetsConditions b = false := by
  rw [State.meetsConditions, decide_eq_false h, Bool.false_and]

theorem merits_closeChannel (s : State) (c : ChanId) (cause : FeedCause) : SameMerit s (s.closeChannel c cause) := by
  refine ⟨rfl, fun x => ?_, fun _ => rfl⟩
  by_cases same : x = c
  · subst same
    show ((s.updChan x _).chan x).profile = _
    rw [State.chan_updChan_self]
  · exact congrArg Channel.profile (State.chan_updChan_other s c x _ same)

/-- A bay's twin takes up the feed beside it. -/
theorem beside_feedFrom {s : State} {y : BayId} (no : s.meetsConditions (twinOf y) = false) (cause : FeedCause) :
    Beside (twinOf y) s (s.feedFrom (chanOf y) y cause) := by
  have fed : Beside (twinOf y) s (s.fedTo y cause) := by
    obtain ⟨book, reason, ⟨_, feeds, state⟩ | ⟨_, state⟩⟩ := bay_fedTo_twin s y cause
    · exact ⟨book, reason, .inr ⟨feeds, state⟩, merits_fedTo s y cause⟩
    · exact ⟨book, reason, .inl state, merits_fedTo s y cause⟩
  have unfit := unfit_of_fails (fed.fails no)
  show Beside (twinOf y) s (State.beginFeeding feedBound s (chanOf y) y cause)
  rw [beginFeeding_eq]
  split
  · exact fed
  · obtain ⟨_, fit, _⟩ | ⟨_, _, after⟩ | ⟨_, met, _⟩ | ⟨_, after⟩ := afterMarks_cases (s.fedTo y cause) y
    · rw [unfit] at fit; exact nomatch fit
    · simp only [feedBound, after]
      have drained : Beside (twinOf y) (s.fedTo y cause) ((s.fedTo y cause).drain y) :=
        .of_same (bay_drain_other _ y _ (twinOf_ne y)) (merits_drain _ y)
      exact (fed.trans drained).trans (.of_same rfl (merits_closeChannel _ _ _))
    · have fit := thresholdMet_twin met (feedingBay_fedTo s y cause)
      rw [unfit] at fit; exact nomatch fit
    · simp only [feedBound, after]
      exact fed

/-- A bay becomes eligible beside its twin. -/
theorem beside_becameEligible {s : State} {y : BayId} (no : s.meetsConditions (twinOf y) = false) :
    Beside (twinOf y) s (s.becameEligible y) := by
  have unfit := unfit_of_fails no
  have feeds (cause : FeedCause) {z : BayId} (fit : s.eligible z = true) (own : chanOf z = chanOf y) :
      Beside (twinOf y) s (s.feedFrom (chanOf y) z cause) := by
    obtain rfl | rfl := eq_or_twin y z own
    · exact beside_feedFrom no cause
    · rw [unfit] at fit; exact nomatch fit
  unfold State.becameEligible
  simp only
  split
  · unfold State.thresholdTest
    split
    · next met =>
      split
      · next z hz => exact feeds _ (thresholdMet_twin met hz) ((chanOf_twinOf z).trans (chanOf_feedingBay s _ z hz))
      · exact .refl _ s
    · exact .refl _ s
  · split
    · next z hz => exact feeds _ (eligible_openingChoice hz) (chanOf_openingChoice s _ z hz)
    · exact .refl _ s

theorem beside_feedLost {s : State} {y : BayId} (no : s.meetsConditions (twinOf y) = false) (cause : FeedCause) :
    Beside (twinOf y) s (s.feedLost y cause) := by
  unfold State.feedLost
  rw [if_neg (by rw [unfit_of_fails no]; exact nofun)]
  exact .of_same rfl (merits_closeChannel _ _ _)

theorem merits_noteReason (s : State) (b : BayId) (r : BarReason) :
    SameMerit s (s.updBay b fun x => { x with barReason := r }) := by
  refine ⟨rfl, fun _ => rfl, fun x => ?_⟩
  rw [bay_updBay]
  split <;> rfl

/-- A bay that fails a condition stays out while another bay is re-evaluated. -/
theorem beside_reevaluate {s : State} {b x : BayId} (other : x ≠ b) (no : s.meetsConditions b = false) :
    Beside b s (s.reevaluate x) := by
  by_cases own : chanOf b = chanOf x
  case neg => exact .of_same ((touches_reevaluate s x).bays b own) (merits_reevaluate s x)
  case pos =>
    obtain rfl : b = twinOf x := (eq_or_twin x b own).resolve_left (Ne.symm other)
    have noted : Beside (twinOf x) s (s.updBay x fun y => { y with barReason := s.barReasonOf x }) :=
      .of_same (State.bay_updBay_other s x _ _ other.symm) (merits_noteReason s x _)
    have moved (st : BayState) : Beside (twinOf x) s
        ((s.updBay x fun y => { y with barReason := s.barReasonOf x }).moveBay x st) :=
      noted.trans (.of_same (bay_moveBay_other _ x _ st other.symm) (merits_moveBay _ x st))
    unfold State.reevaluate
    simp only
    split
    · split
      · exact noted
      · split
        · split
          · exact (moved _).trans (beside_becameEligible ((moved _).fails no))
          · exact noted
        · split
          · exact (moved _).trans (beside_feedLost ((moved _).fails no) _)
          · exact moved _
    · exact .refl _ s

theorem beside_foldl_reevaluate {b : BayId} {l : List BayId} (out : b ∉ l) {s : State} (no : s.meetsConditions b = false) :
    Beside b s (l.foldl State.reevaluate s) := by
  induction l generalizing s with
  | nil => exact .refl b s
  | cons x l ih =>
    obtain ⟨here, rest⟩ := not_or.mp (List.mem_cons.not.mp out)
    have step := beside_reevaluate (x := x) (Ne.symm here) no
    exact step.trans (ih rest (step.fails no))

/-! ### The turns of a channel's bays -/

/-- A bay that stands by and is eligible, or is neither eligible nor feeding: its re-evaluation moves no feed. -/
def State.Calm (s : State) (y : BayId) : Prop :=
  s.eligible y = true ∧ (s.bay y).state = .standby ∨ s.eligible y = false ∧ (s.bay y).state ≠ .feeding

/-- A bay that is neither eligible nor feeding stands as it is or moves to a decided state that is not FEEDING. -/
theorem reevaluate_out {s : State} {y : BayId} (unfit : s.eligible y = false) (still : (s.bay y).state ≠ .feeding) :
    s.reevaluate y = s ∨ ∃ st : BayState, (s.bay y).state.decided = true ∧ st.decided = true ∧ st ≠ .feeding
      ∧ s.reevaluate y = (s.updBay y fun x => { x with barReason := s.barReasonOf y }).moveBay y st := by
  cases decided : (s.bay y).state.decided
  case false => exact .inl (reevaluate_undecided s y decided)
  case true =>
    right
    by_cases drained : (s.bay y).state = .drained
    · refine ⟨.drained, rfl, rfl, nofun, (reevaluate_drained drained).trans ?_⟩
      unfold State.moveBay
      rw [State.bay_updBay_self]
      exact (if_pos drained).symm
    · have fails : s.meetsConditions y = false := by simpa only [State.eligible, decided, Bool.true_and] using unfit
      refine ⟨_, rfl, ineligibleState_decided _, ?_, reevaluate_unfit decided drained still fails⟩
      obtain ⟨goes, _⟩ | ⟨goes, _⟩ := ineligibleState_cases (s.bay y) <;> rw [goes] <;> exact nofun

theorem onlyBay_noteReason (s : State) (y : BayId) (r : BarReason) :
    OnlyBay y s (s.updBay y fun x => { x with barReason := r }) := onlyBay_updBay s y _

/-- A bay that stays decided feeds alike for its twin, its reason noted and its state changed. -/
theorem fedAlike_moveBay {s : State} {y : BayId} {st : BayState} (from' : (s.bay y).state.decided = true)
    (to' : st.decided = true) (r : BarReason) :
    FedAlike y s ((s.updBay y fun x => { x with barReason := r }).moveBay y st) := by
  have bay := bay_moveBay_self (s.updBay y fun x => { x with barReason := r }) y st
  rw [State.bay_updBay_self] at bay
  have merit := (merits_noteReason s y r).trans (merits_moveBay _ y st)
  have book : (((s.updBay y fun x => { x with barReason := r }).moveBay y st).bay y).book = (s.bay y).book := by
    rw [bay, moved_book]
  refine ⟨book, by rw [bay, moved_pending], merit.markSize y, chan_moveBay .., ?_,
    merit.eligible y (by rw [bay, moved_state, to', from']) book⟩
  exact moveBay_keeps _ y st (·.outside.now) (fun _ _ => rfl) fun _ _ => rfl

/-- The re-evaluation of a calm bay changes that bay alone, and not the figures a feed reads; the bay stays calm. -/
theorem reevaluate_calm {s : State} {y : BayId} (h : s.Calm y) :
    OnlyBay y s (s.reevaluate y) ∧ FedAlike y s (s.reevaluate y) ∧ (s.reevaluate y).Calm y := by
  obtain ⟨fit, standing⟩ | ⟨unfit, still⟩ := h
  · obtain ⟨decided, meets⟩ := Bool.and_eq_true_iff.mp fit
    have stays : (s.updBay y fun x => { x with barReason := s.barReasonOf y }).moveBay y .standby = s.reevaluate y := by
      rw [reevaluate_fit (by rw [standing]; rfl) meets]
      unfold State.moveBay
      rw [State.bay_updBay_self]
      exact if_pos standing
    have alike := fedAlike_moveBay (st := .standby) decided rfl (s.barReasonOf y)
    have only := (onlyBay_noteReason s y (s.barReasonOf y)).trans (onlyBay_moveBay _ y .standby)
    have state : (((s.updBay y fun x => { x with barReason := s.barReasonOf y }).moveBay y .standby).bay y).state
        = .standby := by rw [bay_moveBay_self, moved_state]
    rw [stays] at alike only state
    exact ⟨only, alike, .inl ⟨alike.el.trans fit, state⟩⟩
  · obtain same | ⟨st, decided, goes, out, moved⟩ := reevaluate_out unfit still
    · rw [same]
      exact ⟨.refl y s, .of_bay rfl rfl rfl rfl, .inr ⟨unfit, still⟩⟩
    · rw [moved]
      have alike := fedAlike_moveBay decided goes (s.barReasonOf y)
      refine ⟨(onlyBay_noteReason s y _).trans (onlyBay_moveBay _ y st), alike, .inr ⟨alike.el.trans unfit, ?_⟩⟩
      rw [bay_moveBay_self, moved_state]
      exact out

theorem feedRead_of_same {c : ChanId} {s t : State} (chan : t.chan c = s.chan c)
    (bays : ∀ b, chanOf b = c → t.bay b = s.bay b) (noticed : s.notified .channel = true → t.notified .channel = true) :
    FeedRead c s t := ⟨chan, fun b own => by simp only [bays b own, and_self], noticed⟩

/-- Another channel's bays leave a channel as it is. -/
theorem feedRead_reevaluate_elsewhere (s : State) {c : ChanId} {x : BayId} (h : c ≠ chanOf x) :
    FeedRead c s (s.reevaluate x) := by
  have touched := touches_reevaluate s x
  exact feedRead_of_same (touched.chans c h) (fun b own => touched.bays b (by rw [own]; exact h))
    (notified_of_notices touched.notices)

/-! ### The turns before a bay's own -/

/-- Bays other than `b` have had their turn beside a calm twin: `b` stands as it did, and its twin is alike. -/
structure Unreached (b : BayId) (s u : State) : Prop where
  bay   : u.bay b = s.bay b
  alike : FedAlike (twinOf b) s u
  calm  : u.Calm (twinOf b)

theorem State.Calm.of_bay {s u : State} {y : BayId} (h : s.Calm y) (bay : u.bay y = s.bay y)
    (el : u.eligible y = s.eligible y) : u.Calm y := by
  rw [State.Calm, bay, el]; exact h

theorem unreached_reevaluate {s : State} {b x : BayId} (other : x ≠ b) (calm : s.Calm (twinOf b)) :
    Unreached b s (s.reevaluate x) := by
  by_cases own : chanOf x = chanOf b
  case pos =>
    obtain rfl : x = twinOf b := (eq_or_twin b x own).resolve_left other
    obtain ⟨only, alike, still⟩ := reevaluate_calm calm
    exact ⟨only.bays b other.symm, alike, still⟩
  case neg =>
    have touched := touches_reevaluate s x
    have here : chanOf b ≠ chanOf x := Ne.symm own
    have bay := touched.bays (twinOf b) (by rw [chanOf_twinOf]; exact here)
    have alike : FedAlike (twinOf b) s (s.reevaluate x) :=
      .of_bay bay (touched.chans _ (by rw [chanOf_twinOf]; exact here)) touched.latch (by rw [touched.outside])
    exact ⟨touched.bays b here, alike, calm.of_bay bay alike.el⟩

theorem unreached_foldl {b : BayId} {l : List BayId} (out : b ∉ l) {s : State} (calm : s.Calm (twinOf b)) :
    Unreached b s (l.foldl State.reevaluate s) := by
  induction l generalizing s with
  | nil => exact ⟨rfl, .of_bay rfl rfl rfl rfl, calm⟩
  | cons x l ih =>
    obtain ⟨here, rest⟩ := not_or.mp (List.mem_cons.not.mp out)
    obtain ⟨bay, alike, still⟩ := unreached_reevaluate (x := x) (Ne.symm here) calm
    obtain ⟨bay', alike', still'⟩ := ih rest still
    exact ⟨bay'.trans bay, alike.trans alike', still'⟩

/-! ### The turns after a bay's own -/

/-- A twin that feeds and fits feeds on, whatever bays have their turn but for `b`. -/
theorem feedRead_foldl_fed {b : BayId} {l : List BayId} (out : b ∉ l) {s : State}
    (feeds : (s.bay (twinOf b)).state = .feeding) (fits : s.meetsConditions (twinOf b) = true) :
    FeedRead (chanOf b) s (l.foldl State.reevaluate s) := by
  induction l generalizing s with
  | nil => exact feedRead_of_same rfl (fun _ _ => rfl) id
  | cons x l ih =>
    obtain ⟨here, rest⟩ := not_or.mp (List.mem_cons.not.mp out)
    have step : FeedRead (chanOf b) s (s.reevaluate x) := by
      by_cases own : chanOf x = chanOf b
      case neg => exact feedRead_reevaluate_elsewhere s (Ne.symm own)
      case pos =>
        obtain rfl : x = twinOf b := (eq_or_twin b x own).resolve_left (Ne.symm here)
        rw [reevaluate_fit (by rw [feeds]; rfl) fits]
        refine ⟨rfl, fun z _ => ?_, id⟩
        rw [bay_updBay]
        split <;> exact ⟨rfl, rfl, rfl⟩
    obtain ⟨state, book, _⟩ := step.bays (twinOf b) (chanOf_twinOf b)
    exact step.trans (ih rest (state.trans feeds) (((merits_reevaluate s x).meetsConditions _ book).trans fits))

/-- A channel whose one bay has had its turn and whose other is out stays as it is, whatever bays have their turn. -/
theorem chan_foldl_out {b : BayId} {l : List BayId} (out : b ∉ l) {s : State} (unfit : s.eligible (twinOf b) = false)
    (still : (s.bay (twinOf b)).state ≠ .feeding) :
    (l.foldl State.reevaluate s).chan (chanOf b) = s.chan (chanOf b)
      ∧ (s.notified .channel = true → (l.foldl State.reevaluate s).notified .channel = true) := by
  induction l generalizing s with
  | nil => exact ⟨rfl, id⟩
  | cons x l ih =>
    obtain ⟨here, rest⟩ := not_or.mp (List.mem_cons.not.mp out)
    obtain ⟨_, alike, calm⟩ := unreached_reevaluate (x := x) (Ne.symm here) (.inr ⟨unfit, still⟩)
    have no := alike.el.trans unfit
    have idle : ((s.reevaluate x).bay (twinOf b)).state ≠ .feeding := by
      obtain ⟨fit, _⟩ | ⟨_, idle⟩ := calm
      · rw [no] at fit; exact nomatch fit
      · exact idle
    obtain ⟨chan, noticed⟩ := ih rest no idle
    have same := alike.chan
    rw [chanOf_twinOf] at same
    exact ⟨chan.trans same, fun n => noticed (((steps_reevaluate s x).notified .channel).1 n)⟩

/-- A twin that is out stays out at the bay's own turn. -/
theorem out_reevaluate {s : State} {b : BayId} (unfit : s.eligible (twinOf b) = false)
    (still : (s.bay (twinOf b)).state ≠ .feeding) :
    (s.reevaluate b).eligible (twinOf b) = false ∧ ((s.reevaluate b).bay (twinOf b)).state ≠ .feeding := by
  cases decided : (s.bay (twinOf b)).state.decided
  case false =>
    have state := (steps_reevaluate s b).undecided decided
    refine ⟨?_, by rw [state]; exact still⟩
    rw [State.eligible, state, decided]
    rfl
  case true =>
    have fails : s.meetsConditions (twinOf b) = false := by
      simpa only [State.eligible, decided, Bool.true_and] using unfit
    have beside := beside_reevaluate (b := twinOf b) (x := b) (twinOf_ne b).symm fails
    refine ⟨unfit_of_fails (beside.fails fails), ?_⟩
    obtain same | ⟨fed, _⟩ := beside.state
    · rw [same]; exact still
    · exact absurd fed still

/-! ### All bays in turn -/

/-- The bays before and after one in a list that holds it once. -/
theorem split_at {b : BayId} {l : List BayId} (mem : b ∈ l) (once : l.Nodup) :
    ∃ before after, l = before ++ b :: after ∧ b ∉ before ∧ b ∉ after := by
  obtain ⟨before, after, rfl⟩ := List.append_of_mem mem
  have out := (List.nodup_cons.mp (List.nodup_middle.mp once)).1
  rw [List.mem_append, not_or] at out
  exact ⟨before, after, rfl, out⟩

/-- Where all bays have their turn, a decided bay that fails a condition with a reason ends barred; if it fed beside a
calm twin, its feed passes on or closes. -/
theorem foldl_reevaluate_bars {b : BayId} {l : List BayId} (mem : b ∈ l) (once : l.Nodup) {s : State}
    (decided : (s.bay b).state.decided = true) (left : (s.bay b).state ≠ .drained) (why : s.barReasonOf b ≠ .none)
    (ink : (s.bay b).gaugeKnown = true → (s.bay b).book ≠ 0) :
    ((l.foldl State.reevaluate s).bay b).state = .barred
      ∧ ((l.foldl State.reevaluate s).bay b).barReason = s.barReasonOf b
      ∧ ((s.bay b).state = .feeding → s.Calm (twinOf b) →
          s.PassesFeed (l.foldl State.reevaluate s) b .barred .barred) := by
  obtain ⟨before, after, rfl, outBefore, outAfter⟩ := split_at mem once
  rw [List.foldl_append, List.foldl_cons]
  have earlier := beside_foldl_reevaluate outBefore (fails_of_reason why)
  have unreached := unreached_foldl (l := before) (b := b) outBefore (s := s)
  generalize before.foldl State.reevaluate s = u at *
  have no := earlier.fails (fails_of_reason why)
  obtain ⟨standing, undrained⟩ : (u.bay b).state.decided = true ∧ (u.bay b).state ≠ .drained := by
    obtain same | ⟨_, stands⟩ := earlier.state
    · rw [same]; exact ⟨decided, left⟩
    · rw [stands]; exact ⟨rfl, nofun⟩
  have known : (u.bay b).gaugeKnown = (s.bay b).gaugeKnown := congrArg (·.2.1) (earlier.merit.merit b)
  obtain ⟨state, reason, passes⟩ := reevaluate_bars standing undrained no (by rw [known, earlier.book]; exact ink)
  have later := beside_foldl_reevaluate outAfter (s := u.reevaluate b) (b := b)
    (fails_of_reason (by rw [(merits_reevaluate u b).barReasonOf, earlier.merit.barReasonOf]; exact why))
  have out := out_reevaluate (s := u) (b := b)
  have merit := merits_reevaluate u b
  generalize u.reevaluate b = v at *
  refine ⟨?_, later.reason.trans (reason.trans (earlier.merit.barReasonOf b)), fun fed calm => ?_⟩
  · obtain same | ⟨again, _⟩ := later.state
    · exact same.trans state
    · rw [state] at again; exact nomatch again
  · obtain ⟨bay, alike, calm'⟩ := unreached calm
    obtain ⟨closes, passesOn⟩ := passes (by rw [bay]; exact fed)
    refine State.PassesFeed.of_alike alike ⟨fun unfit => ?closes, fun fit open' marks => ?passes⟩
    case closes =>
      obtain ⟨fit, _⟩ | ⟨_, still⟩ := calm'
      · rw [unfit] at fit; exact nomatch fit
      · obtain ⟨unfit', still'⟩ := out unfit still
        obtain ⟨chan, noticed⟩ := chan_foldl_out outAfter unfit' still'
        obtain ⟨shut, closed, cause, residue, notice⟩ := closes unfit
        exact ⟨(feedingBay_congr (by rw [chan])).trans shut, by rw [chan]; exact closed, by rw [chan]; exact cause,
          by rw [chan]; exact residue, noticed notice⟩
    case passes =>
      have fed := passesOn fit open' marks
      have meets : v.meetsConditions (twinOf b) = true := by
        obtain ⟨_, fits, _⟩ := (eligible_iff u (twinOf b)).mp fit
        rw [State.meetsConditions, merit.barReasonOf, fits, fed.book]
        simpa using marks
      refine fed.carry ?_
      rw [chanOf_twinOf]
      exact feedRead_foldl_fed outAfter fed.open'.2 meets

end Sys2Proof.Machine
end

section
/-! SUPPORT. ENFORCE taken with the latch off (R37): the REFILL_MARK wants raised after the re-evaluations, and the
answer. -/

namespace Sys2Proof.Machine

/-! ### REFILL_MARK wants raised in turn (R38) -/

theorem bay_raiseRefillMarkWant_of (s : State) (x b : BayId) :
    (s.raiseRefillMarkWant x).bay b = if b = x then (s.bay b).wanting s.latch else s.bay b := by
  rw [raiseRefillMarkWant_eq, bay_updBay]
  rfl

/-- What a raised want does not change, no raise of wants changes. -/
theorem foldl_raiseRefillMarkWant_keeps {α : Type} (p : Bay → α) (hp : ∀ (x : Bay) (w : Wants), p { x with wants := w } = p x)
    (l : List BayId) (s : State) (b : BayId) : p ((l.foldl State.raiseRefillMarkWant s).bay b) = p (s.bay b) := by
  induction l generalizing s with
  | nil => rfl
  | cons x l ih =>
    refine (ih _).trans ?_
    rw [bay_raiseRefillMarkWant_of]
    split
    · exact hp _ _
    · rfl

theorem foldl_raiseRefillMarkWant_beside (l : List BayId) (s : State) :
    (l.foldl State.raiseRefillMarkWant s).channels = s.channels ∧ (l.foldl State.raiseRefillMarkWant s).port = s.port
      ∧ (l.foldl State.raiseRefillMarkWant s).latch = s.latch := by
  induction l generalizing s with
  | nil => exact ⟨rfl, rfl, rfl⟩
  | cons x l ih =>
    obtain ⟨channels, port, latch⟩ := ih (s.raiseRefillMarkWant x)
    rw [raiseRefillMarkWant_eq] at channels port latch
    rw [List.foldl_cons, raiseRefillMarkWant_eq]
    exact ⟨channels, port, latch⟩

/-- Wants raised for a bay among others under the latch: its REFILL_MARK want stands where it is due. -/
theorem foldl_raiseRefillMarkWant_raises {b : BayId} {l : List BayId} (mem : b ∈ l) {s : State} (on : s.latch = true)
    (due : (s.bay b).refillMarkDue = true) : ((l.foldl State.raiseRefillMarkWant s).bay b).wants.refillMark = true := by
  have stays (l : List BayId) (u : State) (h : (u.bay b).wants.refillMark = true) :
      ((l.foldl State.raiseRefillMarkWant u).bay b).wants.refillMark = true := by
    induction l generalizing u with
    | nil => exact h
    | cons x l ih =>
      refine ih _ ?_
      rw [bay_raiseRefillMarkWant_of]
      split
      · simp only [Bay.wanting, h, Bool.true_or]
      · exact h
  obtain ⟨before, after, rfl⟩ := List.append_of_mem mem
  rw [List.foldl_append, List.foldl_cons]
  refine stays after _ ?_
  obtain ⟨_, _, latch⟩ := foldl_raiseRefillMarkWant_beside before s
  have still := foldl_raiseRefillMarkWant_keeps Bay.refillMarkDue (fun _ _ => rfl) before s b
  rw [bay_raiseRefillMarkWant_of, if_pos rfl]
  simp only [Bay.wanting, latch, on, still, due, Bool.and_self, Bool.or_true]

/-! ### ENFORCE (R37) -/

theorem slots_foldl_reevaluate (l : List BayId) (s : State) : (l.foldl State.reevaluate s).port.slots = s.port.slots := by
  induction l generalizing s with
  | nil => rfl
  | cons x l ih => exact (ih _).trans (congrArg Port.slots (touches_reevaluate s x).port :)

theorem steps_foldl_reevaluate (l : List BayId) (s : State) : FeedSteps s (l.foldl State.reevaluate s) := by
  induction l generalizing s with
  | nil => exact .refl s
  | cons x l ih => exact (steps_reevaluate s x).trans (ih _)

/-- The state whose latch has been turned on. -/
def State.latched (s : State) : State := { s with latch := true }

theorem enforce_eq (s : State) : s.enforce
    = (List.finRange 24).foldl State.raiseRefillMarkWant ((List.finRange 24).foldl State.reevaluate s.latched) := rfl

theorem slot_enforce (s : State) (k : SlotId) : s.enforce.slot k = s.slot k := by
  obtain ⟨_, port, _⟩ := foldl_raiseRefillMarkWant_beside (List.finRange 24)
    ((List.finRange 24).foldl State.reevaluate s.latched)
  rw [enforce_eq, State.slot, port, slots_foldl_reevaluate]
  rfl

/-- A decided bay that a condition under the latch fails is barred, and the feed of one that fed beside a calm twin passes
on or closes. -/
theorem enforce_bars {s : State} {b : BayId} (decided : (s.bay b).state.decided = true)
    (left : (s.bay b).state ≠ .drained) (why : barReasonFor true (s.profileOf b) (s.bay b) ≠ .none)
    (ink : (s.bay b).gaugeKnown = true → (s.bay b).book ≠ 0) :
    (s.enforce.bay b).state = .barred ∧ (s.enforce.bay b).barReason = barReasonFor true (s.profileOf b) (s.bay b)
      ∧ ((s.bay b).state = .feeding → s.latched.Calm (twinOf b) → s.latched.PassesFeed s.enforce b .barred .barred) := by
  obtain ⟨state, reason, passes⟩ := foldl_reevaluate_bars (s := s.latched) (List.mem_finRange b) (List.nodup_finRange 24)
    decided left why ink
  rw [enforce_eq]
  generalize (List.finRange 24).foldl State.reevaluate s.latched = u at *
  have kept {α : Type} (p : Bay → α) (hp : ∀ (x : Bay) (w : Wants), p { x with wants := w } = p x) (x : BayId) :=
    foldl_raiseRefillMarkWant_keeps p hp (List.finRange 24) u x
  obtain ⟨channels, port, _⟩ := foldl_raiseRefillMarkWant_beside (List.finRange 24) u
  refine ⟨(kept Bay.state (fun _ _ => rfl) b).trans state, (kept Bay.barReason (fun _ _ => rfl) b).trans reason,
    fun fed calm => (passes fed calm).carry ⟨?_, fun x _ => ⟨kept Bay.state (fun _ _ => rfl) x,
      kept Bay.book (fun _ _ => rfl) x, kept Bay.pending (fun _ _ => rfl) x⟩, fun n => ?_⟩⟩
  · simp only [State.chan, channels]
  · rw [State.notified, port]; exact n

/-- An authenticated REFILLED bay that is decided on and lacks the mark gets its REFILL_MARK want. -/
theorem enforce_marks {s : State} {b : BayId} (decided : (s.bay b).state.decided = true)
    (refilled : (s.bay b).verdict = .refilled) (authenticated : (s.bay b).authenticated = true)
    (unmarked : (s.bay b).tagRefillMark = false) : (s.enforce.bay b).wants.refillMark = true := by
  have steps := steps_foldl_reevaluate (List.finRange 24) s.latched
  have aside := steps.aside b
  obtain ⟨latch, _⟩ := latch_foldl_reevaluate (List.finRange 24) s.latched
  rw [enforce_eq]
  generalize (List.finRange 24).foldl State.reevaluate s.latched = u at *
  refine foldl_raiseRefillMarkWant_raises (List.mem_finRange b) latch ?_
  have verdict : (u.bay b).verdict = (s.bay b).verdict := congrArg (·.verdict) aside
  have auth : (u.bay b).authenticated = (s.bay b).authenticated := congrArg (·.authenticated) aside
  have mark : (u.bay b).tagRefillMark = (s.bay b).tagRefillMark := congrArg (·.tagRefillMark) aside
  have state : (u.bay b).state.decided = true := steps.decided decided
  simp only [Bay.refillMarkDue, verdict, auth, mark, state, refilled, authenticated, unmarked, decide_true, Bool.and_self,
    Bool.not_false]

/-- A ticket just taken is answered as the host left it. -/
theorem writeAnswer_leftTaken (s : State) (k : SlotId) (kind target : Word) (a : Args) (r : Answer) :
    (s.leftTaken k kind target a none none).writeAnswer k r = s.leftAnswered k kind target a r := by
  have taken : ((s.leftTaken k kind target a none none).slot k).hand = .taken := by
    rw [State.leftTaken, State.slot_updSlot_self]
    rfl
  rw [State.writeAnswer, if_pos taken, State.leftTaken, updSlot_updSlot]
  rfl

theorem feedRead_writeAnswer (s : State) (k : SlotId) (a : Answer) (c : ChanId) : FeedRead c s (s.writeAnswer k a) :=
  feedRead_of_same (by simp only [State.chan, State.writeAnswer_channels])
    (fun _ _ => by simp only [State.bay, State.writeAnswer_bays])
    (notified_of_notices (answer_writeAnswer 0 s k a).notices)

/-- Settles O33: with the latch on ENFORCE is answered alone; with it off every bay has its turn under the latch, and the
wants are raised after the last. -/
theorem enforceTurnsTheLatchOn : Obligations.EnforceTurnsTheLatchOn := by
  intro k target a s takes
  have latch := takeEnforce_latch (s.leftTaken k 0x17#16 target a none none) k
  refine ⟨_, exec_enforce takes target a, (kept_endEvent _ _).latch.trans latch, fun on => ?on, fun off => ?slot,
    fun b decided off => ?bay⟩
  case on =>
    have answered : (s.leftTaken k 0x17#16 target a none none).takeEnforce k
        = s.leftAnswered k 0x17#16 target a (answerOf .done [1#8]) := by
      rw [← writeAnswer_leftTaken]
      exact if_pos on
    rw [answered]
    exact kept_endEvent _ _
  all_goals
    have enforced : (s.leftTaken k 0x17#16 target a none none).takeEnforce k
        = (s.leftTaken k 0x17#16 target a none none).enforce.writeAnswer k (answerOf .done [0#8]) :=
      if_neg (by show ¬ s.latch = true; rw [off]; exact nofun)
    have kept := kept_endEvent ((s.leftTaken k 0x17#16 target a none none).takeEnforce k)
      (s.updSlot k fun x => { x with kind := 0x17#16, target := target, args := a })
    generalize ((s.leftTaken k 0x17#16 target a none none).takeEnforce k).endEvent
      (s.updSlot k fun x => { x with kind := 0x17#16, target := target, args := a }) = t at *
    rw [enforced] at kept
  case slot =>
    have slot : (s.leftTaken k 0x17#16 target a none none).enforce.slot k = _ :=
      (slot_enforce _ k).trans (State.slot_updSlot_self s k _)
    have answered := State.slot_writeAnswer_self (s.leftTaken k 0x17#16 target a none none).enforce k
      (answerOf .done [0#8]) (by rw [slot]; rfl)
    rw [slot] at answered
    exact (kept.slots k (.inl (by rw [answered]; exact nofun))).trans answered
  case bay =>
    have bays (x : BayId) : (((s.leftTaken k 0x17#16 target a none none).enforce.writeAnswer k
        (answerOf .done [0#8])).bay x) = (s.leftTaken k 0x17#16 target a none none).enforce.bay x := by
      simp only [State.bay, State.writeAnswer_bays]
    have read := (feedRead_writeAnswer (s.leftTaken k 0x17#16 target a none none).enforce k (answerOf .done [0#8])
      (chanOf b)).trans (kept.feedRead _)
    refine ⟨fun left why ink => ?_, fun refilled authenticated unmarked => ?_⟩
    · obtain ⟨state, reason, passes⟩ := enforce_bars (s := s.leftTaken k 0x17#16 target a none none) decided left why ink
      have passed (fed : (s.bay b).state = .feeding) (calm : s.latched.Calm (twinOf b)) :
          s.latched.PassesFeed t b .barred .barred :=
        .of_alike (fedAlike_of_same (s := s.latched) (u := (s.leftTaken k 0x17#16 target a none none).latched)
          rfl rfl rfl rfl _) ((passes fed calm).carry read)
      exact ⟨((kept.bayField Bay.state b fun _ => rfl).trans (by rw [bays])).trans state,
        ((kept.bayField Bay.barReason b fun _ => rfl).trans (by rw [bays])).trans reason,
        fun fed fit stands => passed fed (.inl ⟨fit, stands⟩), fun fed unfit still => passed fed (.inr ⟨unfit, still⟩)⟩
    · exact ((kept.bayField (·.wants.refillMark) b fun _ => rfl).trans (by rw [bays])).trans
        (enforce_marks (s := s.leftTaken k 0x17#16 target a none none) decided refilled authenticated unmarked)

end Sys2Proof.Machine
end

section
/-! SUPPORT. A removal at the bay's engine (R34, R149, R209): the transaction aborted, the bay's entries answered and
dropped, and no new work for the bay. -/

namespace Sys2Proof.Machine

/-! ### Pieces of a removal at the engine -/

/-- An engine's activity but for a transaction of the bay. -/
def Activity.without (a : Activity) (b : BayId) : Activity :=
  match a with
  | .attempt t | .gap t _ => if t.bay = b then .idle else a
  | .idle => .idle

/-- The state with the bay's transaction aborted. -/
def State.abortFor (s : State) (b : BayId) : State :=
  match (s.eng (engOf b)).activity with
  | .attempt t | .gap t _ => if t.bay = b then s.idleEngine (engOf b) else s
  | .idle => s

/-- The bay's ticket operations at its engine, queued and parked. -/
def State.workFor (s : State) (b : BayId) : List QueueEntry :=
  ((s.eng (engOf b)).queue.filter fun q => decide (q.bay = b))
    ++ (s.port.parked[engOf b]).filter fun q => decide (q.bay = b)

/-- The bay's entries and wants dropped. -/
def State.dropFor (s : State) (b : BayId) : State :=
  ((s.updEng (engOf b) fun x => x.dropEntries fun q => decide (q.bay = b)).updPort fun p =>
    { p with parked := updAt p.parked (engOf b) fun l => l.filter fun q => !decide (q.bay = b) }).updBay b fun x =>
      { x with wants := Wants.none }

theorem removeAtEngine_eq (s : State) (b : BayId) : s.removeAtEngine b
    = (((s.workFor b).foldl State.emptiedEntry (s.abortFor b)).dropFor b).fillQueue (engOf b) := rfl

theorem mem_workFor (s : State) (b : BayId) (q : QueueEntry) : q ∈ s.workFor b ↔ s.TagWorkOf b q := by
  simp only [State.workFor, State.TagWorkOf, List.mem_append, List.mem_filter, decide_eq_true_eq]
  tauto

theorem eng_abortFor (s : State) (b : BayId) : (s.abortFor b).eng (engOf b)
    = { s.eng (engOf b) with activity := (s.eng (engOf b)).activity.without b } := by
  have idle (h : (s.eng (engOf b)).activity = .idle) : s.eng (engOf b) = { s.eng (engOf b) with activity := .idle } := by
    rw [← h]
  unfold State.abortFor Activity.without
  cases h : (s.eng (engOf b)).activity with
  | idle => exact idle h
  | attempt t | gap t n =>
    simp only
    split
    · exact State.eng_updEng_self s (engOf b) _
    · rw [← h]

theorem abortFor_keeps {α : Type} (p : State → α) (hp : ∀ (s : State) (e : EngId) (f : Engine → Engine), p (s.updEng e f) = p s)
    (s : State) (b : BayId) : p (s.abortFor b) = p s := by
  unfold State.abortFor State.idleEngine
  split
  · split
    · exact hp s _ _
    · rfl
  · split
    · exact hp s _ _
    · rfl
  · rfl

/-! ### The bay's entries answered (R149, R209) -/

/-- What neither a slot nor the end of a test changes, the answering of the bay's entries leaves alone. -/
theorem foldl_emptiedEntry_keeps {α : Type} (p : State → α)
    (hk : ∀ (s : State) (k : SlotId) (f : Slot → Slot), p (s.updSlot k f) = p s)
    (ht : ∀ (s : State) (n : Nat) (c : FailCause), p (s.endTest n c) = p s) (l : List QueueEntry) (s : State) :
    p (l.foldl State.emptiedEntry s) = p s := by
  induction l generalizing s with
  | nil => rfl
  | cons q l ih =>
    refine (ih _).trans ?_
    unfold State.emptiedEntry
    simp only
    refine (hk _ _ _).trans ?_
    split
    · exact ht s 0 .none
    · rfl

/-- A slot with a result for the ticket it holds. -/
def Slot.held (x : Slot) (a : Answer) : Slot := { x with copy := x.copy.map fun t => { t with result := some a } }

theorem held_held (x : Slot) (a : Answer) : (x.held a).held a = x.held a := by
  unfold Slot.held
  cases x.copy <;> rfl

theorem slot_emptiedEntry (s : State) (q : QueueEntry) (k : SlotId) : (s.emptiedEntry q).slot k
    = if q.slot = k then (s.slot k).held (plainAnswer .bayEmptied) else s.slot k := by
  have ended : (if q.selfTest then s.endTest 0 .none else s).slot k = s.slot k := by
    split <;> rfl
  unfold State.emptiedEntry State.holdResult
  simp only
  by_cases same : q.slot = k
  · subst same
    rw [if_pos rfl, State.slot_updSlot_self, ended]
    rfl
  · rw [if_neg same, State.slot_updSlot_other _ _ _ _ (Ne.symm same), ended]

/-- The slots of the bay's entries hold BAY_EMPTIED, and the others what they held. -/
theorem slot_foldl_emptiedEntry (l : List QueueEntry) (s : State) (k : SlotId) :
    ((∃ q ∈ l, q.slot = k) → (l.foldl State.emptiedEntry s).slot k = (s.slot k).held (plainAnswer .bayEmptied))
      ∧ ((∀ q ∈ l, q.slot ≠ k) → (l.foldl State.emptiedEntry s).slot k = s.slot k) := by
  induction l generalizing s with
  | nil => exact ⟨fun ⟨_, mem, _⟩ => (nomatch mem), fun _ => rfl⟩
  | cons q l ih =>
    obtain ⟨within, without⟩ := ih (s.emptiedEntry q)
    rw [slot_emptiedEntry] at within without
    refine ⟨fun ⟨x, mem, named⟩ => ?_, fun out => ?_⟩
    · by_cases later : ∃ q ∈ l, q.slot = k
      · refine (within later).trans ?_
        split
        · exact held_held ..
        · rfl
      · obtain rfl | mem := List.mem_cons.mp mem
        · refine (without fun y my same => later ⟨y, my, same⟩).trans ?_
          exact if_pos named
        · exact absurd ⟨x, mem, named⟩ later
    · refine (without fun y my => out y (List.mem_cons_of_mem _ my)).trans ?_
      exact if_neg (out q List.mem_cons_self)

theorem ended_ended (x : SelfTest) (n : Nat) (c : FailCause) : (x.ended n c).ended n c = x.ended n c := rfl

/-- A test among the bay's entries is ended with result 0 and TEST raised. -/
theorem test_foldl_emptiedEntry (l : List QueueEntry) (s : State) :
    ((∃ q ∈ l, q.selfTest = true) →
        (l.foldl State.emptiedEntry s).selfTest = s.selfTest.ended 0 .none
          ∧ (l.foldl State.emptiedEntry s).notified .test = true)
      ∧ (s.notified .test = true → (l.foldl State.emptiedEntry s).notified .test = true)
      ∧ (s.selfTest = s.selfTest.ended 0 .none → (l.foldl State.emptiedEntry s).selfTest = s.selfTest) := by
  induction l generalizing s with
  | nil => exact ⟨fun ⟨_, mem, _⟩ => (nomatch mem), id, fun _ => rfl⟩
  | cons q l ih =>
    obtain ⟨within, noticed, ended⟩ := ih (s.emptiedEntry q)
    have step : (s.emptiedEntry q).selfTest = (if q.selfTest then s.selfTest.ended 0 .none else s.selfTest)
        ∧ (s.emptiedEntry q).notified .test = (s.notified .test || q.selfTest) := by
      unfold State.emptiedEntry
      simp only
      split
      · next test =>
        rw [test]
        exact ⟨rfl, notified_raise _ .test .test⟩
      · next plain =>
        rw [Bool.eq_false_iff.mpr plain, Bool.or_false]
        exact ⟨rfl, rfl⟩
    obtain ⟨record, notice⟩ := step
    rw [List.foldl_cons]
    refine ⟨fun ⟨x, mem, test⟩ => ?_, fun on => noticed (by rw [notice, on]; rfl), fun done => ?_⟩
    · obtain rfl | mem := List.mem_cons.mp mem
      · rw [test] at record notice
        refine ⟨(ended ?_).trans record, noticed (notice.trans (Bool.or_true _))⟩
        rw [record]
        exact (ended_ended ..).symm
      · obtain ⟨finished, raised⟩ := within ⟨x, mem, test⟩
        refine ⟨finished.trans ?_, raised⟩
        rw [record]
        split <;> rfl
    · have same : (s.emptiedEntry q).selfTest = s.selfTest := by
        rw [record]
        split
        · exact done.symm
        · rfl
      exact (ended (by rw [same]; exact done)).trans same

/-! ### The engine after a removal -/

theorem fill_spares {b : BayId} {l m : List QueueEntry} (n : Nat) (hl : ∀ q ∈ l, q.bay ≠ b) (hm : ∀ q ∈ m, q.bay ≠ b) :
    (∀ q ∈ l ++ m.take n, q.bay ≠ b) ∧ ∀ q ∈ m.drop n, q.bay ≠ b := by
  refine ⟨fun q mem => ?_, fun q mem => hm q (List.mem_of_mem_drop mem)⟩
  obtain mem | mem := List.mem_append.mp mem
  · exact hl q mem
  · exact hm q (List.mem_of_mem_take mem)

/-- The engine of a removed bay: its transaction aborted, its entries gone, the counts as they were. -/
theorem eng_removeAtEngine (s : State) (b : BayId) :
    ((s.removeAtEngine b).eng (engOf b)).activity = (s.eng (engOf b)).activity.without b
      ∧ ((s.removeAtEngine b).eng (engOf b)).tallies = (s.eng (engOf b)).tallies
      ∧ (∀ q ∈ ((s.removeAtEngine b).eng (engOf b)).queue, q.bay ≠ b)
      ∧ ∀ q ∈ (s.removeAtEngine b).port.parked[engOf b], q.bay ≠ b := by
  have eng : ((s.workFor b).foldl State.emptiedEntry (s.abortFor b)).eng (engOf b) = (s.abortFor b).eng (engOf b) :=
    foldl_emptiedEntry_keeps (·.eng (engOf b)) (fun _ _ _ => rfl) (fun _ _ _ => rfl) _ _
  rw [eng_abortFor] at eng
  rw [removeAtEngine_eq]
  generalize (s.workFor b).foldl State.emptiedEntry (s.abortFor b) = u at *
  have dropped : (u.dropFor b).eng (engOf b) = (u.eng (engOf b)).dropEntries fun q => decide (q.bay = b) :=
    State.eng_updEng_self u (engOf b) _
  have parked : (u.dropFor b).port.parked[engOf b] = u.port.parked[engOf b].filter fun q => !decide (q.bay = b) :=
    updAt_self ..
  have filled : ((u.dropFor b).fillQueue (engOf b)).eng (engOf b)
      = { (u.dropFor b).eng (engOf b) with queue := ((u.dropFor b).eng (engOf b)).queue
            ++ ((u.dropFor b).port.parked[engOf b]).take (Config.queueSize - ((u.dropFor b).eng (engOf b)).queue.length) } :=
    State.eng_updEng_self (u.dropFor b) (engOf b) _
  have left : ((u.dropFor b).fillQueue (engOf b)).port.parked[engOf b] = ((u.dropFor b).port.parked[engOf b]).drop
      (Config.queueSize - ((u.dropFor b).eng (engOf b)).queue.length) := updAt_self ..
  have spared {l : List QueueEntry} : ∀ q ∈ l.filter fun q => !decide (q.bay = b), q.bay ≠ b := fun q mem => by
    simpa using (List.mem_filter.mp mem).2
  obtain ⟨queue, rest⟩ := fill_spares (Config.queueSize - ((u.dropFor b).eng (engOf b)).queue.length)
    (l := ((u.dropFor b).eng (engOf b)).queue) (m := (u.dropFor b).port.parked[engOf b])
    (by rw [dropped]; exact spared) (by rw [parked]; exact spared)
  refine ⟨by rw [filled, dropped, eng]; rfl, by rw [filled, dropped, eng]; rfl, ?_, by rw [left]; exact rest⟩
  rw [filled]
  exact queue

/-- The bay of a removal at its engine keeps all but its wants. -/
theorem bay_removeAtEngine (s : State) (b : BayId) :
    (s.removeAtEngine b).bay b = { s.bay b with wants := Wants.none } := by
  have bay : ((s.workFor b).foldl State.emptiedEntry (s.abortFor b)).bay b = s.bay b :=
    (foldl_emptiedEntry_keeps (·.bay b) (fun _ _ _ => rfl) (fun _ _ _ => rfl) _ _).trans
      (abortFor_keeps (·.bay b) (fun _ _ _ => rfl) s b)
  rw [removeAtEngine_eq]
  generalize (s.workFor b).foldl State.emptiedEntry (s.abortFor b) = u at *
  rw [← bay]
  exact State.bay_updBay_self _ b _

/-- What the entries' slots and tests, the engine, the parked tickets and the wants do not touch, a removal at the engine
leaves alone. -/
theorem removeAtEngine_keeps {α : Type} {b : BayId} (p : State → α)
    (hk : ∀ (s : State) (k : SlotId) (f : Slot → Slot), p (s.updSlot k f) = p s)
    (ht : ∀ (s : State) (n : Nat) (c : FailCause), p (s.endTest n c) = p s)
    (he : ∀ (s : State) (e : EngId) (f : Engine → Engine), p (s.updEng e f) = p s)
    (hd : ∀ s : State, p ((s.dropFor b).fillQueue (engOf b)) = p s) (s : State) : p (s.removeAtEngine b) = p s := by
  rw [removeAtEngine_eq, hd, foldl_emptiedEntry_keeps p hk ht, abortFor_keeps p he]

/-! ### The work an engine takes -/

/-- The bay of a piece of work. -/
def Work.bay : Work → BayId
  | .insertion b _ | .account b | .sense b => b
  | .head q => q.bay

/-- An engine finds no work for a bay without wants and entries. -/
theorem chooseWork_spares {s : State} {e : EngId} {b : BayId} {w : Work} (wants : (s.bay b).wants = Wants.none)
    (queue : ∀ q ∈ (s.eng e).queue, q.bay ≠ b) (h : s.chooseWork e = some w) : w.bay ≠ b := by
  have head : (s.eng e).queue.head?.map Work.head = some w → w.bay ≠ b := by
    intro eq
    obtain ⟨q, hq, rfl⟩ := Option.map_eq_some_iff.mp eq
    exact queue q (List.mem_of_head? hq)
  have insertion (l : List BayId) : s.insertionWork l = some w → w.bay ≠ b := by
    induction l with
    | nil => exact nofun
    | cons x l ih =>
      unfold State.insertionWork
      split
      · next st want =>
        intro eq own
        obtain rfl := Option.some.inj eq
        obtain rfl : x = b := own
        rw [wants] at want
        exact nomatch want
      · exact ih
  have own (q : BayId → Bool) (f : BayId → Work) (hf : ∀ x, (f x).bay = x) (none' : q b = false) :
      ((searchOrder e (s.eng e).pointer).find? q).map f = some w → w.bay ≠ b := by
    intro eq
    obtain ⟨x, found, rfl⟩ := Option.map_eq_some_iff.mp eq
    rintro rfl
    have yes := List.find?_some found
    rw [hf] at none'
    rw [none'] at yes
    exact nomatch yes
  simp only [State.chooseWork, Option.or_eq_some_iff] at h
  obtain h | ⟨_, h | ⟨_, h | ⟨_, h | ⟨_, h⟩⟩⟩⟩ := h
  · split at h
    · exact head h
    · exact nomatch h
  · exact insertion _ h
  · exact own _ _ (fun _ => rfl) (by rw [wants]; rfl) h
  · exact head h
  · exact own _ _ (fun _ => rfl) (by rw [wants]; rfl) h

/-- The transaction a grant starts is of the work's bay. -/
theorem grant_bay (s : State) (first : Nat) (e : EngId) (w : Work) :
    ∃ t : Transaction, t.bay = w.bay ∧ ((s.grant first e w).eng e).activity = .attempt t := by
  have started (u : State) (x : BayId) (o : Origin) (c : TagCommand) :
      ∃ t : Transaction, t.bay = x ∧ ((u.startTransaction first e x o c).eng e).activity = .attempt t :=
    ⟨_, rfl, eng_startTransaction_activity ..⟩
  cases w with
  | insertion x st => exact started _ x _ _
  | head q => exact started _ q.bay _ _
  | sense x => exact started _ x _ _
  | account x =>
    unfold State.grant
    simp only
    split
    · exact started _ x _ _
    · split <;> exact started _ x _ _

/-- At the end of an event the engine works for no bay that has neither wants nor entries nor a transaction. -/
theorem engine_spares {s : State} {b : BayId} (before : State) (wants : (s.bay b).wants = Wants.none)
    (queue : ∀ q ∈ (s.eng (engOf b)).queue, q.bay ≠ b)
    (idle : ∀ t, (s.eng (engOf b)).activity.transaction = some t → t.bay ≠ b) {t : Transaction}
    (h : ((s.endEvent before).eng (engOf b)).activity.transaction = some t) : t.bay ≠ b := by
  rw [State.endEvent, eng_publishSince, State.advanceWork] at h
  obtain ⟨u, ⟨ueng, ubay⟩, eng, _⟩ := arbitrateAll_at (s.advanceStore before) s.untimed (engOf b)
  rw [eng_advanceStore] at ueng
  have same := ubay b rfl
  rw [bay_advanceStore] at same
  rw [eng] at h
  obtain stays | ⟨_, w, chosen, granted⟩ := arbitrate_cases u s.untimed (engOf b)
  · rw [stays, ueng] at h
    exact idle t h
  · obtain ⟨x, own, activity⟩ := grant_bay u s.untimed (engOf b) w
    rw [granted, activity] at h
    obtain rfl := Option.some.inj h
    rw [own]
    exact chooseWork_spares (by rw [same]; exact wants) (by rw [ueng]; exact queue) chosen

end Sys2Proof.Machine
end

section
/-! SUPPORT. The tickets of an emptied bay's order list answered (R149, R189), and what a removal leaves of the state
(R34, R51). -/

namespace Sys2Proof.Machine

/-! ### The order list of an EMPTY bay served -/

/-- A CLEAR_HELD of an EMPTY bay changes nothing (R133). -/
theorem carryOutClear_empty {s : State} {b : BayId} (empty : (s.bay b).state = .empty) (a : Args) :
    (s.carryOutClear b a).1 = s := by
  unfold State.carryOutClear
  split
  · rfl
  · rw [if_pos empty]

theorem writeAnswer_port (s : State) (k : SlotId) (a : Answer) : s.writeAnswer k a = { s with port := (s.writeAnswer k a).port } := by
  unfold State.writeAnswer
  split <;> rfl

/-- Serving the order list of an EMPTY bay changes the port alone. -/
theorem serveList_port {b : BayId} (l : List SlotId) {s : State} (empty : (s.bay b).state = .empty) :
    ∃ p, State.serveList b l s = { s with port := p } := by
  induction l generalizing s with
  | nil => exact ⟨_, rfl⟩
  | cons k l ih =>
    have answered (a : Answer) : ∃ p, State.serveList b l (s.writeAnswer k a) = { s with port := p } := by
      obtain ⟨p, e⟩ := ih (s := s.writeAnswer k a) (by simp only [State.bay, State.writeAnswer_bays]; exact empty)
      rw [writeAnswer_port] at e
      exact ⟨p, by rw [writeAnswer_port]; exact e⟩
    unfold State.serveList
    split
    · exact ih empty
    · split
      · simp only [carryOutClear_empty empty]
        exact answered _
      · split
        · exact answered _
        · exact ⟨_, rfl⟩

/-- A slot whose ticket can be answered at its turn, or that holds none. -/
def Slot.Due (x : Slot) : Prop :=
  x.copy = none ∨ x.hand = .taken ∧ ∃ tk : Taken, x.copy = some tk ∧ (tk.kind = Kind.clearHeld.code ∨ tk.result ≠ none)

/-- The head of an EMPTY bay's order list: passed over where the slot holds no ticket, else answered. -/
theorem serveList_cons {b : BayId} {x : SlotId} (l : List SlotId) {s : State} (empty : (s.bay b).state = .empty)
    (due : (s.slot x).Due) :
    (s.slot x).copy = none ∧ State.serveList b (x :: l) s = State.serveList b l s
      ∨ ∃ tk a, (s.slot x).copy = some tk ∧ (s.slot x).hand = .taken
        ∧ State.serveList b (x :: l) s = State.serveList b l (s.writeAnswer x a)
        ∧ (tk.kind ≠ Kind.clearHeld.code → ∀ a', tk.result = some a' → a' = a) := by
  obtain none' | ⟨taken, tk, copy, ready⟩ := due
  · exact .inl ⟨none', by simp only [State.serveList, none']⟩
  · right
    by_cases clear : tk.kind = Kind.clearHeld.code
    · exact ⟨tk, (s.carryOutClear b tk.args).2, copy, taken,
        by simp only [State.serveList, copy, clear, if_true, carryOutClear_empty empty], fun other => absurd clear other⟩
    · obtain ⟨a, got⟩ := Option.ne_none_iff_exists'.mp (ready.resolve_left clear)
      exact ⟨tk, a, copy, taken, by simp only [State.serveList, copy, clear, if_false, got],
        fun _ a' got' => Option.some.inj (got'.symm.trans got)⟩

/-- What the service of an order list leaves of a slot: one without a ticket as it was, one of the list answered, with
the ticket's result where it is not a CLEAR_HELD. -/
structure Served (l : List SlotId) (s t : State) (k : SlotId) : Prop where
  still    : (s.slot k).copy = none → t.slot k = s.slot k
  answered : ∀ tk, k ∈ l → (s.slot k).copy = some tk → (t.slot k).hand = .answered
  result   : ∀ tk a, k ∈ l → (s.slot k).copy = some tk → tk.kind ≠ Kind.clearHeld.code → tk.result = some a →
    t.slot k = (s.slot k).answered a

/-- An order list of an EMPTY bay whose tickets are all due is served to its end. -/
theorem serveList_due {b : BayId} (l : List SlotId) {s : State} (empty : (s.bay b).state = .empty)
    (due : ∀ k ∈ l, (s.slot k).Due) :
    (State.serveList b l s).port.bayOrder[b] = [] ∧ ∀ k, Served l s (State.serveList b l s) k := by
  induction l generalizing s with
  | nil =>
    exact ⟨updAt_self .., fun k => ⟨fun _ => rfl, fun _ mem => (nomatch mem), fun _ _ mem => (nomatch mem)⟩⟩
  | cons x l ih =>
    have later (k : SlotId) (mem : k ∈ l) : (s.slot k).Due := due k (List.mem_cons_of_mem _ mem)
    have answered {tk : Taken} (a : Answer) (copy : (s.slot x).copy = some tk) (taken : (s.slot x).hand = .taken)
        (own : tk.kind ≠ Kind.clearHeld.code → ∀ a', tk.result = some a' → a' = a) :
        (State.serveList b l (s.writeAnswer x a)).port.bayOrder[b] = []
          ∧ ∀ k, Served (x :: l) s (State.serveList b l (s.writeAnswer x a)) k := by
      have self := State.slot_writeAnswer_self s x a taken
      have other (k : SlotId) (h : k ≠ x) := State.slot_writeAnswer_other s x k a h
      obtain ⟨order, served⟩ := ih (s := s.writeAnswer x a)
        (by simp only [State.bay, State.writeAnswer_bays]; exact empty) fun k mem => by
          by_cases same : k = x
          · rw [same, self]; exact .inl rfl
          · rw [other k same]; exact later k mem
      refine ⟨order, fun k => ?_⟩
      obtain ⟨still, answers, result⟩ := served k
      by_cases same : k = x
      · subst same
        have now := (still (by rw [self]; rfl)).trans self
        refine ⟨fun none' => ?_, fun _ _ _ => by rw [now]; rfl, fun tk' a' _ copy' other got => ?_⟩
        · rw [copy] at none'; exact nomatch none'
        · obtain rfl := Option.some.inj (copy.symm.trans copy')
          rw [now, own other a' got]
      · rw [other k same] at still answers result
        have rest (mem : k ∈ x :: l) : k ∈ l := (List.mem_cons.mp mem).resolve_left same
        exact ⟨still, fun tk mem => answers tk (rest mem), fun tk a' mem => result tk a' (rest mem)⟩
    obtain ⟨none', skips⟩ | ⟨tk, a, copy, taken, answers, own⟩ := serveList_cons l empty (due x List.mem_cons_self)
    · rw [skips]
      obtain ⟨order, served⟩ := ih empty later
      refine ⟨order, fun k => ?_⟩
      obtain ⟨still, answers, result⟩ := served k
      have rest {tk : Taken} (mem : k ∈ x :: l) (copy : (s.slot k).copy = some tk) : k ∈ l :=
        (List.mem_cons.mp mem).resolve_left fun same => by rw [same, none'] at copy; exact nomatch copy
      exact ⟨still, fun tk mem copy => answers tk (rest mem copy) copy,
        fun tk a mem copy => result tk a (rest mem copy) copy⟩
    · rw [answers]
      exact answered a copy taken own

/-! ### The bay emptied (R34) -/

section
variable {α : Type} (p : State → α) (ha : ∀ (s : State) (a : AuthEngine), p { s with auth := a } = p s)
  (hb : ∀ (s : State) (b : BayId) (f : Bay → Bay), p (s.updBay b f) = p s)
  (hh : ∀ (s : State) (f : History → History), p (s.updHist f) = p s) (hr : ∀ s : State, p (s.raise .bay) = p s)
include ha hb hh hr

/-- What the authentication engine, the bays, the history and BAY do not change, an emptied bay leaves as its engine left
it. -/
theorem emptyBay_keeps (s : State) (b : BayId) : p (s.emptyBay b) = p (s.removeAtEngine b) := by
  have unlinked (u : State) : p (u.unlinkEntry b) = p u := by
    unfold State.unlinkEntry
    split
    · rfl
    · exact (makeDue_keeps p hh _ _).trans (hh _ _)
  exact (hr _).trans ((hb _ b _).trans ((unlinked _).trans ((hb _ b _).trans (ha _ _))))

end

theorem bay_withdrawAuth (s : State) (b : BayId) : (s.withdrawAuth b).bay b
    = { s.bay b with challenge := none, tagResponse := none, expectedResponse := none } :=
  State.bay_updBay_self { s with auth := s.auth.withdraw b } b _

theorem bay_unlinkEntry (s : State) (b x : BayId) : (s.unlinkEntry b).bay x = s.bay x := by
  unfold State.unlinkEntry
  split
  · rfl
  · simp only [State.bay, makeDue_bays]; rfl

/-- An emptied bay holds the defaults but for its burn token. -/
theorem bay_emptyBay (s : State) (b : BayId) :
    (s.emptyBay b).bay b = { Bay.default with burnToken := (s.bay b).burnToken } := by
  have self : (s.emptyBay b).bay b
      = { Bay.default with burnToken := ((((s.removeAtEngine b).withdrawAuth b).unlinkEntry b).bay b).burnToken } :=
    State.bay_updBay_self ..
  rw [self, bay_unlinkEntry, bay_withdrawAuth, bay_removeAtEngine]

theorem auth_emptyBay (s : State) (b : BayId) : (s.emptyBay b).auth = s.auth.withdraw b := by
  have unlinked (u : State) : (u.unlinkEntry b).auth = u.auth := by
    unfold State.unlinkEntry
    split
    · rfl
    · exact makeDue_keeps (·.auth) (fun _ _ => rfl) _ _
  have engine : (s.removeAtEngine b).auth = s.auth :=
    removeAtEngine_keeps (·.auth) (fun _ _ _ => rfl) (fun _ _ _ => rfl) (fun _ _ _ => rfl) (fun _ => rfl) s
  show (((s.removeAtEngine b).withdrawAuth b).unlinkEntry b).auth = _
  rw [unlinked, ← engine]
  rfl

/-- The bay's request is out of the FIFO, and its computation under way runs on withdrawn (R26). -/
theorem withdraw_leaves (a : AuthEngine) (b : BayId) :
    (∀ r ∈ (a.withdraw b).fifo, r.origin ≠ some b)
      ∧ ∀ (r : AuthRequest) (w : Bool), a.current = some (r, w) → r.origin = some b →
          (a.withdraw b).current = some (r, true) := by
  refine ⟨fun r mem => by simpa using (List.mem_filter.mp mem).2, fun r w current own => ?_⟩
  simp only [AuthEngine.withdraw, current, Option.map_some, own, if_true]

/-- A history entry as a removal of the bay leaves it, but for journal-due (R34, R51). -/
def Bay.unlinked (x : Bay) (e : Entry) : Entry :=
  if some e.serial = x.entry then { e with book := x.book, owed := x.pending, installedBay := none, journalDue := false }
  else { e with journalDue := false }

theorem live_unlinkEntry (s : State) (b : BayId) :
    (s.unlinkEntry b).history.live.map Entry.content = s.history.live.map (s.bay b).unlinked := by
  unfold State.unlinkEntry
  split
  · next none' =>
    refine List.map_congr_left fun e _ => ?_
    rw [Bay.unlinked, none', if_neg nofun]
    rfl
  · next serial own =>
    refine (kept_makeDue _ serial).history.trans ((List.map_map ..).trans (List.map_congr_left fun e _ => ?_))
    simp only [Bay.unlinked, own, Option.some.injEq, Function.comp]
    split <;> rfl

theorem live_emptyBay (s : State) (b : BayId) :
    (s.emptyBay b).history.live.map Entry.content = s.history.live.map (s.bay b).unlinked := by
  have withdrawn (u : State) : (u.withdrawAuth b).history = u.history := rfl
  have engine : (s.removeAtEngine b).history = s.history :=
    removeAtEngine_keeps (·.history) (fun _ _ _ => rfl) (fun _ _ _ => rfl) (fun _ _ _ => rfl) (fun _ => rfl) s
  have figures : (((s.removeAtEngine b).withdrawAuth b).bay b).unlinked = (s.bay b).unlinked := by
    rw [bay_withdrawAuth, bay_removeAtEngine]
    rfl
  refine (live_unlinkEntry ((s.removeAtEngine b).withdrawAuth b) b).trans ?_
  rw [withdrawn, engine, figures]

/-- Entries and wants dropped leave slots, the self-test record and the pending notices. -/
theorem answered_removeAtEngine (s : State) (b : BayId) :
    (∀ k, (s.removeAtEngine b).slot k = ((s.workFor b).foldl State.emptiedEntry (s.abortFor b)).slot k)
      ∧ (s.removeAtEngine b).selfTest = ((s.workFor b).foldl State.emptiedEntry (s.abortFor b)).selfTest
      ∧ ∀ n, (s.removeAtEngine b).notified n = ((s.workFor b).foldl State.emptiedEntry (s.abortFor b)).notified n := by
  rw [removeAtEngine_eq]
  generalize (s.workFor b).foldl State.emptiedEntry (s.abortFor b) = u
  exact ⟨fun _ => rfl, rfl, fun _ => rfl⟩

/-- The slots of the bay's ticket operations hold BAY_EMPTIED (R149). -/
theorem slot_emptyBay (s : State) (b : BayId) (k : SlotId) :
    ((∃ q, s.TagWorkOf b q ∧ q.slot = k) → (s.emptyBay b).slot k = (s.slot k).held (plainAnswer .bayEmptied))
      ∧ ((∀ q, s.TagWorkOf b q → q.slot ≠ k) → (s.emptyBay b).slot k = s.slot k) := by
  obtain ⟨slots, _⟩ := answered_removeAtEngine s b
  have slot := emptyBay_keeps (·.slot k) (fun _ _ => rfl) (fun _ _ _ => rfl) (fun _ _ => rfl) (fun _ => rfl) s b
  have aborted : (s.abortFor b).slot k = s.slot k := abortFor_keeps (·.slot k) (fun _ _ _ => rfl) s b
  obtain ⟨within, without⟩ := slot_foldl_emptiedEntry (s.workFor b) (s.abortFor b) k
  rw [aborted] at within without
  rw [slot, slots]
  exact ⟨fun ⟨q, work, named⟩ => within ⟨q, (mem_workFor s b q).mpr work, named⟩,
    fun out => without fun q mem => out q ((mem_workFor s b q).mp mem)⟩

/-- A code 9 test of the bay is ended with result 0 (R209). -/
theorem test_emptyBay {s : State} {b : BayId} (h : ∃ q, s.TagWorkOf b q ∧ q.selfTest = true) :
    (s.emptyBay b).selfTest = s.selfTest.ended 0 .none ∧ (s.emptyBay b).notified .test = true := by
  obtain ⟨q, work, test⟩ := h
  obtain ⟨ended, _⟩ := test_foldl_emptiedEntry (s.workFor b) (s.abortFor b)
  obtain ⟨record, raised⟩ := ended ⟨q, (mem_workFor s b q).mpr work, test⟩
  have quiet (u : State) : (u.raise .bay).notified .test = u.notified .test := by
    rw [notified_raise]; exact Bool.or_false _
  obtain ⟨_, engineTest, engineNotice⟩ := answered_removeAtEngine s b
  have same := emptyBay_keeps (·.selfTest) (fun _ _ => rfl) (fun _ _ _ => rfl) (fun _ _ => rfl) (fun _ => rfl) s b
  have notice := emptyBay_keeps (·.notified .test) (fun _ _ => rfl) (fun _ _ _ => rfl) (fun _ _ => rfl) quiet s b
  have aborted : (s.abortFor b).selfTest = s.selfTest := abortFor_keeps (·.selfTest) (fun _ _ _ => rfl) s b
  rw [same, engineTest, record, aborted, notice, engineNotice]
  exact ⟨rfl, raised⟩

end Sys2Proof.Machine
end

section
/-! SUPPORT. A removal as a whole (R34): the emptied bay, its feed passed on, its order list served, the rest of the
event. -/

namespace Sys2Proof.Machine

/-! ### The feed of an emptied bay (R103) -/

/-- The state of a removal before the order list is served. -/
def State.fedPast (s : State) (b : BayId) : State :=
  if (s.bay b).state = .feeding then (s.emptyBay b).feedLost b .removed else s.emptyBay b

theorem touches_fedPast (s : State) (b : BayId) : FeedTouches (chanOf b) (s.emptyBay b) (s.fedPast b) := by
  unfold State.fedPast
  split
  · exact touches_feedLost _ b _
  · exact .refl _ _

theorem emptyWindow_of_empty {x : Sense} (h : x.WindowEmpty) : x.emptyWindow = x := by
  cases x
  obtain ⟨rfl, rfl, rfl⟩ := h
  rfl

/-- An emptied bay is neither eligible nor feeding. -/
theorem emptyBay_out (s : State) (b : BayId) :
    (s.emptyBay b).eligible b = false ∧ ((s.emptyBay b).bay b).state ≠ .feeding := by
  have state : ((s.emptyBay b).bay b).state = .empty := by rw [bay_emptyBay]; rfl
  exact ⟨by rw [State.eligible, state]; rfl, by rw [state]; exact nofun⟩

theorem bay_fedPast (s : State) (b : BayId) :
    (s.fedPast b).bay b = { Bay.default with burnToken := (s.bay b).burnToken } := by
  obtain ⟨unfit, still⟩ := emptyBay_out s b
  have self := bay_emptyBay s b
  unfold State.fedPast
  split
  · have window := (steps_feedLost (s.emptyBay b) b .removed).window (b := b) (by rw [self]; exact ⟨rfl, rfl, rfl⟩)
    have left := bay_feedLost_left .removed unfit still (fun y => { y with sense := y.sense.emptyWindow }) fun _ => rfl
    rw [self] at left
    have same : { ((s.emptyBay b).feedLost b .removed).bay b with
        sense := (((s.emptyBay b).feedLost b .removed).bay b).sense.emptyWindow }
          = ((s.emptyBay b).feedLost b .removed).bay b := by rw [emptyWindow_of_empty window]
    exact same.symm.trans left
  · exact self

/-- The other bays and the entries where the bay did not feed or its twin is not eligible. -/
theorem fedPast_shut {s : State} {b : BayId} (h : (s.bay b).state ≠ .feeding ∨ (s.emptyBay b).eligible (twinOf b) = false) :
    (s.fedPast b).bays = (s.emptyBay b).bays ∧ (s.fedPast b).history = (s.emptyBay b).history := by
  unfold State.fedPast
  generalize s.emptyBay b = u at *
  split
  · next fed =>
    have unfit := h.resolve_left (not_not.mpr fed)
    rw [State.feedLost, if_neg (by rw [unfit]; exact nofun)]
    exact ⟨rfl, rfl⟩
  · exact ⟨rfl, rfl⟩

/-! ### The order list served -/

/-- A removal serves the bay's order list last, which changes the port alone. -/
theorem removeBay_port (s : State) (b : BayId) : ∃ p, s.removeBay b = { s.fedPast b with port := p } := by
  obtain ⟨p, served⟩ := serveList_port (b := b) (s.fedPast b).port.bayOrder[b] (s := s.fedPast b)
    (by rw [bay_fedPast]; rfl)
  refine ⟨p, Eq.trans ?_ served⟩
  rw [removeBay_eq]
  rfl

theorem removeBay_eq_served (s : State) (b : BayId) : s.removeBay b = (s.fedPast b).serveBay b := removeBay_eq s b

/-- What of a removal the service of the order list does not change: all but slots, order lists and further notices. -/
theorem removeBay_rest (s : State) (b : BayId) :
    (s.removeBay b).bays = (s.fedPast b).bays ∧ (s.removeBay b).channels = (s.fedPast b).channels
      ∧ (s.removeBay b).history = (s.fedPast b).history ∧ (s.removeBay b).engines = (s.emptyBay b).engines
      ∧ (s.removeBay b).auth = s.auth.withdraw b ∧ (s.removeBay b).outside = s.outside
      ∧ (s.removeBay b).flash = s.flash ∧ (s.removeBay b).latch = s.latch
      ∧ (s.removeBay b).selfTest = (s.emptyBay b).selfTest
      ∧ (s.removeBay b).port.parked = (s.emptyBay b).port.parked
      ∧ (∀ n, (s.emptyBay b).notified n = true → (s.removeBay b).notified n = true)
      ∧ ∀ n, (s.fedPast b).notified n = true → (s.removeBay b).notified n = true := by
  have touched := touches_fedPast s b
  have answered := answer_serveBay (s.fedPast b) b
  rw [← removeBay_eq_served] at answered
  have outside : (s.emptyBay b).outside = s.outside :=
    (emptyBay_keeps (·.outside) (fun _ _ => rfl) (fun _ _ _ => rfl) (fun _ _ => rfl) (fun _ => rfl) s b).trans
      (removeAtEngine_outside s b)
  have flash : (s.emptyBay b).flash = s.flash :=
    (emptyBay_keeps (·.flash) (fun _ _ => rfl) (fun _ _ _ => rfl) (fun _ _ => rfl) (fun _ => rfl) s b).trans
      (removeAtEngine_keeps (·.flash) (fun _ _ _ => rfl) (fun _ _ _ => rfl) (fun _ _ _ => rfl) (fun _ => rfl) s)
  have parked : (s.removeBay b).port.parked = (s.emptyBay b).port.parked :=
    (congrArg Port.parked answered.port :).trans (congrArg Port.parked touched.port :)
  have first (n : Notice) : (s.emptyBay b).notified n = true → (s.fedPast b).notified n = true :=
    notified_of_notices touched.notices
  have second (n : Notice) : (s.fedPast b).notified n = true → (s.removeBay b).notified n = true :=
    notified_of_notices answered.notices
  obtain ⟨p, eq⟩ := removeBay_port s b
  have auth := auth_emptyBay s b
  have only := onlyBay_emptyBay s b
  refine ⟨by rw [eq], by rw [eq], by rw [eq], by rw [eq]; exact touched.engines, by rw [eq]; exact touched.auth.trans auth,
    by rw [eq]; exact touched.outside.trans outside, by rw [eq]; exact touched.flash.trans flash,
    by rw [eq]; exact touched.latch.trans only.latch, by rw [eq]; exact touched.selfTest, parked,
    fun n h => second n (first n h), second⟩

/-- Where every ticket of the bay's order list is a CLEAR_HELD, has its result or is a ticket operation of the bay, the
list is served to its end. -/
theorem removeBay_tickets {s : State} {b : BayId}
    (due : ∀ k ∈ s.port.bayOrder[b], (s.slot k).hand = .taken ∧ ∃ tk : Taken, (s.slot k).copy = some tk
      ∧ (tk.kind = 0x15#16 ∨ tk.result ≠ none ∨ ∃ q, s.TagWorkOf b q ∧ q.slot = k)) :
    (s.removeBay b).port.bayOrder[b] = []
      ∧ ∀ k ∈ s.port.bayOrder[b], ((s.removeBay b).slot k).hand = .answered
        ∧ ∀ q, s.TagWorkOf b q → q.slot = k → (s.slot k).copy.map (·.kind) ≠ some 0x15#16 →
          ((s.removeBay b).slot k).status = 0x0006#16 ∧ ((s.removeBay b).slot k).answer = fitList 30 0#8 [] := by
  have port := (touches_fedPast s b).port
  have slots (k : SlotId) : (s.fedPast b).slot k = (s.emptyBay b).slot k :=
    congrArg (·[k]) (congrArg Port.slots port :)
  have order : (s.fedPast b).port.bayOrder[b] = s.port.bayOrder[b] := by
    have same : (s.fedPast b).port.bayOrder = (s.emptyBay b).port.bayOrder := (congrArg Port.bayOrder port :)
    have emptied : (s.emptyBay b).port.bayOrder = s.port.bayOrder :=
      (emptyBay_keeps (·.port.bayOrder) (fun _ _ => rfl) (fun _ _ _ => rfl) (fun _ _ => rfl) (fun _ => rfl) s b).trans
        (removeAtEngine_keeps (·.port.bayOrder) (fun _ _ _ => rfl) (fun _ _ _ => rfl) (fun _ _ _ => rfl) (fun _ => rfl) s)
    rw [same, emptied]
  have work (k : SlotId) := slot_emptyBay s b k
  have copied (k : SlotId) (mem : k ∈ s.port.bayOrder[b]) : ∃ tk : Taken, ((s.fedPast b).slot k).hand = .taken
      ∧ ((s.fedPast b).slot k).copy = some tk ∧ (tk.kind = Kind.clearHeld.code ∨ tk.result ≠ none)
      ∧ (∀ q, s.TagWorkOf b q → q.slot = k → (s.slot k).copy.map (·.kind) ≠ some 0x15#16 →
          tk.kind ≠ Kind.clearHeld.code ∧ tk.result = some (plainAnswer .bayEmptied)) := by
    obtain ⟨taken, tk, copy, ready⟩ := due k mem
    obtain ⟨within, without⟩ := work k
    rw [slots]
    by_cases mine : ∃ q, s.TagWorkOf b q ∧ q.slot = k
    · rw [within mine]
      refine ⟨{ tk with result := some (plainAnswer .bayEmptied) }, taken, by rw [Slot.held, copy]; rfl, .inr nofun,
        fun q _ _ other => ⟨fun same => other ?_, rfl⟩⟩
      rw [copy]
      exact congrArg some same
    · rw [without fun q own named => mine ⟨q, own, named⟩]
      exact ⟨tk, taken, copy, ready.imp_right fun h => h.resolve_right mine,
        fun q own named => absurd ⟨q, own, named⟩ mine⟩
  obtain ⟨done, served⟩ := serveList_due (b := b) s.port.bayOrder[b] (s := s.fedPast b) (by rw [bay_fedPast]; rfl)
    fun k mem => by
      obtain ⟨tk, taken, copy, ready, _⟩ := copied k mem
      exact .inr ⟨taken, tk, copy, ready⟩
  have eq : s.removeBay b = State.serveList b s.port.bayOrder[b] (s.fedPast b) := by
    rw [removeBay_eq_served, State.serveBay, order]
  rw [eq]
  refine ⟨done, fun k mem => ?_⟩
  obtain ⟨tk, _, copy, _, own⟩ := copied k mem
  obtain ⟨_, answered, result⟩ := served k
  refine ⟨answered tk mem copy, fun q mine named other => ?_⟩
  obtain ⟨kind, got⟩ := own q mine named other
  rw [result tk _ mem copy kind got]
  exact ⟨(by decide : (plainAnswer .bayEmptied).word = 0x0006#16), rfl⟩

/-- The feed of a removed feeding bay passes to the twin or its channel closes. -/
theorem removeBay_feed {s : State} {b : BayId} (fed : (s.bay b).state = .feeding) :
    s.PassesFeed (s.removeBay b) b .removed .removed := by
  obtain ⟨unfit, still⟩ := emptyBay_out s b
  have now : (s.emptyBay b).outside.now = s.outside.now :=
    (emptyBay_keeps (·.outside.now) (fun _ _ => rfl) (fun _ _ _ => rfl) (fun _ _ => rfl) (fun _ => rfl) s b).trans
      (congrArg Outside.now (removeAtEngine_outside s b))
  have passed := feedLost_passes .removed ((onlyBay_emptyBay s b).fedAlike now) unfit still
  have lost : s.fedPast b = (s.emptyBay b).feedLost b .removed := if_pos fed
  rw [← lost] at passed
  obtain ⟨bays, channels, _, _, _, _, _, _, _, _, _, noticed⟩ := removeBay_rest s b
  exact passed.carry (feedRead_of_same (by simp only [State.chan, channels]) (fun x _ => by simp only [State.bay, bays])
    (noticed _))

/-! ### The transactions of the engine -/

theorem without_transaction {a : Activity} {b : BayId} {t : Transaction} (h : (a.without b).transaction = some t) :
    t.bay ≠ b := by
  unfold Activity.without at h
  split at h
  · split at h
    · exact nomatch h
    · next other => obtain rfl := Option.some.inj h; exact other
  · split at h
    · exact nomatch h
    · next other => obtain rfl := Option.some.inj h; exact other
  · exact nomatch h

/-- A transaction of another bay goes on. -/
theorem without_other {a : Activity} {b : BayId} {t : Transaction} (other : t.bay ≠ b) (h : a.transaction = some t) :
    a.without b = a ∧ a ≠ .idle := by
  cases a with
  | idle => exact nomatch h
  | attempt x | gap x n =>
    obtain rfl := Option.some.inj h
    exact ⟨if_neg other, nofun⟩

theorem transaction_iff {a : Activity} {t : Transaction} : (a = .attempt t ∨ ∃ ends, a = .gap t ends) ↔ a.transaction = some t := by
  cases a <;> simp [Activity.transaction]

/-! ### The whole event -/

/-- The engine of a removed bay at the end of the event: no work of the bay is left and none begins, a transaction of
another bay goes on, and the counts stand. -/
theorem removal_engine (s before : State) (b : BayId) :
    (∀ q ∈ (((s.removeBay b).endEvent before).eng (engOf b)).queue, q.bay ≠ b)
      ∧ (∀ q ∈ ((s.removeBay b).endEvent before).port.parked[engOf b], q.bay ≠ b)
      ∧ (∀ t, (((s.removeBay b).endEvent before).eng (engOf b)).activity.transaction = some t → t.bay ≠ b)
      ∧ (∀ t : Transaction, t.bay ≠ b → (s.eng (engOf b)).activity.transaction = some t →
          (((s.removeBay b).endEvent before).eng (engOf b)).activity = (s.eng (engOf b)).activity)
      ∧ (((s.removeBay b).endEvent before).eng (engOf b)).tallies = (s.eng (engOf b)).tallies := by
  obtain ⟨bays, _, _, engines, _, _, _, _, _, parked, _⟩ := removeBay_rest s b
  obtain ⟨activity, tallies, queue, rest⟩ := eng_removeAtEngine s b
  have engine : (s.emptyBay b).eng (engOf b) = (s.removeAtEngine b).eng (engOf b) :=
    emptyBay_keeps (·.eng (engOf b)) (fun _ _ => rfl) (fun _ _ _ => rfl) (fun _ _ => rfl) (fun _ => rfl) s b
  have waiting : (s.emptyBay b).port.parked = (s.removeAtEngine b).port.parked :=
    emptyBay_keeps (·.port.parked) (fun _ _ => rfl) (fun _ _ _ => rfl) (fun _ _ => rfl) (fun _ => rfl) s b
  have eng : (s.removeBay b).eng (engOf b) = (s.removeAtEngine b).eng (engOf b) :=
    (eng_of_engines engines _).trans engine
  have bay : (s.removeBay b).bay b = { Bay.default with burnToken := (s.bay b).burnToken } := by
    rw [← bay_fedPast]
    simp only [State.bay, bays]
  rw [← eng] at activity tallies queue
  rw [← waiting, ← parked] at rest
  have kept := kept_endEvent (s.removeBay b) before
  have spares := fun t => engine_spares (t := t) before (s := s.removeBay b) (b := b) (by rw [bay]; rfl) queue
    fun t h => without_transaction (a := (s.eng (engOf b)).activity) (by rw [← activity]; exact h)
  generalize (s.removeBay b).endEvent before = t at *
  refine ⟨?_, ?_, spares, fun x other flies => ?_, (kept.tallies _).trans tallies⟩
  · have same : (t.eng (engOf b)).queue = ((s.removeBay b).eng (engOf b)).queue :=
      (congrArg Engine.queue (kept.engines (engOf b)) :)
    rw [same]
    exact queue
  · have same : t.port.parked = (s.removeBay b).port.parked := (congrArg Port.parked kept.port :)
    rw [same]
    exact rest
  · obtain ⟨same, busy⟩ := without_other other flies
    rw [kept.inFlight (engOf b) (by rw [activity, same]; exact busy), activity, same]

/-- What a removal leaves of the other bays and of the entries where its feed does not pass on (R34, R51). -/
theorem removal_shut {s : State} {b : BayId} (h : (s.bay b).state ≠ .feeding ∨ s.eligible (twinOf b) = false)
    (before : State) :
    (∀ x, x ≠ b → (((s.removeBay b).endEvent before).bay x).settled = (s.bay x).settled)
      ∧ ((s.removeBay b).endEvent before).history.live.map Entry.content = s.history.live.map (s.bay b).unlinked := by
  have only := onlyBay_emptyBay s b
  have now : (s.emptyBay b).outside.now = s.outside.now :=
    (emptyBay_keeps (·.outside.now) (fun _ _ => rfl) (fun _ _ _ => rfl) (fun _ _ => rfl) (fun _ => rfl) s b).trans
      (congrArg Outside.now (removeAtEngine_outside s b))
  obtain ⟨shutBays, shutHistory⟩ := fedPast_shut (h.imp_right fun unfit => (only.fedAlike now).el.trans unfit)
  obtain ⟨bays, _, history, _⟩ := removeBay_rest s b
  have kept := kept_endEvent (s.removeBay b) before
  refine ⟨fun x other => (kept.bays x).trans ?_, kept.history.trans ?_⟩
  · rw [← only.bays x other]
    simp only [State.bay, bays, shutBays]
  · rw [history, shutHistory]
    exact live_emptyBay s b

/-- Settles O47: the bay's work is dropped at its engine and answered, its context emptied, its feed passed on, its order
list served. -/
theorem removalEmptiesTheBay : Obligations.RemovalEmptiesTheBay := by
  intro b s
  refine ⟨fun absent => congrArg Host.Outcome.next (if_neg (by rw [absent]; exact nofun)), fun seated empty => ?_,
    fun seated full => ?_⟩
  · exact congrArg Host.Outcome.next ((if_pos seated).trans (if_pos empty))
  · refine ⟨((s.unseat b).removeBay b).endEvent s, congrArg Host.Outcome.next ((if_pos seated).trans (if_neg full)), ?_⟩
    obtain ⟨queue, parked, spares, goesOn, tallies⟩ := removal_engine (s.unseat b) s b
    obtain ⟨bays, _, _, _, auth, outside, flash, latch, test, _, noticed, _⟩ := removeBay_rest (s.unseat b) b
    obtain ⟨fifo, current⟩ := withdraw_leaves s.auth b
    have shut := removal_shut (s := s.unseat b) (b := b)
    have gone : ((s.unseat b).removeBay b).outside.tags[b] = none := by rw [outside]; exact unseat_tags s b
    have absent : ((s.unseat b).removeBay b).outside.presence[b] = false := by rw [outside]; exact updAt_self ..
    have tagless := endEvent_tags_none _ s b gone
    have raised : ((s.unseat b).emptyBay b).notified .bay = true := (notified_raise ..).trans (Bool.or_true _)
    have context : ((s.unseat b).removeBay b).bay b = { Bay.default with burnToken := (s.bay b).burnToken } :=
      Eq.trans (by simp only [State.bay, bays]) (bay_fedPast (s.unseat b) b)
    have emptied := bay_endEvent_of_noWants s (s := (s.unseat b).removeBay b) (b := b) (by rw [context]; rfl)
    have kept := kept_endEvent ((s.unseat b).removeBay b) s
    have passes (fed : (s.bay b).state = .feeding) :
        s.PassesFeed (((s.unseat b).removeBay b).endEvent s) b .removed .removed :=
      .of_alike (fedAlike_of_same (s := s) (u := s.unseat b) rfl rfl rfl rfl _)
        ((removeBay_feed (s := s.unseat b) fed).carry (kept.feedRead _))
    have shut' := fun h => shut h s
    generalize ((s.unseat b).removeBay b).endEvent s = t at *
    simp only [Engine.tallies, Prod.mk.injEq] at tallies
    obtain ⟨retries, discards, _, _⟩ := tallies
    refine ⟨emptied.trans context, ?_, tagless, kept.notified (noticed _ raised), queue, parked,
      fun tr flies => spares tr (transaction_iff.mp flies), fun tr other flies => goesOn tr other (transaction_iff.mp flies),
      discards, retries, fun mine => ?_, fun due => ?_, ?_, fun r w own name => ?_, kept.flash.trans flash,
      kept.latch.trans latch, fun h => shut' h, fun fed unfit => ?_, fun fed fit open' small => ?_⟩
    · have same : t.outside.presence = ((s.unseat b).removeBay b).outside.presence :=
        (congrArg Outside.presence kept.outside :)
      rw [same]
      exact absent
    · obtain ⟨record, notice⟩ := test_emptyBay (s := s.unseat b) mine
      exact ⟨kept.selfTest.trans (test.trans record), kept.notified (noticed _ notice)⟩
    · obtain ⟨order, answered⟩ := removeBay_tickets (s := s.unseat b) due
      refine ⟨by rw [kept.bayOrder]; exact order, fun k mem => ?_⟩
      obtain ⟨hand, result⟩ := answered k mem
      rw [kept.slots k (.inl (by rw [hand]; exact nofun))]
      exact ⟨hand, result⟩
    · rw [kept.auth, auth]
      exact fifo
    · rw [kept.auth, auth]
      exact current r w own name
    · obtain ⟨closes, _⟩ := passes fed
      obtain ⟨closed, reason, cause, residue, _⟩ := closes unfit
      exact ⟨closed, reason, cause, residue⟩
    · obtain ⟨_, _, marks⟩ := (eligible_iff s (twinOf b)).mp fit
      obtain ⟨_, passesOn⟩ := passes fed
      obtain ⟨⟨valve, state⟩, ⟨cause, _⟩, _⟩ := passesOn fit open' (by rw [Nat.div_eq_of_lt small]; exact marks)
      rw [chanOf_twinOf] at valve cause
      exact ⟨valve, state, cause⟩

end Sys2Proof.Machine
end

section
/-! SUPPORT. Bays and history entries that name each other (R40, R41): the links, and what keeps them. -/

namespace Sys2Proof.Machine

/-! ### Links -/

/-- What an entry says of the cartridge it stands for: its serial, the bay it names and its book. -/
def Entry.link (e : Entry) : Serial × Option BayId × Nat := (e.serial, e.installedBay, e.book)

/-- The links of the live entries. -/
def History.links (h : History) : List (Serial × Option BayId × Nat) := h.live.map Entry.link

theorem links_serials (h : History) : h.links.map Prod.fst = h.live.map (·.serial) := by
  rw [History.links, List.map_map]
  rfl

/-- A table with the links of a sound one and no more places held for tombstones is sound. -/
theorem History.Sound.of_links {g h : History} (sound : g.Sound) (links : h.links = g.links)
    (tombs : h.tombs.length ≤ g.tombs.length) : h.Sound := by
  obtain ⟨serials, places⟩ := sound
  have live : h.live.length = g.live.length := by simpa [History.links] using congrArg List.length links
  refine ⟨?_, by omega⟩
  rw [← links_serials, links, links_serials]
  exact serials

/-- R40 and R41 of a state: serials once each, places enough, and each bay and entry that name each other with one book. -/
structure State.Linked (s : State) : Prop where
  sound : s.history.Sound
  state : ∀ b serial, (s.bay b).entry = some serial → (s.bay b).state.linkable = true
  forth : ∀ b serial, (s.bay b).entry = some serial → (serial, some b, (s.bay b).book) ∈ s.history.links
  back  : ∀ b serial n, (serial, some b, n) ∈ s.history.links → (s.bay b).entry = some serial

/-- In a sound table a live entry is found by its serial. -/
theorem entryOf_of_mem {s : State} (sound : s.history.Sound) {e : Entry} (live : e ∈ s.history.live) :
    s.entryOf e.serial = some e := by
  obtain ⟨serials, _⟩ := sound
  obtain ⟨l₁, l₂, split⟩ := List.append_of_mem live
  rw [split, List.map_append, List.map_cons, List.nodup_append] at serials
  obtain ⟨_, _, apart⟩ := serials
  refine List.find?_eq_some_iff_append.mpr ⟨beq_self_eq_true _, l₁, l₂, split, fun x hx => ?_⟩
  have differs := apart x.serial (List.mem_map_of_mem hx) e.serial List.mem_cons_self
  simpa using differs

theorem mem_of_entryOf {s : State} {serial : Serial} {e : Entry} (found : s.entryOf serial = some e) :
    e ∈ s.history.live ∧ e.serial = serial :=
  ⟨List.mem_of_find?_eq_some found, by simpa using List.find?_some found⟩

/-- R41 of a sound table, said with links. -/
theorem linked_iff (s : State) : s.Linked ↔ s.history.Sound ∧ s.EntriesFollow := by
  constructor
  · intro h
    refine ⟨h.sound, fun b serial names => ⟨h.state b serial names, ?_⟩, fun e live b seated => ?_⟩
    · obtain ⟨e, live, link⟩ := List.mem_map.mp (h.forth b serial names)
      obtain ⟨rfl, bay, book⟩ : e.serial = serial ∧ e.installedBay = some b ∧ e.book = (s.bay b).book := by
        simpa [Entry.link] using link
      exact ⟨e, entryOf_of_mem h.sound live, bay, book⟩
    · exact h.back b e.serial e.book (List.mem_map.mpr ⟨e, live, by rw [Entry.link, seated]⟩)
  · rintro ⟨sound, forth, back⟩
    refine ⟨sound, fun b serial names => (forth b serial names).1, fun b serial names => ?_, fun b serial n link => ?_⟩
    · obtain ⟨_, e, found, bay, book⟩ := forth b serial names
      obtain ⟨live, named⟩ := mem_of_entryOf found
      exact List.mem_map.mpr ⟨e, live, by rw [Entry.link, named, bay, book]⟩
    · obtain ⟨e, live, link⟩ := List.mem_map.mp link
      obtain ⟨named, bay, _⟩ : e.serial = serial ∧ e.installedBay = some b ∧ e.book = n := by
        simpa [Entry.link] using link
      rw [back e live b bay, named]

/-! ### What keeps them -/

/-- From `s` to `t` a sound history stays sound, and links that are right stay right. -/
structure Keeps (s t : State) : Prop where
  sound  : s.history.Sound → t.history.Sound
  linked : s.Linked → t.Linked

theorem Keeps.refl (s : State) : Keeps s s := ⟨id, id⟩

theorem Keeps.trans {s t u : State} (h : Keeps s t) (k : Keeps t u) : Keeps s u :=
  ⟨k.sound ∘ h.sound, k.linked ∘ h.linked⟩

/-- Operations one after the other keep the links. -/
theorem keeps_foldl {α : Type} (f : State → α → State) (h : ∀ s x, Keeps s (f s x)) (l : List α) (s : State) :
    Keeps s (l.foldl f s) := by
  induction l generalizing s with
  | nil => exact .refl s
  | cons x l ih => exact (h s x).trans (ih _)

/-- A change of a bay context that leaves the bay's side of its link as it was. -/
structure Bay.Aligned (x y : Bay) : Prop where
  entry : y.entry = x.entry
  state : x.state.linkable = true → y.state.linkable = true
  book  : y.book = x.book

theorem Bay.Aligned.refl (x : Bay) : x.Aligned x := ⟨rfl, id, rfl⟩

theorem Bay.Aligned.trans {x y z : Bay} (h : x.Aligned y) (k : y.Aligned z) : x.Aligned z :=
  ⟨k.entry.trans h.entry, fun l => k.state (h.state l), k.book.trans h.book⟩

/-- From `s` to `t` both sides of every link stay, and no place more is held for a tombstone. -/
structure Aligned (s t : State) : Prop where
  links : t.history.links = s.history.links
  tombs : t.history.tombs.length ≤ s.history.tombs.length
  bays  : ∀ b, (s.bay b).Aligned (t.bay b)

theorem Aligned.refl (s : State) : Aligned s s := ⟨rfl, le_rfl, fun _ => .refl _⟩

theorem Aligned.trans {s t u : State} (h : Aligned s t) (k : Aligned t u) : Aligned s u :=
  ⟨k.links.trans h.links, k.tombs.trans h.tombs, fun b => (h.bays b).trans (k.bays b)⟩

theorem Aligned.keeps {s t : State} (h : Aligned s t) : Keeps s t := by
  refine ⟨fun sound => sound.of_links h.links h.tombs, fun k => ⟨k.sound.of_links h.links h.tombs, ?_, ?_, ?_⟩⟩
  · intro b serial names
    exact (h.bays b).state (k.state b serial ((h.bays b).entry.symm.trans names))
  · intro b serial names
    rw [h.links, (h.bays b).book]
    exact k.forth b serial ((h.bays b).entry.symm.trans names)
  · intro b serial n link
    rw [h.links] at link
    exact (h.bays b).entry.trans (k.back b serial n link)

theorem aligned_foldl {α : Type} (f : State → α → State) (h : ∀ s x, Aligned s (f s x)) (l : List α) (s : State) :
    Aligned s (l.foldl f s) := by
  induction l generalizing s with
  | nil => exact .refl s
  | cons x l ih => exact (h s x).trans (ih _)

/-- A change beside history and bays. -/
theorem aligned_beside {s t : State} (history : t.history = s.history) (bays : t.bays = s.bays) : Aligned s t := by
  refine ⟨by rw [history], by rw [history], fun b => ?_⟩
  have same : t.bay b = s.bay b := by simp only [State.bay, bays]
  rw [same]
  exact .refl _

theorem keeps_beside {s t : State} (history : t.history = s.history) (bays : t.bays = s.bays) : Keeps s t :=
  (aligned_beside history bays).keeps

theorem aligned_updBay (s : State) (b : BayId) (f : Bay → Bay) (h : (s.bay b).Aligned (f (s.bay b))) :
    Aligned s (s.updBay b f) := by
  refine ⟨rfl, le_rfl, fun x => ?_⟩
  rw [bay_updBay]
  split
  · next here => rw [here]; exact h
  · exact .refl _

/-- A change of a bay that leaves entry, state and book. -/
theorem aligned_updBay_fixed (s : State) (b : BayId) (f : Bay → Bay)
    (h : ∀ x, (f x).entry = x.entry ∧ (f x).state = x.state ∧ (f x).book = x.book) : Aligned s (s.updBay b f) := by
  obtain ⟨entry, state, book⟩ := h (s.bay b)
  exact aligned_updBay s b f ⟨entry, fun l => by rw [state]; exact l, book⟩

theorem aligned_updHist (s : State) (f : History → History) (links : (f s.history).links = s.history.links)
    (tombs : (f s.history).tombs.length ≤ s.history.tombs.length) : Aligned s (s.updHist f) :=
  ⟨links, tombs, fun _ => .refl _⟩

/-- A change of entries that leaves serial, bay and book. -/
theorem aligned_updEntry (s : State) (serial : Serial) (f : Entry → Entry) (h : ∀ e, (f e).link = e.link) :
    Aligned s (s.updEntry serial f) := by
  refine aligned_updHist s _ ?_ le_rfl
  show (List.map _ s.history.live).map Entry.link = s.history.live.map Entry.link
  rw [List.map_map]
  refine List.map_congr_left fun e _ => ?_
  show Entry.link (if e.serial = serial then f e else e) = e.link
  split
  · exact h e
  · rfl

theorem aligned_makeDue (s : State) (serial : Serial) : Aligned s (s.makeDue serial) := by
  unfold State.makeDue
  split
  · exact .refl s
  · split
    · exact .refl s
    · split
      · exact .refl s
      · exact (aligned_updEntry s serial (fun e => { e with journalDue := true }) fun _ => rfl).trans
          (aligned_updHist _ _ rfl le_rfl)

/-- The places held for tombstones and the items that wait. -/
def History.held (h : History) : List Serial × List DueItem := (h.tombs, h.fifo)

theorem held_makeDue (s : State) (serial : Serial) : (s.makeDue serial).history.held = s.history.held := by
  unfold State.makeDue
  split
  · rfl
  · split
    · rfl
    · split <;> rfl

theorem held_makeAllDue (s : State) (l : List Serial) : (s.makeAllDue l).history.held = s.history.held := by
  unfold State.makeAllDue
  induction l generalizing s with
  | nil => rfl
  | cons x l ih => exact (ih _).trans (held_makeDue s x)

theorem tombs_makeDue (s : State) (serial : Serial) : (s.makeDue serial).history.tombs = s.history.tombs :=
  (congrArg Prod.fst (held_makeDue s serial) :)

theorem aligned_makeAllDue (s : State) (l : List Serial) : Aligned s (s.makeAllDue l) :=
  aligned_foldl _ aligned_makeDue l s

theorem aligned_setSeen (s : State) (serial : Serial) (bits : SeenSet) : Aligned s (s.setSeen serial bits) := by
  unfold State.setSeen
  split
  · exact .refl s
  · split
    · exact .refl s
    · exact (aligned_updEntry s serial (fun e => { e with seen := e.seen ||| bits }) fun _ => rfl).trans
        (aligned_makeDue _ _)

theorem aligned_degrade (s : State) : Aligned s s.degrade := by
  unfold State.degrade
  split
  · exact .refl s
  · refine ⟨?_, Nat.zero_le _, fun _ => .refl _⟩
    show (List.map _ s.history.live).map Entry.link = s.history.live.map Entry.link
    rw [List.map_map]
    rfl

/-! ### The end of an event -/

/-- What the end of an event leaves alone keeps the links aligned where no tombstone place joins. -/
theorem KeptAtEnd.aligned {s t : State} (h : KeptAtEnd s t) (tombs : t.history.tombs.length ≤ s.history.tombs.length) :
    Aligned s t := by
  refine ⟨?_, tombs, fun b => ?_⟩
  · have links := congrArg (List.map Entry.link) h.history
    rw [List.map_map, List.map_map] at links
    exact links
  · exact ⟨(congrArg Bay.entry (h.bays b) :), fun l => ((congrArg Bay.state (h.bays b) :)) ▸ l,
      (congrArg Bay.book (h.bays b) :)⟩

/-- The places and the items stay, or the journal is degraded and the places go with it (R54). -/
theorem held_watchJournal (s : State) :
    s.watchJournal.history.held = s.history.held
      ∨ s.watchJournal.store.mode = .degraded ∧ s.watchJournal.history.tombs = [] := by
  have waiting : s.startWaiting.history.held = s.history.held := by
    unfold State.startWaiting
    split
    · unfold State.reclaimCheck
      split
      · rfl
      · split
        · rfl
        · exact held_makeAllDue _ _
    · rfl
  unfold State.watchJournal State.stalledTest State.degrade
  split
  · split
    · exact .inl waiting
    · exact .inr ⟨rfl, rfl⟩
  · exact .inl waiting

/-- The store controller lets no place go and no item out of its turn, but at a degradation. -/
theorem held_advanceStore (s before : State) :
    ((s.advanceStore before).history.tombs = s.history.tombs
        ∧ s.history.fifo <+: (s.advanceStore before).history.fifo)
      ∨ (s.advanceStore before).store.mode = .degraded ∧ (s.advanceStore before).history.tombs = [] := by
  have noted : (s.noteChange before).history = s.history := by
    obtain h | h := noteChange_cases s before <;> rw [h]
    rfl
  have started (u : State) : u.startStore.history = u.history ∧ u.startStore.store.mode = u.store.mode :=
    ⟨startStore_keeps (·.history) (fun _ _ _ => rfl) (fun _ _ _ => rfl) (fun _ _ _ => rfl) u,
      startStore_keeps (·.store.mode) (fun _ _ h => h _) (fun _ _ _ => rfl) (fun _ _ _ => rfl) u⟩
  have watched := held_watchJournal (s.noteChange before)
  rw [noted] at watched
  unfold State.advanceStore
  obtain ⟨history, mode⟩ := started (s.noteChange before).watchJournal.flushJoining
  rw [history, mode]
  obtain held | degraded := watched
  · obtain ⟨tombs, fifo⟩ := Prod.mk.inj held
    exact .inl ⟨tombs, fifo ▸ List.prefix_append _ _⟩
  · exact .inr degraded

theorem aligned_advanceStore (s before : State) : Aligned s (s.advanceStore before) := by
  refine (kept_advanceStore s before).aligned ?_
  obtain ⟨tombs, _⟩ | ⟨_, none'⟩ := held_advanceStore s before
  · rw [tombs]
  · rw [none']
    exact Nat.zero_le _

theorem aligned_arbitrateAll (s : State) (first : Nat) : Aligned s (s.arbitrateAll first) := by
  obtain ⟨_, history, _⟩ := arbitrateAll_beside s first
  exact (kept_arbitrateAll s first).aligned (by rw [history])

theorem aligned_publishSince (s before : State) : Aligned s (s.publishSince before) :=
  (kept_publishSince s before).aligned (by rw [State.publishSince_history])

theorem aligned_endQuiet (s before : State) : Aligned s (s.endQuiet before) := aligned_publishSince s before

theorem aligned_endStore (s before : State) : Aligned s (s.endStore before) :=
  (aligned_advanceStore s before).trans (aligned_publishSince _ before)

theorem aligned_advanceWork (s before : State) : Aligned s (s.advanceWork before) :=
  (aligned_advanceStore s before).trans (aligned_arbitrateAll _ _)

theorem aligned_endEvent (s before : State) : Aligned s (s.endEvent before) :=
  (aligned_advanceWork s before).trans (aligned_publishSince _ before)

theorem aligned_endTimed (s before : State) : Aligned s (s.endTimed before) :=
  ((aligned_advanceStore s before).trans (aligned_arbitrateAll _ _)).trans (aligned_publishSince _ before)

end Sys2Proof.Machine
end

section
/-! SUPPORT. The feed selector and the level checker keep the links of bays and entries. -/

namespace Sys2Proof.Machine

/-! ### Changes of a bay -/

theorem aligned_moveBay (s : State) (b : BayId) {st : BayState} (h : st.linkable = true) :
    Aligned s (s.moveBay b st) := by
  have history := moveBay_keeps s b st (·.history) (fun _ _ => rfl) fun _ _ => rfl
  refine ⟨congrArg History.links history, by rw [history], fun x => ?_⟩
  by_cases here : x = b
  · subst here
    rw [bay_moveBay_self]
    exact ⟨moved_entry .., fun _ => by rw [moved_state]; exact h, moved_book ..⟩
  · rw [bay_moveBay_other s b x st here]
    exact .refl _

theorem aligned_raise (s : State) (n : Notice) : Aligned s (s.raise n) := aligned_beside rfl rfl

theorem aligned_setVerdict (s : State) (b : BayId) (v : Verdict) (r : VerdictReason) :
    Aligned s (s.setVerdict b v r) := by
  unfold State.setVerdict
  split
  · exact .refl s
  · refine .trans ?_ (aligned_raise _ .bay)
    exact aligned_updBay_fixed s b _ fun _ => ⟨rfl, rfl, rfl⟩

theorem aligned_raiseDepletedWant (s : State) (b : BayId) : Aligned s (s.raiseDepletedWant b) := by
  rw [raiseDepletedWant_eq]
  exact aligned_updBay_fixed s b _ fun _ => ⟨rfl, rfl, rfl⟩

theorem aligned_raiseRefillMarkWant (s : State) (b : BayId) : Aligned s (s.raiseRefillMarkWant b) := by
  rw [raiseRefillMarkWant_eq]
  exact aligned_updBay_fixed s b _ fun _ => ⟨rfl, rfl, rfl⟩

theorem aligned_emptyWindow (s : State) (b : BayId) : Aligned s (s.emptyWindow b) :=
  aligned_updBay_fixed s b _ fun _ => ⟨rfl, rfl, rfl⟩

/-! ### A conversion (R41, R73) -/

/-- The links after the book of the linked serial has become `n`. -/
def rebooked (entry : Option Serial) (n : Nat) (l : Serial × Option BayId × Nat) : Serial × Option BayId × Nat :=
  if entry = some l.1 then (l.1, l.2.1, n) else l

theorem rebooked_fst (entry : Option Serial) (n : Nat) (l : Serial × Option BayId × Nat) :
    (rebooked entry n l).1 = l.1 ∧ (rebooked entry n l).2.1 = l.2.1 := by
  unfold rebooked
  split <;> exact ⟨rfl, rfl⟩

/-- A serial has one link. -/
theorem State.Linked.unique {s : State} (h : s.Linked) {k l : Serial × Option BayId × Nat} (hk : k ∈ s.history.links)
    (hl : l ∈ s.history.links) (same : k.1 = l.1) : k = l := by
  obtain ⟨serials, _⟩ := h.sound
  rw [← links_serials] at serials
  exact List.inj_on_of_nodup_map serials hk hl same

/-- A bay's book and that of its entry take one figure. -/
theorem keeps_rebooked {s t : State} (b : BayId) (n : Nat)
    (links : t.history.links = s.history.links.map (rebooked (s.bay b).entry n))
    (tombs : t.history.tombs = s.history.tombs) (entry : (t.bay b).entry = (s.bay b).entry)
    (state : (t.bay b).state = (s.bay b).state) (book : (t.bay b).book = n)
    (others : ∀ x, x ≠ b → t.bay x = s.bay x) : Keeps s t := by
  have kept (h : s.history.Sound) : t.history.Sound := by
    obtain ⟨serials, places⟩ := h
    have live : t.history.live.length = s.history.live.length := by
      simpa [History.links] using congrArg List.length links
    refine ⟨?_, by rw [tombs, live]; exact places⟩
    have same : t.history.links.map Prod.fst = s.history.links.map Prod.fst := by
      rw [links, List.map_map]
      exact List.map_congr_left fun l _ => (rebooked_fst _ n l).1
    rw [← links_serials, same, links_serials]
    exact serials
  refine ⟨kept, fun h => ⟨kept h.sound, fun x serial names => ?_, fun x serial names => ?_, fun x serial m link => ?_⟩⟩
  · by_cases hx : x = b
    · subst hx; rw [state]; exact h.state x serial (entry.symm.trans names)
    · rw [others x hx] at names ⊢; exact h.state x serial names
  · rw [links]
    by_cases hx : x = b
    · subst hx
      rw [entry] at names
      refine List.mem_map.mpr ⟨_, h.forth x serial names, ?_⟩
      rw [book, rebooked, if_pos names]
    · rw [others x hx] at names ⊢
      refine List.mem_map.mpr ⟨_, h.forth x serial names, if_neg fun linked => hx ?_⟩
      have one := h.unique (h.forth x serial names) (h.forth b serial linked) rfl
      exact Option.some.inj (congrArg (·.2.1) one :)
  · rw [links] at link
    obtain ⟨⟨serial', bay, m'⟩, old, same⟩ := List.mem_map.mp link
    obtain ⟨serials, bays⟩ := rebooked_fst (s.bay b).entry n (serial', bay, m')
    rw [same] at serials bays
    obtain rfl : serial = serial' := serials
    obtain rfl : some x = bay := bays
    have names := h.back x serial m' old
    by_cases hx : x = b
    · subst hx; rw [entry]; exact names
    · rw [others x hx]; exact names

theorem links_updEntry_book (s : State) (serial : Serial) (n : Nat) :
    (s.updEntry serial fun e => { e with book := n }).history.links = s.history.links.map (rebooked (some serial) n) := by
  show (List.map _ s.history.live).map Entry.link = (s.history.live.map Entry.link).map _
  rw [List.map_map, List.map_map]
  refine List.map_congr_left fun e _ => ?_
  show Entry.link (if e.serial = serial then { e with book := n } else e) = rebooked (some serial) n e.link
  unfold rebooked
  by_cases h : e.serial = serial
  · rw [if_pos h, if_pos (show some serial = some e.link.1 from congrArg some h.symm)]; rfl
  · rw [if_neg h, if_neg fun k : some serial = some e.link.1 => h (Option.some.inj k).symm]

/-- The history table after the entry of a bay has followed its book (R41, R73). -/
theorem links_followBook (s : State) (b : BayId) (before : Nat) :
    (s.followBook b before).history.links = s.history.links.map (rebooked (s.bay b).entry (s.bay b).book)
      ∧ (s.followBook b before).history.tombs = s.history.tombs := by
  unfold State.followBook
  split
  · next none' =>
    rw [none']
    exact ⟨(List.map_id _).symm, rfl⟩
  · next serial some' =>
    rw [some']
    simp only
    have followed := links_updEntry_book s serial (s.bay b).book
    split
    · exact ⟨(aligned_makeDue _ serial).links.trans followed, tombs_makeDue _ serial⟩
    · exact ⟨followed, rfl⟩

theorem keeps_convert (s : State) (c : ChanId) (b : BayId) : Keeps s (s.convert c b) := by
  obtain ⟨_, self⟩ := bay_convert_self s c b
  rw [convert_eq] at self ⊢
  split at self
  · next none' =>
    rw [if_pos none']
    refine Keeps.trans (keeps_beside (t := s.updChan c _) rfl rfl) (aligned_updBay _ b _ ⟨rfl, id, ?_⟩).keeps
    rw [none']
    rfl
  · next applied =>
    have same := bay_convert_other s c b
    rw [convert_eq, if_neg applied] at same
    rw [if_neg applied]
    obtain ⟨links, tombs⟩ := links_followBook (s.chargeMarks c b) b (s.bay b).book
    have aside (u : State) (n : Nat) : ((u.raiseBurnWant b).levelCrossing b n).history = u.history := by
      have level (v : State) : (v.levelCrossing b n).history = v.history := by
        unfold State.levelCrossing
        split
        · rfl
        · split <;> rfl
      rw [level, raiseBurnWant_eq]
      rfl
    have charged : ((s.chargeMarks c b).bay b).entry = (s.bay b).entry
        ∧ ((s.chargeMarks c b).bay b).book = (s.bay b).book - s.marksApplied c b := by
      rw [State.chargeMarks, State.bay_updBay_self]
      exact ⟨rfl, rfl⟩
    refine keeps_rebooked b ((s.bay b).book - s.marksApplied c b) ?_ (by rw [aside]; exact tombs) (by rw [self])
      (by rw [self]) (by rw [self]) same
    rw [aside, links, charged.1, charged.2]
    rfl

theorem keeps_updBay_fixed (s : State) (b : BayId) (f : Bay → Bay)
    (h : ∀ x, (f x).entry = x.entry ∧ (f x).state = x.state ∧ (f x).book = x.book) : Keeps s (s.updBay b f) :=
  (aligned_updBay_fixed s b f h).keeps

theorem keeps_updChan (s : State) (c : ChanId) (f : Channel → Channel) : Keeps s (s.updChan c f) :=
  keeps_beside rfl rfl

end Sys2Proof.Machine
end

section
/-! SUPPORT. The steps of the feed selector as a bay's book and its entry see them, and what such steps keep. -/

namespace Sys2Proof.Machine

/-! ### The steps -/

/-- What a bay's link and the charging of its marks depend on. -/
def Bay.account (x : Bay) : Option Serial × BayState × Nat × Nat × Option Identity :=
  (x.entry, x.state, x.book, x.pending, x.identity)

/-- From `s` to `t` by conversions, moves of bays that are past their insertion, the feed's notices, and changes of
channels and bays beside residues and accounts. -/
inductive FeedWalk : State → State → Prop
  | refl (s : State) : FeedWalk s s
  | trans {s t u : State} : FeedWalk s t → FeedWalk t u → FeedWalk s u
  | raise (s : State) (n : Notice) (h : n.ofFeed = true) : FeedWalk s (s.raise n)
  | chan (s : State) (c : ChanId) (f : Channel → Channel) (h : ∀ x, (f x).residue = x.residue) :
      FeedWalk s (s.updChan c f)
  | bay (s : State) (b : BayId) (f : Bay → Bay) (h : ∀ x, (f x).account = x.account) : FeedWalk s (s.updBay b f)
  | state (s : State) (b : BayId) (st : BayState) (h : st.linkable = true) :
      FeedWalk s (s.updBay b fun x => { x with state := st })
  | convert (s : State) (b : BayId) : FeedWalk s (s.convert (chanOf b) b)

theorem FeedWalk.keeps {s t : State} (h : FeedWalk s t) : Keeps s t := by
  induction h with
  | refl s => exact .refl s
  | trans _ _ ih₁ ih₂ => exact ih₁.trans ih₂
  | raise | chan => exact keeps_beside rfl rfl
  | bay s b f h =>
    refine (aligned_updBay s b f ⟨?_, fun linkable => ?_, ?_⟩).keeps
    · exact (congrArg Prod.fst (h (s.bay b)) :)
    · have same : (f (s.bay b)).state = (s.bay b).state := congrArg (·.2.1) (h (s.bay b))
      rw [same]
      exact linkable
    · exact (congrArg (·.2.2.1) (h (s.bay b)) :)
  | state s b st h => exact (aligned_updBay s b (fun x => { x with state := st }) ⟨rfl, fun _ => h, rfl⟩).keeps
  | convert s b => exact keeps_convert s _ b

/-! ### The feed selector (chapter 6) -/

theorem walk_updBay (s : State) (b : BayId) (f : Bay → Bay) (h : ∀ x, (f x).account = x.account) :
    FeedWalk s (s.updBay b f) := .bay s b f h

theorem walk_emptyWindow (s : State) (b : BayId) : FeedWalk s (s.emptyWindow b) := walk_updBay s b _ fun _ => rfl

theorem walk_moveBay (s : State) (b : BayId) {st : BayState} (h : st.linkable = true) : FeedWalk s (s.moveBay b st) := by
  have timed (u : State) : FeedWalk u ((u.startSenseTimer b).emptyWindow b) := by
    refine .trans ?_ (walk_emptyWindow _ b)
    exact walk_updBay u b _ fun _ => rfl
  have level (u : State) : FeedWalk u (if st = .drained then u.raise .level else u) := by
    split
    · exact .raise u .level rfl
    · exact .refl u
  unfold State.moveBay
  simp only
  split
  · exact .refl s
  · have moved := ((FeedWalk.state s b st h).trans (.raise _ .bay rfl)).trans (level _)
    split
    · exact moved.trans (timed _)
    · split
      · exact moved.trans (walk_updBay _ b _ fun _ => rfl)
      · exact moved

theorem walk_turnTo (s : State) (c : ChanId) (b : BayId) (cause : FeedCause) : FeedWalk s (s.turnTo c b cause) := by
  unfold State.turnTo
  simp only
  refine .trans ?_ (.chan _ c _ fun _ => rfl)
  refine .trans ?_ (walk_moveBay _ b rfl)
  split
  · split
    · exact walk_moveBay s _ rfl
    · exact .refl s
  · exact .refl s

theorem walk_takeUp (s : State) (old : Option BayId) (b : BayId) : FeedWalk s (s.takeUp (chanOf b) old b) := by
  have window (u : State) : FeedWalk u (match old with
      | some o => u.emptyWindow o
      | none => u) := by
    split
    · exact walk_emptyWindow u _
    · exact .refl u
  unfold State.takeUp
  refine .trans ?_ (.raise _ .channel rfl)
  refine .trans ?_ (.chan _ _ _ fun _ => rfl)
  exact ((FeedWalk.convert s b).trans (window _)).trans (walk_emptyWindow _ b)

theorem walk_drain (s : State) (b : BayId) : FeedWalk s (s.drain b) :=
  (walk_updBay s b (fun x => { x with barReason := s.barReasonOf b }) fun _ => rfl).trans (walk_moveBay _ b rfl)

theorem walk_afterMarks (s : State) (c : ChanId) (b : BayId) : FeedWalk s (s.afterMarks c b).1 := by
  unfold State.afterMarks
  split
  · simp only
    split <;> exact walk_drain s b
  · split <;> exact .refl s

theorem walk_closeChannel (s : State) (c : ChanId) (cause : FeedCause) : FeedWalk s (s.closeChannel c cause) := by
  refine .trans ?_ (.raise _ .channel rfl)
  exact .chan s c _ fun _ => rfl

theorem walk_beginFeeding (n : Nat) (s : State) {c : ChanId} {b : BayId} (own : chanOf b = c) (cause : FeedCause) :
    FeedWalk s (s.beginFeeding n c b cause) := by
  subst own
  have fedTo (s : State) (b : BayId) (cause : FeedCause) : FeedWalk s (s.fedTo b cause) :=
    (walk_turnTo s _ b cause).trans (walk_takeUp _ _ b)
  induction n generalizing s b cause with
  | zero =>
    unfold State.beginFeeding
    simp only
    split <;> exact fedTo s b cause
  | succ n ih =>
    have marks := (fedTo s b cause).trans (walk_afterMarks _ (chanOf b) b)
    have twin (u : State) (cause' : FeedCause) := ih u (b := twinOf b) cause'
    rw [chanOf_twinOf] at twin
    rw [beginFeeding_eq]
    split
    · exact fedTo s b cause
    · simp only
      split
      · next after => rw [after] at marks; exact marks
      · next after => rw [after] at marks; exact marks.trans (twin _ _)
      · next after => rw [after] at marks; exact marks.trans (walk_closeChannel _ _ _)

theorem walk_feedFrom (s : State) {c : ChanId} {b : BayId} (own : chanOf b = c) (cause : FeedCause) :
    FeedWalk s (s.feedFrom c b cause) := walk_beginFeeding feedBound s own cause

theorem walk_feedLost (s : State) (b : BayId) (cause : FeedCause) : FeedWalk s (s.feedLost b cause) := by
  unfold State.feedLost
  split
  · exact walk_feedFrom s (chanOf_twinOf b) cause
  · exact walk_closeChannel s _ cause

theorem walk_thresholdTest (s : State) (c : ChanId) : FeedWalk s (s.thresholdTest c) := by
  unfold State.thresholdTest
  split
  · split
    · next b hb => exact walk_feedFrom s ((chanOf_twinOf b).trans (chanOf_feedingBay s c b hb)) _
    · exact .refl s
  · exact .refl s

theorem walk_becameEligible (s : State) (b : BayId) : FeedWalk s (s.becameEligible b) := by
  unfold State.becameEligible
  simp only
  split
  · exact walk_thresholdTest s _
  · split
    · next x hx => exact walk_feedFrom s (chanOf_openingChoice s _ x hx) _
    · exact .refl s

theorem walk_chargeFeeding (s : State) (b : BayId) : FeedWalk s (s.chargeFeeding b) := by
  have marks := (FeedWalk.convert s b).trans (walk_afterMarks _ (chanOf b) b)
  unfold State.chargeFeeding
  split
  · exact .convert s b
  · split
    · next after => rw [after] at marks; exact marks
    · next after => rw [after] at marks; exact marks.trans (walk_feedFrom _ (chanOf_twinOf b) _)
    · next after => rw [after] at marks; exact marks.trans (walk_closeChannel _ _ _)

/-! ### Re-evaluation and the end of an insertion (R31) -/

theorem ineligibleState_linkable (x : Bay) : x.ineligibleState.linkable = true := by
  obtain ⟨h, _⟩ | ⟨h, _⟩ := ineligibleState_cases x <;> rw [h] <;> rfl

theorem walk_reevaluate (s : State) (b : BayId) : FeedWalk s (s.reevaluate b) := by
  have bar : FeedWalk s (s.updBay b fun x => { x with barReason := s.barReasonOf b }) :=
    walk_updBay s b _ fun _ => rfl
  unfold State.reevaluate
  simp only
  split
  · refine bar.trans ?_
    split
    · exact .refl _
    · split
      · split
        · exact (walk_moveBay _ b rfl).trans (walk_becameEligible _ b)
        · exact .refl _
      · have out := walk_moveBay (s.updBay b fun x => { x with barReason := s.barReasonOf b }) b
          (ineligibleState_linkable ((s.updBay b fun x => { x with barReason := s.barReasonOf b }).bay b))
        split
        · exact out.trans (walk_feedLost _ b _)
        · exact out
  · exact .refl s

theorem walk_placeBay (s : State) (b : BayId) {st : BayState} (h : st.linkable = true) :
    FeedWalk s (s.placeBay b st) := by
  have barred : FeedWalk s (s.updBay b fun x => { x with barReason := s.barReasonOf b }) :=
    walk_updBay s b _ fun _ => rfl
  unfold State.placeBay
  rw [raiseRefillMarkWant_eq, raiseDepletedWant_eq, raiseBurnWant_eq]
  refine .trans ?_ (walk_updBay _ b _ fun _ => rfl)
  refine .trans ?_ (walk_updBay _ b _ fun _ => rfl)
  refine .trans ?_ (walk_updBay _ b _ fun _ => rfl)
  exact barred.trans (walk_moveBay _ b h)

theorem walk_endInsertion (s : State) (b : BayId) : FeedWalk s (s.endInsertion b) := by
  rw [endInsertion_eq]
  split
  · exact (walk_placeBay s b rfl).trans (walk_becameEligible _ b)
  · exact walk_placeBay s b (ineligibleState_linkable _)

theorem keeps_feedLost (s : State) (b : BayId) (cause : FeedCause) : Keeps s (s.feedLost b cause) :=
  (walk_feedLost s b cause).keeps

theorem keeps_reevaluate (s : State) (b : BayId) : Keeps s (s.reevaluate b) := (walk_reevaluate s b).keeps

theorem keeps_endInsertion (s : State) (b : BayId) : Keeps s (s.endInsertion b) := (walk_endInsertion s b).keeps

theorem keeps_takeVolume (s : State) (c : ChanId) (v : Nat) : Keeps s (s.takeVolume c v) := by
  have total : Keeps s (s.updChan c fun ch => ch.addTotal v) := keeps_updChan s c _
  unfold State.takeVolume
  simp only
  split
  · exact total.trans (keeps_updChan _ c _)
  · next b hb =>
    obtain rfl := (chanOf_feedingBay _ c b hb).symm
    have add := keeps_updChan (s.updChan (chanOf b) fun ch => ch.addTotal v) (chanOf b)
      fun ch => { ch with residue := ch.residue + v }
    exact (total.trans add).trans (walk_chargeFeeding _ b).keeps

end Sys2Proof.Machine
end

section
/-! SUPPORT. The level checker keeps the links of bays and entries. -/

namespace Sys2Proof.Machine

/-! ### The level checker (chapter 7) -/

theorem aligned_applyConsequence (s : State) (b : BayId) (v : Verdict) (r : VerdictReason) :
    Aligned s (s.applyConsequence b v r) := by
  have burn (u : State) : Aligned u (if v = .foreign then
      u.updBay b fun x => { x with wants := { x.wants with burn := false } } else u) := by
    split
    · exact aligned_updBay_fixed u b _ fun _ => ⟨rfl, rfl, rfl⟩
    · exact .refl u
  have noted (u : State) : Aligned u (match (u.bay b).entry with
      | none => u
      | some serial => (u.updEntry serial fun e => { e with verdict := v }).makeDue serial) := by
    split
    · exact .refl u
    · next serial _ =>
      exact (aligned_updEntry u serial (fun e => { e with verdict := v }) fun _ => rfl).trans (aligned_makeDue _ _)
  unfold State.applyConsequence
  simp only
  split
  · exact ((aligned_setVerdict s b v r).trans (burn _)).trans (noted _)
  · exact .refl s

theorem aligned_setFlag (s : State) (b : BayId) (k : HeldKind) : Aligned s (s.setFlag b k) := by
  have alert (u : State) : Aligned u (u.alertFlag b k) := by
    unfold State.alertFlag
    split
    · exact aligned_raise u _
    · exact .refl u
  have judge (u : State) : Aligned u (u.judgeFlag b k) := by
    unfold State.judgeFlag
    split
    · exact aligned_applyConsequence u b _ _
    · exact .refl u
  have shows (u : State) : Aligned u (u.showFlag b k) := by
    unfold State.showFlag
    split
    · exact aligned_setSeen u _ _
    · exact .refl u
  have hold : Aligned s (s.holdFlag b k) := aligned_updBay_fixed s b _ fun _ => ⟨rfl, rfl, rfl⟩
  exact (((hold.trans (alert _)).trans (judge _)).trans (shows _)).trans (aligned_raiseRefillMarkWant _ b)

theorem keeps_fireCheck (s : State) (b : BayId) (k : HeldKind) : Keeps s (s.fireCheck b k) := by
  rw [fireCheck_eq]
  split
  · exact .refl s
  · exact (aligned_setFlag s b k).keeps.trans (keeps_reevaluate _ b)

theorem keeps_discardSample (s : State) (b : BayId) (why : SampleDiscard) : Keeps s (s.discardSample b why) := by
  refine .trans ?_ (keeps_updBay_fixed _ b _ fun _ => ⟨rfl, rfl, rfl⟩)
  exact keeps_updChan s (chanOf b) _

theorem keeps_useSample (s : State) (b : BayId) (p : Profile) (reading : Byte) : Keeps s (s.useSample b p reading) := by
  have fire (u : State) (k : HeldKind) (x : Bool) : Keeps u (if x = true then u.fireCheck b k else u) := by
    split
    · exact keeps_fireCheck u b k
    · exact .refl u
  unfold State.useSample
  simp only
  split
  · refine .trans ?_ (fire _ _ _)
    refine .trans ?_ (fire _ _ _)
    refine .trans ?_ (keeps_updBay_fixed _ b _ fun _ => ⟨rfl, rfl, rfl⟩)
    exact keeps_updBay_fixed s b _ fun _ => ⟨rfl, rfl, rfl⟩
  · refine .trans ?_ (keeps_updBay_fixed _ b _ fun _ => ⟨rfl, rfl, rfl⟩)
    exact keeps_updBay_fixed s b _ fun _ => ⟨rfl, rfl, rfl⟩

theorem keeps_takeSample (s : State) (b : BayId) (reading : Byte) (ok : Bool) : Keeps s (s.takeSample b reading ok) := by
  have start : Keeps s (s.startSenseTimer b) := keeps_updBay_fixed s b _ fun _ => ⟨rfl, rfl, rfl⟩
  unfold State.takeSample
  simp only
  refine start.trans ?_
  split
  · exact keeps_discardSample _ b _
  · split
    · exact keeps_discardSample _ b _
    · split
      · exact keeps_discardSample _ b _
      · exact keeps_useSample _ b _ _

theorem keeps_carryOutClear (s : State) (b : BayId) (a : Args) : Keeps s (s.carryOutClear b a).1 := by
  have clear (set : HeldSet) : Keeps s (s.clearFlags b set) := by
    unfold State.clearFlags
    simp only
    have dropped (u : State) : Keeps u (if (u.bay b).sense.held = 0#5 then
        u.updBay b fun x => { x with sense := { x.sense with snapshot := none } } else u) := by
      split
      · exact keeps_updBay_fixed u b _ fun _ => ⟨rfl, rfl, rfl⟩
      · exact .refl u
    have lower : Keeps s (s.updBay b fun x =>
        { x with sense := { x.sense with held := x.sense.held &&& ~~~set } }) :=
      keeps_updBay_fixed s b _ fun _ => ⟨rfl, rfl, rfl⟩
    have step := (lower.trans (aligned_emptyWindow _ b).keeps).trans (dropped _)
    split
    · exact step.trans (keeps_reevaluate _ b)
    · exact step
  unfold State.carryOutClear
  split
  · exact .refl s
  · split
    · exact .refl s
    · exact clear _

end Sys2Proof.Machine
end

section
/-! SUPPORT. Insertions, reconciliations, burns, faults and removals keep the links of bays and entries. -/

namespace Sys2Proof.Machine

/-! ### A bay without a link -/

/-- From `s` to `t` a sound history stays sound, and right links stay right where `p` holds. -/
structure KeepsIf (p : Prop) (s t : State) : Prop where
  sound  : s.history.Sound → t.history.Sound
  linked : p → s.Linked → t.Linked

/-- An operation on a bay that has no link and gets none. -/
structure Unlinked (b : BayId) (s t : State) : Prop extends KeepsIf ((s.bay b).entry = none) s t where
  free : (s.bay b).entry = none → (t.bay b).entry = none

theorem Unlinked.trans {b : BayId} {s t u : State} (h : Unlinked b s t) (k : Unlinked b t u) : Unlinked b s u :=
  ⟨⟨k.sound ∘ h.sound, fun f l => k.linked (h.free f) (h.linked f l)⟩, k.free ∘ h.free⟩

theorem Unlinked.followed {b : BayId} {s t u : State} (h : Unlinked b s t)
    (k : KeepsIf ((t.bay b).entry = none) t u) : KeepsIf ((s.bay b).entry = none) s u :=
  ⟨k.sound ∘ h.sound, fun f l => k.linked (h.free f) (h.linked f l)⟩

theorem KeepsIf.kept {p : Prop} {s t u : State} (h : KeepsIf p s t) (k : Keeps t u) : KeepsIf p s u :=
  ⟨k.sound ∘ h.sound, fun f l => k.linked (h.linked f l)⟩

theorem Keeps.when {s t : State} (h : Keeps s t) (p : Prop) : KeepsIf p s t := ⟨h.sound, fun _ => h.linked⟩

/-- A bay in a state that is not linkable has no link. -/
theorem State.Linked.free {s : State} (h : s.Linked) {b : BayId} (un : (s.bay b).state.linkable = false) :
    (s.bay b).entry = none := by
  cases linked : (s.bay b).entry with
  | none => rfl
  | some serial =>
    have link := h.state b serial linked
    rw [un] at link
    exact nomatch link

theorem KeepsIf.keeps {b : BayId} {s t : State} (h : KeepsIf ((s.bay b).entry = none) s t)
    (un : (s.bay b).state.linkable = false) : Keeps s t := ⟨h.sound, fun l => h.linked (l.free un) l⟩

theorem Aligned.unlinked {s t : State} (h : Aligned s t) (b : BayId) : Unlinked b s t :=
  ⟨h.keeps.when _, fun free => (h.bays b).entry.trans free⟩

/-- What a change of a bay without a link does: nothing to the links, be it of the bay's book or state. -/
theorem unlinked_of_bay {b : BayId} {s t : State} (history : t.history = s.history)
    (free : (s.bay b).entry = none → (t.bay b).entry = none) (others : ∀ x, x ≠ b → t.bay x = s.bay x) :
    Unlinked b s t := by
  refine ⟨⟨fun sound => by rw [history]; exact sound, fun none' h => ⟨by rw [history]; exact h.sound, ?_, ?_, ?_⟩⟩, free⟩
  · intro x serial names
    by_cases hx : x = b
    · subst hx; rw [free none'] at names; exact nomatch names
    · rw [others x hx] at names ⊢; exact h.state x serial names
  · intro x serial names
    by_cases hx : x = b
    · subst hx; rw [free none'] at names; exact nomatch names
    · rw [others x hx] at names ⊢; rw [history]; exact h.forth x serial names
  · intro x serial n link
    rw [history] at link
    have names := h.back x serial n link
    by_cases hx : x = b
    · subst hx; rw [none'] at names; exact nomatch names
    · rw [others x hx]; exact names

theorem unlinked_updBay (s : State) (b : BayId) (f : Bay → Bay) (h : ∀ x, x.entry = none → (f x).entry = none) :
    Unlinked b s (s.updBay b f) :=
  unlinked_of_bay rfl (fun free => by rw [State.bay_updBay_self]; exact h _ free) fun x hx =>
    State.bay_updBay_other s b x f hx

theorem unlinked_moveBay (s : State) (b : BayId) (st : BayState) : Unlinked b s (s.moveBay b st) :=
  unlinked_of_bay (moveBay_keeps s b st (·.history) (fun _ _ => rfl) fun _ _ => rfl)
    (fun free => by rw [bay_moveBay_self, moved_entry]; exact free) fun x hx => bay_moveBay_other s b x st hx

theorem unlinked_settleBay (s : State) (b : BayId) (gc : GaugeCase) (v : Verdict × VerdictReason) :
    Unlinked b s (s.settleBay b none gc v) :=
  .trans (unlinked_updBay s b (fun x => { x with entry := none, book := gc.book, pending := gc.pending }) fun _ _ => rfl)
    ((aligned_setVerdict _ b _ _).unlinked b)

/-! ### A bay and an entry linked (R44, R46 to R48) -/

/-- A bay takes up an entry that named no bay. -/
theorem State.Linked.link {s t : State} (h : s.Linked) {b : BayId} {serial : Serial} {n : Nat}
    (free : (s.bay b).entry = none) (sound : t.history.Sound)
    (here : (t.bay b).entry = some serial ∧ (t.bay b).state.linkable = true ∧ (t.bay b).book = n)
    (others : ∀ x, x ≠ b → t.bay x = s.bay x) (joins : (serial, some b, n) ∈ t.history.links)
    (only : ∀ l ∈ t.history.links, l = (serial, some b, n) ∨ l ∈ s.history.links)
    (stay : ∀ serial' x m, (serial', some x, m) ∈ s.history.links → (serial', some x, m) ∈ t.history.links) :
    t.Linked := by
  obtain ⟨entry, state, book⟩ := here
  refine ⟨sound, fun x serial' names => ?_, fun x serial' names => ?_, fun x serial' m link => ?_⟩
  · by_cases hx : x = b
    · subst hx; exact state
    · rw [others x hx] at names ⊢; exact h.state x serial' names
  · by_cases hx : x = b
    · subst hx
      rw [entry] at names
      rw [book, ← Option.some.inj names]
      exact joins
    · rw [others x hx] at names ⊢; exact stay _ _ _ (h.forth x serial' names)
  · obtain same | old := only _ link
    · obtain ⟨rfl, rfl, rfl⟩ : serial' = serial ∧ x = b ∧ m = n := by simpa using same
      exact entry
    · have names := h.back x serial' m old
      by_cases hx : x = b
      · subst hx; rw [free] at names; exact nomatch names
      · rw [others x hx]; exact names

/-- The bays after a reconciliation has settled one of them. -/
theorem bay_settleBay (s : State) (b : BayId) (e : Option Serial) (gc : GaugeCase) (v : Verdict × VerdictReason) :
    (s.settleBay b e gc v).bay b
        = { s.bay b with
            entry := e, book := gc.book, pending := gc.pending, verdict := v.1, verdictReason := v.2 }
      ∧ ∀ x, x ≠ b → (s.settleBay b e gc v).bay x = s.bay x := by
  refine ⟨by rw [State.settleBay, bay_setVerdict_self, State.bay_updBay_self], fun x hx => ?_⟩
  have set := (adjusts_setVerdict (s.updBay b fun x =>
    { x with entry := e, book := gc.book, pending := gc.pending }) b v.1 v.2).bays x hx
  exact set.trans (State.bay_updBay_other _ _ _ _ hx)

theorem settleBay_history (s : State) (b : BayId) (e : Option Serial) (gc : GaugeCase) (v : Verdict × VerdictReason) :
    (s.settleBay b e gc v).history = s.history := by
  unfold State.settleBay State.setVerdict
  split <;> rfl

/-- The links and the places after the counter has stepped (R42). -/
theorem stepStamp_keeps (h : History) :
    h.stepStamp.links = h.links ∧ h.stepStamp.tombs = h.tombs ∧ h.stepStamp.live.length = h.live.length := by
  unfold History.stepStamp
  simp only
  split
  · exact ⟨rfl, rfl, rfl⟩
  · refine ⟨?_, rfl, List.length_map _⟩
    show (List.map _ h.live).map Entry.link = h.live.map Entry.link
    rw [List.map_map]
    rfl

/-- The lowest use stamp is that of a candidate. -/
theorem mem_of_lowestStamp {l : List Entry} {v : Entry} (h : lowestStamp l = some v) : v ∈ l := by
  induction l generalizing v with
  | nil => exact nomatch h
  | cons e l ih =>
    unfold lowestStamp at h
    split at h
    · obtain rfl := Option.some.inj h; exact List.mem_cons_self
    · next m lowest =>
      split at h
      · obtain rfl := Option.some.inj h; exact List.mem_cons_self
      · obtain rfl := Option.some.inj h; exact List.mem_cons_of_mem _ (ih lowest)

/-- The table `g` has a place for a serial, taken from `h` (R44): no entry of the serial stands in it, every entry is one
of `h`, and none with a cartridge seated is missing. -/
structure History.Placed (h : History) (serial : Serial) (g : History) : Prop where
  serials : (g.live.map (·.serial)).Nodup
  absent  : serial ∉ g.live.map (·.serial)
  room    : g.live.length + g.tombs.length + 1 ≤ Config.historyPlaces
  only    : ∀ l ∈ g.links, l ∈ h.links
  stay    : ∀ serial' x n, (serial', some x, n) ∈ h.links → (serial', some x, n) ∈ g.links

/-- The entry evicted goes, and no entry with a cartridge seated with it. -/
theorem placed_evict {h : History} {serial : Serial} {v : Entry} (sound : h.Sound)
    (absent : serial ∉ h.live.map (·.serial)) (lowest : lowestStamp (h.live.filter Entry.evictable) = some v) (n : Nat) :
    h.Placed serial { h with live := h.live.filter fun e => e.serial != v.serial, evictions := n } := by
  obtain ⟨serials, places⟩ := sound
  obtain ⟨live, evictable⟩ := List.mem_filter.mp (mem_of_lowestStamp lowest)
  have left : (h.live.filter fun e => e.serial != v.serial).length < h.live.length :=
    List.length_filter_lt_length_iff_exists.mpr ⟨v, live, by simp⟩
  have sub := List.filter_sublist (l := h.live) (p := fun e => e.serial != v.serial)
  refine ⟨serials.sublist (sub.map _), fun k => absent ((sub.map _).subset k), ?_, fun l hl => (sub.map _).subset hl, ?_⟩
  · show (h.live.filter fun e => e.serial != v.serial).length + h.tombs.length + 1 ≤ _
    omega
  · intro serial' x m link
    obtain ⟨e, mem, linked⟩ := List.mem_map.mp link
    refine List.mem_map.mpr ⟨e, List.mem_filter.mpr ⟨mem, bne_iff_ne.mpr fun same => ?_⟩, linked⟩
    obtain rfl := List.inj_on_of_nodup_map serials mem live same
    have seated : e.installedBay = some x := (congrArg (·.2.1) linked :)
    simp [Entry.evictable, seated] at evictable

theorem placed_of_takePlace {h g : History} {serial : Serial} {waits : Bool} (sound : h.Sound)
    (absent : serial ∉ h.live.map (·.serial)) (taken : h.takePlace serial = some (g, waits)) : h.Placed serial g := by
  obtain ⟨serials, places⟩ := sound
  unfold History.takePlace at taken
  split at taken
  · next held =>
    obtain ⟨rfl, _⟩ := Prod.mk.inj (Option.some.inj taken)
    have mem : serial ∈ h.tombs := List.contains_iff_mem.mp held
    have less := List.length_erase_of_mem mem
    have some' := List.length_pos_of_mem mem
    refine ⟨serials, absent, ?_, fun l hl => hl, fun _ _ _ hl => hl⟩
    show h.live.length + (h.tombs.erase serial).length + 1 ≤ _
    omega
  · split at taken
    · next free =>
      obtain ⟨rfl, _⟩ := Prod.mk.inj (Option.some.inj taken)
      exact ⟨serials, absent, free, fun l hl => hl, fun _ _ _ hl => hl⟩
    · split at taken
      · exact nomatch taken
      · next v lowest =>
        obtain ⟨rfl, _⟩ := Prod.mk.inj (Option.some.inj taken)
        exact placed_evict ⟨serials, places⟩ absent lowest _

/-- A table with a place for a serial, the counter stepped, has it still. -/
theorem History.Placed.stepped {h g : History} {serial : Serial} (p : h.Placed serial g) :
    h.Placed serial g.stepStamp := by
  obtain ⟨links, tombs, length⟩ := stepStamp_keeps g
  have serials : g.stepStamp.live.map (·.serial) = g.live.map (·.serial) := by rw [← links_serials, links, links_serials]
  exact ⟨by rw [serials]; exact p.serials, by rw [serials]; exact p.absent, by rw [tombs, length]; exact p.room,
    by rw [links]; exact p.only, by rw [links]; exact p.stay⟩

/-- An entry put into its place. -/
theorem History.Placed.sound {h g : History} {serial : Serial} (p : h.Placed serial g) {e : Entry}
    (named : e.serial = serial) : ({ g with live := g.live ++ [e] } : History).Sound := by
  have room := p.room
  refine ⟨?_, ?_⟩
  · show ((g.live ++ [e]).map (·.serial)).Nodup
    rw [List.map_append, List.nodup_append]
    refine ⟨p.serials, List.nodup_singleton _, fun x hx y hy => ?_⟩
    rw [List.map_singleton, List.mem_singleton, named] at hy
    rw [hy]
    exact fun same => p.absent (same ▸ hx)
  · show (g.live ++ [e]).length + g.tombs.length ≤ _
    rw [List.length_append, List.length_singleton]
    omega

/-- The state of a reconciliation with a new entry, its checks and its end apart (R44, R47, R48). -/
theorem keepsIf_settleNew {s : State} {b : BayId} {g : History} {e : Entry} {gc : GaugeCase}
    (v : Verdict × VerdictReason) (state : (s.bay b).state.linkable = true)
    (placed : s.history.Sound → s.history.Placed e.serial g) (link : e.link = (e.serial, some b, gc.book)) :
    KeepsIf ((s.bay b).entry = none) s
      ((({ s with history := { g with live := g.live ++ [e] } }.makeDue e.serial).settleBay b (some e.serial) gc v)) := by
  have due := aligned_makeDue { s with history := { g with live := g.live ++ [e] } } e.serial
  have bays := makeDue_bays { s with history := { g with live := g.live ++ [e] } } e.serial
  generalize ({ s with history := { g with live := g.live ++ [e] } } : State).makeDue e.serial = u at due bays
  have bay (x : BayId) : u.bay x = s.bay x := by simp only [State.bay, bays]
  have settled := settleBay_history u b (some e.serial) gc v
  have links : (u.settleBay b (some e.serial) gc v).history.links = g.links ++ [(e.serial, some b, gc.book)] := by
    rw [settled, due.links, ← link]
    exact List.map_append
  have sound (h : s.history.Sound) : (u.settleBay b (some e.serial) gc v).history.Sound := by
    rw [settled]
    exact ((placed h).sound rfl).of_links due.links due.tombs
  obtain ⟨here, others⟩ := bay_settleBay u b (some e.serial) gc v
  refine ⟨sound, fun free h => h.link (serial := e.serial) (n := gc.book) free (sound h.sound) ?_
    (fun x hx => (others x hx).trans (bay x)) ?_ ?_ ?_⟩
  · rw [here]; exact ⟨rfl, by rw [bay]; exact state, rfl⟩
  · rw [links]; exact List.mem_append_right _ List.mem_cons_self
  · intro l hl
    rw [links] at hl
    obtain old | new := List.mem_append.mp hl
    · exact .inr ((placed h.sound).only l old)
    · exact .inl (List.mem_singleton.mp new)
  · intro serial' x m link
    rw [links]
    exact List.mem_append_left _ ((placed h.sound).stay _ _ _ link)

theorem keeps_fireInsertionChecks (s : State) (b : BayId) (conflict rise : Bool) :
    Keeps s (s.fireInsertionChecks b conflict rise) := by
  have fire (u : State) (k : HeldKind) (x : Bool) : Keeps u (if x = true then u.fireCheck b k else u) := by
    split
    · exact keeps_fireCheck u b k
    · exact .refl u
  exact (fire s _ _).trans (fire _ _ _)

theorem keepsIf_reconcileNew {s : State} {b : BayId} {id : Identity} {g : History} {waits : Bool}
    (state : (s.bay b).state.linkable = true) (absent : s.entryOf id.serial = none)
    (taken : s.history.takePlace id.serial = some (g, waits)) :
    KeepsIf ((s.bay b).entry = none) s (s.reconcileNew b id g waits) := by
  have none' : id.serial ∉ s.history.live.map (·.serial) := by
    intro mem
    obtain ⟨e, live, named⟩ := List.mem_map.mp mem
    have differs := List.find?_eq_none.mp absent e live
    simp [named] at differs
  refine KeepsIf.kept ?_ (keeps_endInsertion _ b)
  refine KeepsIf.kept ?_ (keeps_fireInsertionChecks _ b _ _)
  exact keepsIf_settleNew _ state (fun sound => (placed_of_takePlace sound none' taken).stepped) rfl

/-- The links after the entry of a serial has taken up a bay and a book. -/
def relinked (serial : Serial) (b : BayId) (n : Nat) (l : Serial × Option BayId × Nat) :
    Serial × Option BayId × Nat := if l.1 = serial then (serial, some b, n) else l

/-- The state of a reconciliation with an entry that is not installed, its checks and its end apart (R46 to R48). -/
theorem keepsIf_settleExisting {s : State} {b : BayId} {serial : Serial} {n : Nat} {gc : GaugeCase}
    (v : Verdict × VerdictReason) (f : Entry → Entry) (state : (s.bay b).state.linkable = true)
    (own : (serial, none, n) ∈ s.history.links)
    (link : ∀ x, x.serial = serial → (f x).link = (serial, some b, gc.book)) :
    KeepsIf ((s.bay b).entry = none) s
      (((s.updEntry serial f).makeDue serial).settleBay b (some serial) gc v) := by
  have due := aligned_makeDue (s.updEntry serial f) serial
  have bays := makeDue_bays (s.updEntry serial f) serial
  have took : (s.updEntry serial f).history.links = s.history.links.map (relinked serial b gc.book) := by
    show (List.map _ s.history.live).map Entry.link = (s.history.live.map Entry.link).map _
    rw [List.map_map, List.map_map]
    refine List.map_congr_left fun x _ => ?_
    show Entry.link (if x.serial = serial then f x else x) = if x.serial = serial then (serial, some b, gc.book) else x.link
    split
    · next named => exact link x named
    · rfl
  have tombs : (s.updEntry serial f).history.tombs = s.history.tombs := rfl
  have same : (s.updEntry serial f).bays = s.bays := rfl
  generalize (s.updEntry serial f).makeDue serial = u at due bays
  have bay (x : BayId) : u.bay x = s.bay x := by simp only [State.bay, bays, same]
  have settled := settleBay_history u b (some serial) gc v
  have links : (u.settleBay b (some serial) gc v).history.links = s.history.links.map (relinked serial b gc.book) := by
    rw [settled, due.links, took]
  have sound (h : s.history.Sound) : (u.settleBay b (some serial) gc v).history.Sound := by
    obtain ⟨serials, places⟩ := h
    have length : (u.settleBay b (some serial) gc v).history.live.length = s.history.live.length := by
      simpa [History.links] using congrArg List.length links
    have fewer := due.tombs
    rw [tombs] at fewer
    refine ⟨?_, by rw [length, settled]; omega⟩
    have firsts : (s.history.links.map (relinked serial b gc.book)).map Prod.fst = s.history.links.map Prod.fst := by
      rw [List.map_map]
      refine List.map_congr_left fun l _ => ?_
      show (if l.1 = serial then (serial, some b, gc.book) else l).1 = l.1
      split
      · next is => exact is.symm
      · rfl
    rw [← links_serials, links, firsts, links_serials]
    exact serials
  obtain ⟨here, others⟩ := bay_settleBay u b (some serial) gc v
  refine ⟨sound, fun free h => h.link (serial := serial) (n := gc.book) free (sound h.sound) ?_
    (fun x hx => (others x hx).trans (bay x)) ?_ ?_ ?_⟩
  · rw [here]; exact ⟨rfl, by rw [bay]; exact state, rfl⟩
  · rw [links]
    exact List.mem_map.mpr ⟨_, own, if_pos rfl⟩
  · intro l hl
    rw [links] at hl
    obtain ⟨k, old, rfl⟩ := List.mem_map.mp hl
    unfold relinked
    split
    · exact .inl rfl
    · exact .inr old
  · intro serial' x m old
    rw [links]
    refine List.mem_map.mpr ⟨_, old, if_neg fun is => ?_⟩
    have one := h.unique old own is
    exact nomatch (congrArg (·.2.1) one :)

theorem keepsIf_reconcileExisting {s : State} {b : BayId} {id : Identity} {e : Entry}
    (state : (s.bay b).state.linkable = true) (found : s.entryOf id.serial = some e) (away : e.installedBay = none) :
    KeepsIf ((s.bay b).entry = none) s (s.reconcileExisting b id e) := by
  obtain ⟨links, tombs, _⟩ := stepStamp_keeps s.history
  have stepped : Unlinked b s (s.updHist History.stepStamp) :=
    (aligned_updHist s _ links (by rw [tombs])).unlinked b
  have own : (id.serial, none, e.book) ∈ (s.updHist History.stepStamp).history.links := by
    obtain ⟨live, named⟩ := mem_of_entryOf found
    exact links ▸ List.mem_map.mpr ⟨e, live, by rw [Entry.link, named, away]⟩
  refine KeepsIf.kept ?_ (keeps_endInsertion _ b)
  refine KeepsIf.kept ?_ (keeps_fireInsertionChecks _ b _ _)
  exact stepped.followed (keepsIf_settleExisting _ _ state own fun x named => by rw [Entry.link, ← named])

/-- A reconciliation in any of its courses (R43 to R48). -/
theorem keepsIf_reconcile (s : State) (b : BayId) : KeepsIf ((s.bay b).entry = none) s (s.reconcile b) := by
  have moved := unlinked_moveBay s b .reconciling
  have state : ((s.moveBay b .reconciling).bay b).state.linkable = true := by
    rw [bay_moveBay_self, moved_state]; rfl
  unfold State.reconcile
  simp only
  refine moved.followed ?_
  generalize s.moveBay b .reconciling = u at state
  split
  · exact (keeps_endInsertion u b).when _
  · next id _ =>
    split
    · next e found =>
      split
      · exact (unlinked_settleBay u b _ _).toKeepsIf.kept (keeps_endInsertion _ b)
      · next away => exact keepsIf_reconcileExisting state found (Option.not_isSome_iff_eq_none.mp away)
    · next absent =>
      split
      · next taken => exact keepsIf_reconcileNew state absent taken
      · have counted : Unlinked b u (u.updHist fun h => { h with untracked := satAdd top16 h.untracked 1 }) :=
          (aligned_updHist u _ rfl le_rfl).unlinked b
        refine KeepsIf.kept ?_ (keeps_endInsertion _ b)
        refine KeepsIf.kept ?_ (keeps_fireInsertionChecks _ b _ _)
        exact (counted.trans (unlinked_settleBay _ b _ _)).toKeepsIf

/-! ### Identification and challenge -/

theorem unlinked_updBay_same (s : State) (b : BayId) (f : Bay → Bay) (h : ∀ x, (f x).entry = x.entry) :
    Unlinked b s (s.updBay b f) := unlinked_updBay s b f fun x free => (h x).trans free

theorem unlinked_beside {s t : State} (b : BayId) (history : t.history = s.history) (bays : t.bays = s.bays) :
    Unlinked b s t := (aligned_beside history bays).unlinked b

theorem unlinked_setVerdict (s : State) (b : BayId) (v : Verdict) (r : VerdictReason) :
    Unlinked b s (s.setVerdict b v r) := (aligned_setVerdict s b v r).unlinked b

theorem unlinked_wantStep (s : State) (b : BayId) (st : InsertionStep) : Unlinked b s (s.wantStep b st) :=
  unlinked_updBay_same s b _ fun _ => rfl

theorem unlinked_enterChallenging (s : State) (b : BayId) (id : Identity) :
    Unlinked b s (s.enterChallenging b id) := by
  have placed (u : State) (a : AuthEngine) : Unlinked b u { u with auth := a } := unlinked_beside b rfl rfl
  unfold State.enterChallenging
  simp only
  refine .trans ?_ (placed _ _)
  refine .trans ?_ (unlinked_wantStep _ b .challenge)
  refine .trans ?_ (unlinked_moveBay _ b .challenging)
  refine .trans ?_ (unlinked_updBay_same _ b _ fun _ => rfl)
  exact unlinked_beside b rfl rfl

theorem unlinked_takeGauge (s : State) (b : BayId) (g : GaugeBlock) : Unlinked b s (s.takeGauge b g) :=
  unlinked_updBay_same s b _ fun _ => rfl

theorem keepsIf_gotIdentity (s : State) (b : BayId) (blk : Block) :
    KeepsIf ((s.bay b).entry = none) s (s.gotIdentity b blk) := by
  unfold State.gotIdentity
  simp only
  refine Unlinked.toKeepsIf (.trans (?_ : Unlinked b s _) (unlinked_updBay_same _ b _ fun _ => rfl))
  split
  · exact unlinked_updBay_same s b _ fun _ => rfl
  · exact unlinked_setVerdict s b _ _

theorem keepsIf_gotGauge (s : State) (b : BayId) (blk : Block) :
    KeepsIf ((s.bay b).entry = none) s (s.gotGauge b blk) := by
  unfold State.gotGauge
  split
  · split
    · exact ((unlinked_takeGauge s b _).trans (unlinked_enterChallenging _ b _)).toKeepsIf
    · exact ((unlinked_setVerdict s b _ _).trans (unlinked_enterChallenging _ b _)).toKeepsIf
  · split
    · exact (unlinked_takeGauge s b _).toKeepsIf.kept (keeps_endInsertion _ b)
    · exact (keeps_endInsertion s b).when _

theorem keepsIf_checkResponse (s : State) (b : BayId) : KeepsIf ((s.bay b).entry = none) s (s.checkResponse b) := by
  unfold State.checkResponse
  split
  · simp only
    have clear := unlinked_updBay_same s b
      (fun x => { x with challenge := none, tagResponse := none, expectedResponse := none }) fun _ => rfl
    have authentic := clear.trans (unlinked_updBay_same _ b (fun x => { x with authenticated := true }) fun _ => rfl)
    split
    · exact (clear.trans (unlinked_setVerdict _ b _ _)).toKeepsIf.kept (keeps_endInsertion _ b)
    · split
      · exact authentic.followed (keepsIf_reconcile _ b)
      · exact authentic.toKeepsIf.kept (keeps_endInsertion _ b)
  · exact (Keeps.refl s).when _

theorem keepsIf_gotResponse (s : State) (b : BayId) (r : Bytes16) :
    KeepsIf ((s.bay b).entry = none) s (s.gotResponse b r) :=
  (unlinked_updBay_same s b (fun x => { x with tagResponse := some r }) fun _ => rfl).followed
    (keepsIf_checkResponse _ b)

theorem keepsIf_gotExpected (s : State) (b : BayId) (r : Bytes16) :
    KeepsIf ((s.bay b).entry = none) s (s.gotExpected b r) :=
  (unlinked_updBay_same s b (fun x => { x with expectedResponse := some r }) fun _ => rfl).followed
    (keepsIf_checkResponse _ b)

/-! ### Burns, flag writes, FAULT -/

theorem keeps_burnAcked (s : State) (b : BayId) (r : Nat) : Keeps s (s.burnAcked b r) := by
  have drop (u : State) : Keeps u (u.dropBurnWant b) := by
    unfold State.dropBurnWant
    split
    · exact keeps_updBay_fixed u b _ fun _ => ⟨rfl, rfl, rfl⟩
    · exact .refl u
  have check (u : State) (p : Prop) [Decidable p] : Keeps u (if p then u else u.fireCheck b .burnMismatch) := by
    split
    · exact .refl u
    · exact keeps_fireCheck u b _
  have zero (u : State) : Keeps u (u.reachedZero b) := by
    unfold State.reachedZero
    simp only
    refine Keeps.trans ?_ (aligned_raiseDepletedWant _ b).keeps
    split
    · next serial _ =>
      exact ((aligned_updEntry u serial (fun e => { e with seen := e.seen ||| depletedSeen }) fun _ => rfl).trans
        (aligned_makeDue _ _)).keeps
    · exact .refl u
  have zeroed (u : State) : Keeps u (if (u.bay b).tagGauge = 0 then u.reachedZero b else u) := by
    split
    · exact zero u
    · exact .refl u
  unfold State.burnAcked
  split
  · exact .refl s
  · simp only
    refine .trans ?_ (zeroed _)
    refine .trans ?_ (check _ _)
    refine .trans ?_ (drop _)
    exact keeps_updBay_fixed s b _ fun _ => ⟨rfl, rfl, rfl⟩

theorem keeps_burnRefused (s : State) (b : BayId) : Keeps s (s.burnRefused b) := by
  refine .trans ?_ (keeps_fireCheck _ b _)
  exact keeps_updBay_fixed s b _ fun _ => ⟨rfl, rfl, rfl⟩

theorem keeps_flagWritten (s : State) (b : BayId) (f : TagFlag) : Keeps s (s.flagWritten b f) := by
  cases f <;> exact keeps_updBay_fixed s b _ fun _ => ⟨rfl, rfl, rfl⟩

theorem aligned_withdrawAuth (s : State) (b : BayId) : Aligned s (s.withdrawAuth b) := by
  refine Aligned.trans (t := { s with auth := s.auth.withdraw b }) (aligned_beside rfl rfl) ?_
  exact aligned_updBay_fixed _ b (fun x => { x with challenge := none, tagResponse := none, expectedResponse := none })
    fun _ => ⟨rfl, rfl, rfl⟩

theorem aligned_faultBay (s : State) (b : BayId) : Aligned s (s.faultBay b) := by
  have unread : Aligned s (if (s.bay b).verdict = .none then s.setVerdict b .unread .none else s) := by
    split
    · exact aligned_setVerdict s b _ _
    · exact .refl s
  unfold State.faultBay
  refine .trans ?_ (aligned_updBay_fixed _ b _ fun _ => ⟨rfl, rfl, rfl⟩)
  refine .trans ?_ (aligned_moveBay _ b rfl)
  refine .trans ?_ (aligned_updBay_fixed _ b _ fun _ => ⟨rfl, rfl, rfl⟩)
  exact unread.trans (aligned_withdrawAuth _ b)

theorem keeps_enterFault (s : State) (b : BayId) : Keeps s (s.enterFault b) := by
  have faulted := (aligned_faultBay s b).keeps
  rw [enterFault_eq]
  split
  · exact .refl s
  · split
    · exact faulted.trans (keeps_feedLost _ b _)
    · exact faulted

/-! ### Removal (R34, R51) -/

/-- The links after a removal: the bay's entry names none. -/
theorem links_emptyBay (s : State) (b : BayId) :
    (s.emptyBay b).history.links = s.history.live.map fun e => ((s.bay b).unlinked e).link := by
  have contents := congrArg (List.map Entry.link) (live_emptyBay s b)
  rw [List.map_map, List.map_map] at contents
  exact contents

theorem unlinked_link (x : Bay) (e : Entry) :
    (x.unlinked e).link = if some e.serial = x.entry then (e.serial, none, x.book) else e.link := by
  unfold Bay.unlinked
  split <;> rfl

theorem tombs_emptyBay (s : State) (b : BayId) : (s.emptyBay b).history.tombs = s.history.tombs := by
  have engine : (s.removeAtEngine b).history = s.history :=
    removeAtEngine_keeps (·.history) (fun _ _ _ => rfl) (fun _ _ _ => rfl) (fun _ _ _ => rfl) (fun _ => rfl) s
  have unlinked (u : State) : (u.unlinkEntry b).history.tombs = u.history.tombs := by
    unfold State.unlinkEntry
    split
    · rfl
    · exact tombs_makeDue _ _
  exact (unlinked _).trans (congrArg History.tombs engine)

theorem keeps_emptyBay (s : State) (b : BayId) : Keeps s (s.emptyBay b) := by
  have links := links_emptyBay s b
  have tombs := tombs_emptyBay s b
  have others := (onlyBay_emptyBay s b).bays
  obtain ⟨token, self⟩ := emptyBay_self s b
  have free : ((s.emptyBay b).bay b).entry = none := by rw [self]; rfl
  have sound (h : s.history.Sound) : (s.emptyBay b).history.Sound := by
    obtain ⟨serials, places⟩ := h
    have length : (s.emptyBay b).history.live.length = s.history.live.length := by
      simpa [History.links] using congrArg List.length links
    refine ⟨?_, by rw [length, tombs]; exact places⟩
    have firsts : (s.emptyBay b).history.links.map Prod.fst = s.history.live.map (·.serial) := by
      rw [links, List.map_map]
      refine List.map_congr_left fun e _ => ?_
      show ((s.bay b).unlinked e).link.1 = e.serial
      rw [unlinked_link]
      split <;> rfl
    rw [← links_serials, firsts]
    exact serials
  refine ⟨sound, fun h => ⟨sound h.sound, fun x serial names => ?_, fun x serial names => ?_, fun x serial n link => ?_⟩⟩
  · by_cases hx : x = b
    · subst hx; rw [free] at names; exact nomatch names
    · rw [others x hx] at names ⊢; exact h.state x serial names
  · by_cases hx : x = b
    · subst hx; rw [free] at names; exact nomatch names
    · rw [others x hx] at names ⊢
      rw [links]
      have old := h.forth x serial names
      obtain ⟨e, live, link⟩ := List.mem_map.mp old
      refine List.mem_map.mpr ⟨e, live, ?_⟩
      rw [unlinked_link, if_neg fun own => hx ?_, link]
      have named : e.serial = serial := (congrArg (·.1) link :)
      have one := h.unique old (h.forth b serial (by rw [← own, named])) rfl
      exact Option.some.inj (congrArg (·.2.1) one :)
  · rw [links] at link
    obtain ⟨e, live, link⟩ := List.mem_map.mp link
    rw [unlinked_link] at link
    split at link
    · exact nomatch (congrArg (·.2.1) link :)
    · next other =>
      have named : e.serial = serial := (congrArg (·.1) link :)
      have names := h.back x serial n (link ▸ List.mem_map_of_mem live)
      by_cases hx : x = b
      · subst hx; exact absurd (by rw [names, named]) other
      · rw [others x hx]; exact names

end Sys2Proof.Machine
end

section
/-! SUPPORT. Tickets, engines, the store controller and every command keep the links of bays and entries, but for a reset
and for the event of READY. -/

namespace Sys2Proof.Machine

/-! ### Answers (R182, R188 to R190) -/

theorem keeps_writeAnswer (s : State) (k : SlotId) (a : Answer) : Keeps s (s.writeAnswer k a) :=
  keeps_beside (State.writeAnswer_history s k a) (State.writeAnswer_bays s k a)

theorem keeps_serveList (b : BayId) (l : List SlotId) (s : State) : Keeps s (State.serveList b l s) := by
  induction l generalizing s with
  | nil => exact keeps_beside rfl rfl
  | cons k l ih =>
    unfold State.serveList
    split
    · exact ih s
    · split
      · exact ((keeps_carryOutClear s b _).trans (keeps_writeAnswer _ k _)).trans (ih _)
      · split
        · exact (keeps_writeAnswer s k _).trans (ih _)
        · exact keeps_beside rfl rfl

theorem keeps_serveBay (s : State) (b : BayId) : Keeps s (s.serveBay b) := keeps_serveList b _ s

theorem keeps_updSlot (s : State) (k : SlotId) (f : Slot → Slot) : Keeps s (s.updSlot k f) := keeps_beside rfl rfl

theorem keeps_finishTicket (s : State) (k : SlotId) (a : Answer) : Keeps s (s.finishTicket k a) := by
  unfold State.finishTicket
  split
  · exact .refl s
  · split
    · exact keeps_writeAnswer s k a
    · exact (keeps_updSlot s k _).trans (keeps_serveBay _ _)

theorem keeps_startTest (s : State) (k : SlotId) (code : Nat) (b : Option BayId) : Keeps s (s.startTest k code b) :=
  keeps_beside rfl rfl

theorem keeps_endTest (s : State) (n : Nat) (c : FailCause) : Keeps s (s.endTest n c) := keeps_beside rfl rfl

theorem keeps_decideTest (s : State) (k : SlotId) (pass : Bool) (l : List Byte) : Keeps s (s.decideTest k pass l) :=
  (keeps_endTest s _ _).trans (keeps_writeAnswer _ k _)

theorem keeps_decideLoop (s : State) (k : SlotId) (pass : Bool) (l : List Byte) : Keeps s (s.decideLoop k pass l) :=
  (keeps_endTest s _ _).trans (keeps_finishTicket _ k _)

/-! ### Tally intake -/

theorem keeps_takeTally (s : State) (src : TallySource) (t : TallyContent) : Keeps s (s.takeTally src t) := by
  have stray : Keeps s s.countStray := keeps_beside rfl rfl
  have frame (c : ChanId) (p : Profile) : Keeps s (s.takeFrame c p t) := by
    unfold State.takeFrame
    split
    · exact keeps_updChan s c _
    · refine .trans ?_ (keeps_takeVolume _ c _)
      exact keeps_updChan s c _
  unfold State.takeTally
  split
  · simp only
    split
    · exact stray
    · split
      · exact frame _ _
      · exact stray
  · exact stray

theorem keeps_takeLinkFrame (s : State) (f : LinkFrame) : Keeps s (s.takeLinkFrame f) := by
  unfold State.takeLinkFrame
  split
  · exact keeps_beside rfl rfl
  · split
    · exact keeps_takeTally s _ _
    · exact keeps_beside rfl rfl

theorem keeps_countReject (s : State) : Keeps s s.countReject := keeps_beside rfl rfl

theorem keeps_takeTallyPost (s : State) (target : Word) (a : Args) : Keeps s (s.takeTallyPost target a) := by
  unfold State.takeTallyPost
  split
  · exact keeps_countReject s
  · exact keeps_takeTally s _ _

theorem keeps_takePurge (s : State) (target : Word) (a : Args) : Keeps s (s.takePurge target a) := by
  unfold State.takePurge
  split
  · exact keeps_countReject s
  · split
    · exact keeps_countReject s
    · exact (keeps_takeVolume s _ _).trans (keeps_updChan _ _ _)

/-! ### Tickets -/

theorem keeps_takeSetProfile (s : State) (k : SlotId) (target : Word) (a : Args) :
    Keeps s (s.takeSetProfile k target a) := by
  unfold State.takeSetProfile
  split
  · exact keeps_writeAnswer s k _
  · split
    · exact keeps_writeAnswer s k _
    · split
      · exact keeps_writeAnswer s k _
      · exact keeps_beside rfl rfl

theorem keeps_takeCheckStore (s : State) (k : SlotId) (a : Args) : Keeps s (s.takeCheckStore k a) := by
  unfold State.takeCheckStore
  simp only
  split
  · exact keeps_writeAnswer s k _
  · exact keeps_beside rfl rfl

theorem keeps_joinOrder (s : State) (k : SlotId) (b : BayId) : Keeps s (s.joinOrder k b) := keeps_beside rfl rfl

theorem keeps_placeTagWork (s : State) (q : QueueEntry) : Keeps s (s.placeTagWork q) := by
  unfold State.placeTagWork
  simp only
  split <;> exact keeps_beside rfl rfl

theorem keeps_takeReadTag (s : State) (k : SlotId) (target : Word) (a : Args) : Keeps s (s.takeReadTag k target a) := by
  unfold State.takeReadTag
  split
  · exact keeps_finishTicket s k _
  · next b _ =>
    refine (keeps_joinOrder s k b).trans ?_
    simp only
    split
    · exact keeps_finishTicket _ k _
    · split
      · exact keeps_finishTicket _ k _
      · exact keeps_placeTagWork _ _

theorem keeps_takeClearHeld (s : State) (k : SlotId) (target : Word) : Keeps s (s.takeClearHeld k target) := by
  unfold State.takeClearHeld
  split
  · exact keeps_finishTicket s k _
  · exact (keeps_joinOrder s k _).trans (keeps_serveBay _ _)

/-- The table left when a live entry that names no bay is gone (R57). -/
theorem forget_history (s : State) (e : Entry) :
    (s.forget e).history.live = s.history.live.filter (fun x => x.serial != e.serial)
      ∧ (s.forget e).history.tombs.length ≤ s.history.tombs.length + 1 := by
  unfold State.forget
  simp only
  split
  · exact ⟨rfl, Nat.le_succ _⟩
  · split
    · exact ⟨rfl, List.length_append.le⟩
    · exact ⟨rfl, List.length_append.le⟩

theorem forget_bays (s : State) (e : Entry) : (s.forget e).bays = s.bays := by
  unfold State.forget
  simp only
  split
  · rfl
  · split <;> rfl

/-- An entry that names no bay is forgotten: every link of a cartridge that is seated stands. -/
theorem keeps_forget {s : State} {e : Entry} (live : e ∈ s.history.live) (away : e.installedBay = none) :
    Keeps s (s.forget e) := by
  obtain ⟨left, tombs⟩ := forget_history s e
  have bay (x : BayId) : (s.forget e).bay x = s.bay x := by simp only [State.bay, forget_bays]
  have sub := List.filter_sublist (l := s.history.live) (p := fun x => x.serial != e.serial)
  have fewer : (s.history.live.filter fun x => x.serial != e.serial).length < s.history.live.length :=
    List.length_filter_lt_length_iff_exists.mpr ⟨e, live, by simp⟩
  have sound (h : s.history.Sound) : (s.forget e).history.Sound := by
    obtain ⟨serials, places⟩ := h
    rw [← left] at fewer
    exact ⟨by rw [left]; exact serials.sublist (sub.map _), by omega⟩
  have only (l) (h : l ∈ (s.forget e).history.links) : l ∈ s.history.links := by
    rw [History.links, left] at h
    exact (sub.map _).subset h
  refine ⟨sound, fun h => ⟨sound h.sound, fun x serial names => ?_, fun x serial names => ?_, fun x serial n link => ?_⟩⟩
  · rw [bay] at names ⊢; exact h.state x serial names
  · rw [bay] at names ⊢
    obtain ⟨x', mem, link⟩ := List.mem_map.mp (h.forth x serial names)
    refine List.mem_map.mpr ⟨x', left ▸ List.mem_filter.mpr ⟨mem, bne_iff_ne.mpr fun same => ?_⟩, link⟩
    have seated : x'.installedBay = some x := (congrArg (·.2.1) link :)
    obtain ⟨serials, _⟩ := h.sound
    rw [List.inj_on_of_nodup_map serials mem live same, away] at seated
    exact nomatch seated
  · rw [bay]; exact h.back x serial n (only _ link)

theorem keeps_takeForget (s : State) (k : SlotId) (a : Args) : Keeps s (s.takeForget k a) := by
  unfold State.takeForget
  split
  · exact keeps_writeAnswer s k _
  · split
    · exact keeps_writeAnswer s k _
    · next e found =>
      split
      · exact keeps_writeAnswer s k _
      · next away =>
        obtain ⟨live, _⟩ := mem_of_entryOf found
        exact (keeps_forget live (Option.not_isSome_iff_eq_none.mp away)).trans (keeps_writeAnswer _ k _)

theorem keeps_takeSwitchFeed (s : State) (k : SlotId) (target : Word) (a : Args) :
    Keeps s (s.takeSwitchFeed k target a) := by
  unfold State.takeSwitchFeed
  split
  · exact keeps_writeAnswer s k _
  · next c b h =>
    split
    · exact keeps_writeAnswer s k _
    · split
      · exact (walk_feedFrom s (chanOf_switchArgs h) _).keeps.trans (keeps_writeAnswer _ k _)
      · exact keeps_writeAnswer s k _

theorem keeps_takeEnforce (s : State) (k : SlotId) : Keeps s (s.takeEnforce k) := by
  have mark (u : State) (b : BayId) : Keeps u (u.raiseRefillMarkWant b) := (aligned_raiseRefillMarkWant u b).keeps
  have latched : Keeps s { s with latch := true } := keeps_beside rfl rfl
  unfold State.takeEnforce
  split
  · exact keeps_writeAnswer s k _
  · unfold State.enforce
    exact ((latched.trans (keeps_foldl _ keeps_reevaluate _ _)).trans (keeps_foldl _ mark _ _)).trans
      (keeps_writeAnswer _ k _)

theorem keeps_takeSelfTest (s : State) (k : SlotId) (a : Args) : Keeps s (s.takeSelfTest k a) := by
  have started (code : Nat) (b : Option BayId) := keeps_startTest s k code b
  unfold State.takeSelfTest
  split
  · split
    · next b _ =>
      unfold State.takeLoopTest
      refine (keeps_joinOrder s k b).trans ?_
      simp only
      split
      · exact keeps_finishTicket _ k _
      · split
        · exact keeps_finishTicket _ k _
        · exact (keeps_startTest _ k _ _).trans (keeps_placeTagWork _ _)
    · exact keeps_writeAnswer s k _
  · unfold State.takePlainTest
    simp only
    split
    · exact keeps_writeAnswer s k _
    · split
      · exact keeps_writeAnswer s k _
      · split
        · exact (started _ _).trans (keeps_decideTest _ k _ _)
        · split
          · exact (started _ _).trans (keeps_decideTest _ k _ _)
          · split
            · exact (started (argByte a 0).toNat none).trans (keeps_beside rfl rfl)
            · exact (started (argByte a 0).toNat none).trans (keeps_beside rfl rfl)

theorem keeps_takeTicket (s : State) (k : SlotId) : Keeps s (s.takeTicket k) := by
  have free (u : State) : Keeps u (u.freePosted k) := keeps_updSlot u k _
  have zeroed (u : State) : Keeps u u.zeroCounts := keeps_beside rfl rfl
  unfold State.takeTicket
  have marked : Keeps s (s.markTaken k) := keeps_updSlot s k _
  refine marked.trans ?_
  simp only
  unfold State.applyTicket
  split
  · next kind _ =>
    cases kind with
    | tallyPost => exact (keeps_takeTallyPost _ _ _).trans (free _)
    | purgePost => exact (keeps_takePurge _ _ _).trans (free _)
    | setProfile => exact keeps_takeSetProfile _ k _ _
    | checkStore => exact keeps_takeCheckStore _ k _
    | readTagBlock => exact keeps_takeReadTag _ k _ _
    | historyQuery => exact keeps_writeAnswer _ k _
    | forgetSerial => exact keeps_takeForget _ k _
    | clearHeld => exact keeps_takeClearHeld _ k _
    | switchFeed => exact keeps_takeSwitchFeed _ k _ _
    | enforce => exact keeps_takeEnforce _ k
    | selfTest => exact keeps_takeSelfTest _ k _
    | clearCounts => exact (zeroed _).trans (keeps_writeAnswer _ k _)
  · exact (keeps_countReject _).trans (free _)
  · exact keeps_writeAnswer _ k _

/-! ### Engines -/

theorem keeps_leaveQueue (s : State) (e : EngId) (k : SlotId) : Keeps s (s.leaveQueue e k) := keeps_beside rfl rfl

theorem keeps_loopRead (s : State) (e : EngId) (b : BayId) (blk : Block) : Keeps s (s.loopRead e b blk) := by
  unfold State.loopRead
  split
  · exact .refl s
  · split
    · exact keeps_beside rfl rfl
    · exact (keeps_leaveQueue s e _).trans (keeps_decideLoop _ _ _ _)

theorem keeps_endHeadTicket (s : State) (e : EngId) (a : Answer) : Keeps s (s.endHeadTicket e a) := by
  unfold State.endHeadTicket
  split
  · exact (keeps_leaveQueue s e _).trans (keeps_finishTicket _ _ a)
  · exact .refl s

theorem keeps_deliverStep (s : State) (t : Transaction) (p : Payload) : Keeps s (s.deliverStep t p) := by
  have ended : Keeps s (s.endStep t.bay) := keeps_updBay_fixed s t.bay _ fun _ => ⟨rfl, rfl, rfl⟩
  refine ended.trans ?_
  unfold State.deliverStep
  simp only
  split
  · split
    · next state =>
      have un : ((s.endStep t.bay).bay t.bay).state.linkable = false := by rw [state]; rfl
      split
      · exact (keepsIf_gotIdentity _ _ _).keeps un
      · exact (keepsIf_gotGauge _ _ _).keeps un
    · exact .refl _
  · split
    · next state => exact (keepsIf_gotResponse _ _ _).keeps (by rw [state]; rfl)
    · exact .refl _
  · exact .refl _

theorem keeps_deliver (s : State) (e : EngId) (t : Transaction) (p : Payload) : Keeps s (s.deliver e t p) := by
  unfold State.deliver
  split
  · exact keeps_deliverStep s t p
  · split
    · exact keeps_burnAcked s _ _
    · exact .refl s
  · exact keeps_flagWritten s _ _
  · exact keeps_flagWritten s _ _
  · unfold State.deliverSense
    split
    · split
      · exact keeps_takeSample s _ _ _
      · exact .refl s
    · exact .refl s
  · split
    · exact keeps_endHeadTicket s e _
    · exact .refl s
  · split
    · exact keeps_loopRead s e _ _
    · exact .refl s

theorem keeps_handDiscard (s : State) (e : EngId) (t : Transaction) : Keeps s (s.handDiscard e t) := by
  unfold State.handDiscard
  split
  · exact keeps_enterFault s _
  · exact keeps_enterFault s _
  · exact keeps_enterFault s _
  · exact keeps_enterFault s _
  · exact keeps_enterFault s _
  · exact keeps_endHeadTicket s e _
  · split
    · exact .refl s
    · exact (((keeps_leaveQueue s e _).trans (keeps_endTest _ _ _)).trans (keeps_enterFault _ _)).trans
        (keeps_finishTicket _ _ _)

theorem keeps_discard (s : State) (e : EngId) (t : Transaction) (cause : DiscardCause) :
    Keeps s (s.discard e t cause) := by
  refine .trans ?_ (keeps_handDiscard _ e t)
  exact keeps_beside rfl rfl

theorem keeps_endAttempt (s : State) (e : EngId) (t : Transaction) (o : AttemptOutcome) :
    Keeps s (s.endAttempt e t o) := by
  have idle : Keeps s (s.idleEngine e) := keeps_beside rfl rfl
  have gap (x : Transaction) : Keeps s (s.enterGap e x) := keeps_beside rfl rfl
  unfold State.endAttempt
  split
  · exact idle.trans (keeps_deliver _ e t _)
  · exact idle.trans (keeps_burnRefused _ _)
  · simp only
    split
    · exact keeps_discard s e _ _
    · exact gap _
  · simp only
    split
    · exact keeps_discard s e _ _
    · exact gap _
  · split
    · exact keeps_discard s e _ _
    · exact gap _

theorem keeps_removeBay (s : State) (b : BayId) : Keeps s (s.removeBay b) := by
  rw [removeBay_eq]
  refine .trans ?_ (keeps_serveBay _ b)
  split
  · exact (keeps_emptyBay s b).trans (keeps_feedLost _ b _)
  · exact keeps_emptyBay s b

/-! ### The store controller -/

theorem keeps_updStore (s : State) (f : Store → Store) : Keeps s (s.updStore f) := keeps_beside rfl rfl

theorem keeps_stepJournalSeq (s : State) : Keeps s s.stepJournalSeq := by
  unfold State.stepJournalSeq
  split
  · exact keeps_updStore s _
  · exact (aligned_degrade s).keeps

theorem keeps_stepSectorSeq (s : State) : Keeps s s.stepSectorSeq := by
  unfold State.stepSectorSeq
  split
  · exact keeps_updStore s _
  · exact (aligned_degrade s).keeps

theorem aligned_locateRecord (s : State) (j : SecId) (slot : Nat) (r : JournalRecord) :
    Aligned s (s.locateRecord j slot r) := by
  unfold State.locateRecord
  split
  · exact .refl s
  · exact aligned_updEntry s r.serial (fun e => { e with journalLocation := some ⟨j, slot⟩, journalSeq := r.seq })
      fun _ => rfl

theorem aligned_popItem (s : State) : Aligned s s.popItem := aligned_updHist s _ rfl le_rfl

theorem aligned_recordItemDone (s : State) (r : JournalRecord) (changed : Bool) :
    Aligned s (s.recordItemDone r changed) := by
  have popped : Aligned s (s.updEntry r.serial fun e => { e with journalDue := false }).popItem :=
    (aligned_updEntry s r.serial (fun e => { e with journalDue := false }) fun _ => rfl).trans (aligned_popItem _)
  unfold State.recordItemDone
  simp only
  split
  · exact popped.trans (aligned_makeDue _ _)
  · exact popped

theorem aligned_itemWritten (s : State) (j : SecId) (slot : Nat) (r : JournalRecord) (changed : Bool) :
    Aligned s (s.itemWritten j slot r changed) := by
  have erased : Aligned s (s.updHist fun h => { h with tombs := h.tombs.erase r.serial }) :=
    aligned_updHist s _ rfl List.erase_sublist.length_le
  unfold State.itemWritten
  split
  · exact aligned_locateRecord s j slot r
  · split
    · exact aligned_locateRecord s j slot r
    · split
      · split
        · exact erased.trans (aligned_popItem _)
        · exact .refl s
      · split
        · exact .refl s
        · exact (aligned_locateRecord s j slot r).trans (aligned_recordItemDone _ r changed)

theorem keeps_recordFailed (s : State) (r : JournalRecord) : Keeps s (s.recordFailed r) := by
  have counted := keeps_updStore s fun x => { x with programFailures := satAdd top16 x.programFailures 1 }
  unfold State.recordFailed
  extract_lets n u
  split
  · exact counted
  · split
    · exact counted.trans (aligned_degrade _).keeps
    · exact counted.trans (keeps_updStore _ _)

theorem keeps_endAppend (s : State) (j : SecId) (slot : Nat) (r : JournalRecord) (got : Block) :
    Keeps s (s.endAppend j slot r got) := by
  have written : Keeps s (({ s with flash := s.flash.writeRun (slotBase j slot) got.toList } : State).idleStore.updSector
      j Sector.useSlot) := keeps_beside rfl rfl
  unfold State.endAppend
  simp only
  refine written.trans ?_
  split
  · exact ((keeps_updStore _ _).trans (aligned_itemWritten _ j slot r _).keeps).trans (keeps_stepJournalSeq _)
  · exact keeps_recordFailed _ r

theorem aligned_reclaimCheck (s : State) : Aligned s s.reclaimCheck := by
  unfold State.reclaimCheck
  split
  · exact .refl s
  · split
    · exact .refl s
    · refine .trans ?_ (aligned_makeAllDue _ _)
      exact aligned_beside rfl rfl

theorem keeps_updSector (s : State) (j : SecId) (f : Sector → Sector) : Keeps s (s.updSector j f) := keeps_updStore s _

theorem keeps_endHeader (s : State) (j : SecId) (seq : Nat) (got : Block) : Keeps s (s.endHeader j seq got) := by
  have written : Keeps s ({ s with flash := s.flash.writeRun (slotBase j 0) got.toList } : State).idleStore :=
    keeps_beside rfl rfl
  unfold State.endHeader
  simp only
  refine written.trans ?_
  split
  · exact ((keeps_updSector _ j _).trans (keeps_stepSectorSeq _)).trans (aligned_reclaimCheck _).keeps
  · exact (keeps_updSector _ j _).trans (keeps_stepSectorSeq _)

theorem keeps_eraseFailed (s : State) (j : SecId) : Keeps s (s.eraseFailed j) := by
  have failed : Keeps s (((s.updSector j fun _ => { state := .retired, seq := none, nextSlot := 0 }).updStore fun x =>
    { x with eraseFailures := satAdd top16 x.eraseFailures 1 }).raise .store) := keeps_beside rfl rfl
  unfold State.eraseFailed State.degradedTest
  split
  · exact failed.trans (aligned_degrade _).keeps
  · exact failed

theorem keeps_endErase (s : State) (j : SecId) (left : List (Nat × Byte)) : Keeps s (s.endErase j left) := by
  have reclaimed (u : State) (k : Prop) [Decidable k] :
      Keeps u (if k then (u.updStore fun x => { x with victim := none }).reclaimCheck else u) := by
    split
    · exact (keeps_updStore u _).trans (aligned_reclaimCheck _).keeps
    · exact .refl u
  have cleared (m : Memory) : Keeps s ({ s with flash := m } : State).idleStore := keeps_beside rfl rfl
  have freed := cleared ((s.flash.erase (sectorBase (secNumber j)) 4096).scatter (sectorBase (secNumber j)) 4096 left)
  unfold State.endErase
  simp only
  refine Keeps.trans (freed.trans ?_) (reclaimed _ _)
  split
  · exact keeps_beside rfl rfl
  · exact keeps_eraseFailed _ j

/-! ### The profile switch and the power-fail warning (R174, R168) -/

theorem keeps_switchProfile (s : State) (c : ChanId) (p : Profile) : Keeps s (s.switchProfile c p) := by
  have noticed (u : State) (k : Prop) [Decidable k] : Keeps u (if k then u.raise .channel else u) := by
    split
    · exact (aligned_raise u _).keeps
    · exact .refl u
  have window (u : State) (b : BayId) : Keeps u (u.emptyWindow b) := (aligned_emptyWindow u b).keeps
  have installed : Keeps s (s.installProfile c p) := by
    unfold State.installProfile
    extract_lets old u v
    have step : Keeps s v := (keeps_updChan s c _).trans (noticed u _)
    split
    · exact (step.trans (window _ _)).trans (window _ _)
    · exact step
  rw [switchProfile_eq]
  split
  · exact (installed.trans (keeps_reevaluate _ _)).trans (keeps_reevaluate _ _)
  · exact installed

theorem keeps_endRewrite (s : State) (k : SlotId) (c : ChanId) (p : Profile) (r : RewriteEnd) :
    Keeps s (s.endRewrite k c p r) := by
  have freed : Keeps s ({ s with flash := s.rewriteResult c p r } : State).idleStore := keeps_beside rfl rfl
  unfold State.endRewrite
  simp only
  refine freed.trans ?_
  split
  · unfold State.rewriteDone
    simp only
    refine .trans ?_ (keeps_writeAnswer _ k _)
    exact (keeps_switchProfile _ c p).trans (keeps_updStore _ _)
  · unfold State.rewriteFailed
    refine .trans ?_ (keeps_writeAnswer _ k _)
    exact keeps_beside rfl rfl

theorem keeps_warn (s : State) : Keeps s s.warn := by
  have away : Keeps s s.turnAwayRewrites := by
    unfold State.turnAwayRewrites
    simp only
    refine .trans ?_ (keeps_foldl _ (fun u (t : StoreTicket) => keeps_writeAnswer u t.slot _) _ _)
    exact keeps_updStore s _
  have due := (aligned_makeAllDue s.turnAwayRewrites s.turnAwayRewrites.installedSerials).keeps
  unfold State.warn
  simp only
  exact (away.trans due).trans (keeps_beside rfl rfl)

end Sys2Proof.Machine
end

section
/-! SUPPORT. The history table that the rebuild forms is sound (R172), and what every command leaves of the links. -/

namespace Sys2Proof.Machine

/-! ### Sorted lists -/

theorem insertBy_perm {α : Type} (key : α → Nat × Nat) (x : α) (l : List α) : (insertBy key x l).Perm (x :: l) := by
  induction l with
  | nil => exact .refl _
  | cons y l ih =>
    unfold insertBy
    split
    · exact .refl _
    · exact (ih.cons y).trans (.swap x y l)

theorem sortBy_perm {α : Type} (key : α → Nat × Nat) (l : List α) : (sortBy key l).Perm l := by
  have sorted (acc : List α) : (l.foldl (fun acc x => insertBy key x acc) acc).Perm (acc ++ l) := by
    induction l generalizing acc with
    | nil => rw [List.append_nil]; exact .refl _
    | cons x l ih => exact (ih _).trans (((insertBy_perm key x acc).append_right l).trans List.perm_middle.symm)
  exact sorted []

/-! ### The rebuilt table -/

/-- The serial of a record found. -/
def Found.serial (f : Found) : Serial := f.record.serial

theorem laterFound_serial {a b : Found} (h : a.serial = b.serial) : (laterFound a b).serial = a.serial := by
  have either : laterFound a b = a ∨ laterFound a b = b := by
    unfold laterFound
    grind
  obtain e | e := either <;> rw [e]
  exact h.symm

theorem keepFound_nodup {kept : List Found} (h : (kept.map Found.serial).Nodup) (f : Found) :
    ((keepFound kept f).map Found.serial).Nodup := by
  unfold keepFound
  split
  · rw [List.map_map]
    refine (List.map_congr_left fun k _ => ?_).symm ▸ h
    show Found.serial (if k.serial = f.serial then laterFound k f else k) = k.serial
    split
    · next same => exact laterFound_serial same
    · rfl
  · next absent =>
    rw [List.map_append, List.nodup_append]
    refine ⟨h, List.nodup_singleton _, fun x hx y hy => ?_⟩
    obtain ⟨k, mem, rfl⟩ := List.mem_map.mp hx
    obtain rfl := List.mem_singleton.mp hy
    exact fun same => absent (List.any_eq_true.mpr ⟨k, mem, decide_eq_true same⟩)

theorem keptRecords_nodup (l : List Found) : ((keptRecords l).map Found.serial).Nodup := by
  have kept (acc : List Found) (h : (acc.map Found.serial).Nodup) :
      ((l.foldl keepFound acc).map Found.serial).Nodup := by
    induction l generalizing acc with
    | nil => exact h
    | cons f l ih => exact ih _ (keepFound_nodup h f)
  exact (kept [] List.nodup_nil).sublist (List.filter_sublist.map _)

theorem topRecords_sound (l : List Found) :
    ((topRecords (keptRecords l)).map Found.serial).Nodup ∧ (topRecords (keptRecords l)).length ≤ Config.historyPlaces := by
  unfold topRecords
  refine ⟨?_, by rw [List.length_drop]; omega⟩
  have sorted := ((sortBy_perm (fun f : Found => (f.record.seq, 0)) (keptRecords l)).map Found.serial).nodup_iff
  exact (sorted.mpr (keptRecords_nodup l)).sublist ((List.drop_sublist _ _).map _)

theorem links_stampEntries (n : Nat) (l : List Found) :
    (stampEntries n l).map Entry.link = l.map fun f => (f.serial, none, f.record.book) := by
  induction l generalizing n with
  | nil => rfl
  | cons f l ih => exact congrArg (_ :: ·) (ih _)

theorem links_rebuiltHistory (l : List Found) :
    (rebuiltHistory l).links = (topRecords (keptRecords l)).map fun f => (f.serial, none, f.record.book) := by
  unfold rebuiltHistory History.links
  generalize topRecords (keptRecords l) = found
  exact links_stampEntries 1 found

theorem sound_rebuiltHistory (l : List Found) : (rebuiltHistory l).Sound := by
  obtain ⟨serials, places⟩ := topRecords_sound l
  have links := links_rebuiltHistory l
  refine ⟨?_, ?_⟩
  · rw [← links_serials, links, List.map_map]
    exact serials
  · have length := congrArg List.length links
    rw [History.links, List.length_map, List.length_map] at length
    have none' : (rebuiltHistory l).tombs = [] := rfl
    rw [none', length, List.length_nil, Nat.add_zero]
    exact places

/-- The table after the rebuild, a degradation at its end apart. -/
theorem rebuild_history (s : State) :
    s.rebuild.history.links = (rebuiltHistory s.flash.allRecords).links ∧ s.rebuild.history.tombs = [] := by
  have formed (u : State) (none' : u.history.tombs = []) (f : Store → Store) (p : Prop) [Decidable p] :
      (if p then (u.updStore f).degrade else u.updStore f).history.links = u.history.links
        ∧ (if p then (u.updStore f).degrade else u.updStore f).history.tombs = [] := by
    split
    · have degraded := aligned_degrade (u.updStore f)
      have fewer := degraded.tombs
      rw [State.updStore_history, none'] at fewer
      exact ⟨degraded.links, List.length_eq_zero_iff.mp (Nat.le_zero.mp fewer)⟩
    · exact ⟨rfl, none'⟩
  unfold State.rebuild State.loadJournal
  exact formed { s.loadProfiles with history := rebuiltHistory s.flash.allRecords } rfl _ _

theorem sound_rebuild (s : State) : s.rebuild.history.Sound := by
  obtain ⟨links, tombs⟩ := rebuild_history s
  refine (sound_rebuiltHistory s.flash.allRecords).of_links links ?_
  rw [tombs]
  exact Nat.zero_le _

theorem keeps_readied (s : State) : Keeps s.rebuild s.readied := by
  have ready (u : State) : Keeps u (u.writeRecords.updPort fun p => { p with partState := .ready }) := keeps_beside rfl rfl
  exact ready s.rebuild

/-- Where neither a bay nor an entry names the other no link is wrong. -/
theorem linked_of_free {s : State} (sound : s.history.Sound) (free : ∀ b, (s.bay b).entry = none)
    (away : ∀ l ∈ s.history.links, l.2.1 = none) : s.Linked := by
  refine ⟨sound, fun b serial names => ?_, fun b serial names => ?_, fun b serial n link => ?_⟩
  · exact nomatch (free b).symm.trans names
  · exact nomatch (free b).symm.trans names
  · exact nomatch away _ link

/-- READY is entered with no cartridge known. -/
theorem linked_readied {s : State} (h : s.Clean) : s.readied.Linked := by
  obtain ⟨links, _⟩ := rebuild_history s
  obtain ⟨bays, _⟩ := rebuild_keeps s
  have linked : s.rebuild.Linked := by
    refine linked_of_free (sound_rebuild s) (fun b => ?_) fun l link => ?_
    · rw [State.bay, bays]
      exact congrArg Bay.entry (h.bay b)
    · rw [links, links_rebuiltHistory] at link
      obtain ⟨f, _, rfl⟩ := List.mem_map.mp link
      rfl
  exact (keeps_readied s).linked linked

theorem keeps_takeArrival (s : State) (k : SlotId) : Keeps s (s.takeArrival k) := by
  unfold State.takeArrival
  simp only
  split
  · exact (keeps_takeTicket s k).trans (aligned_advanceStore _ _).keeps
  · exact keeps_takeTicket s k

theorem keeps_beginSettling (s : State) (b : BayId) (h : (s.bay b).state = .empty) : Keeps s (s.beginSettling b) := by
  have steps := (unlinked_updBay_same s b (fun x => { x with
    settleTimer := some (s.outside.now + Config.settleTime) }) fun _ => rfl).trans (unlinked_moveBay _ b .settling)
  exact steps.keeps (by rw [h]; rfl)

theorem keeps_readPresence (s : State) (b : BayId) : Keeps s (s.readPresence b) := by
  unfold State.readPresence
  split
  · next h => exact keeps_beginSettling s b h.2
  · exact .refl s

theorem keeps_becomeReady (s : State) : Keeps s.readied s.becomeReady := by
  have damaged (u : State) : Keeps u (if u.store.profileState = .damaged then u.raise .store else u) := by
    split
    · exact keeps_beside rfl rfl
    · exact .refl u
  have entered : Keeps s.readied s.rebuild.writeRecords.enterReady := by
    unfold State.enterReady State.takeArrivals
    simp only
    refine .trans ?_ (damaged _)
    refine .trans ?_ (keeps_foldl _ keeps_readPresence _ _)
    refine .trans ?_ (keeps_foldl _ keeps_takeArrival _ _)
    exact keeps_beside rfl rfl
  exact entered.trans ((aligned_advanceWork _ _).trans (aligned_publishSince _ _)).keeps

/-! ### Host writes -/

/-- A command keeps the links, or the part was reset. -/
def KeepsOn (s t : State) : Prop := Keeps s t ∨ ∃ u : State, t = u.afterReset

theorem Keeps.on {s t : State} (h : Keeps s t) : KeepsOn s t := .inl h

theorem Keeps.endEvent {s t : State} (h : Keeps s t) (before : State) : Keeps s (t.endEvent before) :=
  h.trans (aligned_endEvent t before).keeps

theorem Keeps.endQuiet {s t : State} (h : Keeps s t) (before : State) : Keeps s (t.endQuiet before) :=
  h.trans (aligned_endQuiet t before).keeps

theorem Keeps.endStore {s t : State} (h : Keeps s t) (before : State) : Keeps s (t.endStore before) :=
  h.trans (aligned_endStore t before).keeps

theorem Keeps.endTimed {s t : State} (h : Keeps s t) (before : State) : Keeps s (t.endTimed before) :=
  h.trans (aligned_endTimed t before).keeps

/-- The end of a flash operation, where a pending soft reset takes effect. -/
theorem Keeps.endFlash {s t : State} (h : Keeps s t) (before : State) : KeepsOn s (t.endFlash before) := by
  unfold State.endFlash
  simp only
  split
  · exact .inr ⟨_, rfl⟩
  · exact .inl (h.trans ((aligned_advanceWork t before).trans (aligned_publishSince _ before)).keeps)

theorem keeps_endTaking (s before : State) (kind : Word) : Keeps s (s.endTaking before kind) := by
  obtain h | h | h := endTaking_cases s before kind <;> rw [h]
  · exact (aligned_endStore s before).keeps
  · exact (aligned_endQuiet s before).keeps
  · exact (aligned_endEvent s before).keeps

theorem keeps_handWrite (s : State) (k : SlotId) (v : Word) : Keeps s (s.handWrite k v) := by
  have ignored : Keeps s s.ignoreWrite := by
    refine .trans ?_ (aligned_endQuiet _ s).keeps
    exact keeps_beside rfl rfl
  have hand (h : Hand) : Keeps s (s.setHand k h) := keeps_updSlot s k _
  unfold State.handWrite
  split
  · split
    · unfold State.arrive
      simp only
      split
      · exact hand _
      · split
        · exact ((hand _).trans (keeps_takeTicket _ k)).trans (keeps_endTaking _ s _)
        · refine .trans ?_ (aligned_endQuiet _ s).keeps
          exact keeps_beside rfl rfl
    · exact ignored
  · split
    · refine .trans ?_ (aligned_endQuiet _ s).keeps
      exact keeps_beside rfl rfl
    · exact ignored
  · split
    · exact hand _
    · exact ignored
  · exact ignored

theorem keeps_writeRequest (s : State) (k : SlotId) (f : Slot → Slot) : Keeps s (s.writeRequest k f) := by
  unfold State.writeRequest
  split
  · exact keeps_updSlot s k f
  · exact .refl s

theorem keeps_post (s : State) (k : SlotId) (kind target : Word) (a : Args) : Keeps s (s.post k kind target a) :=
  (keeps_writeRequest s k _).trans (keeps_handWrite _ k _)

theorem keepsOn_requestReset (s : State) : KeepsOn s s.requestReset := by
  unfold State.requestReset
  split
  · exact .inl (.refl s)
  · simp only
    split
    · exact .inr ⟨_, rfl⟩
    · exact .inl (keeps_beside rfl rfl)

theorem keepsOn_writeWord (s : State) (a : Nat) (v : Word) : KeepsOn s (s.writeWord a v) := by
  unfold State.writeWord
  split
  · unfold State.writeSlot
    split
    · exact (keeps_handWrite s _ v).on
    · split
      · exact (keeps_writeRequest s _ _).on
      · split
        · exact (keeps_writeRequest s _ _).on
        · split
          · exact (keeps_writeRequest s _ _).on
          · exact .inl (.refl s)
  · unfold State.writeRegister
    split
    · exact .inl (keeps_beside rfl rfl)
    · split
      · exact .inl (keeps_beside rfl rfl)
      · split
        · exact .inl (keeps_beside rfl rfl)
        · split
          · unfold State.writeResetReq
            split
            · exact keepsOn_requestReset s
            · exact .inl (.refl s)
          · exact .inl (.refl s)

/-! ### Every command -/

theorem keeps_handResult (s : State) (r : AuthRequest) (v : Bytes16) : Keeps s (s.handResult r v) := by
  unfold State.handResult
  split
  · split
    · next state => exact (keepsIf_gotExpected s _ v).keeps (by rw [state]; rfl)
    · exact .refl s
  · split
    · exact keeps_decideTest s _ _ _
    · exact .refl s

theorem keeps_updOutside (s : State) (f : Outside → Outside) : Keeps s (s.updOutside f) := keeps_beside rfl rfl

theorem keeps_presenceActive (b : BayId) (x : Seating) {s t : State} (h : execPresenceActive b x s = .next t) :
    Keeps s t := by
  obtain rfl := Host.Outcome.next.inj h
  have took : Keeps s (s.takeUpPulled x) := by cases x <;> exact keeps_beside rfl rfl
  split
  · exact .refl s
  · split
    · exact .refl s
    · have seated (c : Cartridge) : Keeps s ((s.takeUpPulled x).seat b c) := took.trans (keeps_updOutside _ _)
      split
      · next h =>
        refine Keeps.endQuiet ((seated _).trans (keeps_beginSettling _ b ?_)) s
        rw [← h.2, takeUpPulled_eq]
        rfl
      · exact seated _

theorem keeps_bayRemoval (b : BayId) {s t : State} (h : execBayRemoval b s = .next t) : Keeps s t := by
  obtain rfl := Host.Outcome.next.inj h
  have unseated : Keeps s (s.unseat b) := by unfold State.unseat; exact keeps_updOutside s _
  split
  · split
    · exact unseated
    · exact (unseated.trans (keeps_removeBay _ b)).endEvent s
  · exact .refl s

theorem keeps_settleTimerExpiry (b : BayId) {s t : State} (h : execSettleTimerExpiry b s = .next t) : Keeps s t := by
  obtain rfl := Host.Outcome.next.inj h
  split
  · next expiry state _ =>
    have timed : Keeps s (s.atTime expiry) := keeps_updOutside s _
    have stopped := unlinked_updBay_same (s.atTime expiry) b (fun x => { x with settleTimer := none }) fun _ => rfl
    have steps := (stopped.trans (unlinked_moveBay _ b .identifying)).trans (unlinked_wantStep _ b .readIdentity)
    refine Keeps.endEvent (timed.trans ?_) s
    exact steps.keeps (show (s.bay b).state.linkable = false by rw [state]; rfl)
  · exact .refl s

theorem keeps_senseTimerExpiry (b : BayId) {s t : State} (h : execSenseTimerExpiry b s = .next t) : Keeps s t := by
  obtain rfl := Host.Outcome.next.inj h
  split
  · next expiry _ =>
    have timed : Keeps s (s.atTime expiry) := keeps_updOutside s _
    refine Keeps.endEvent (timed.trans ?_) s
    exact keeps_updBay_fixed _ b _ fun _ => ⟨rfl, rfl, rfl⟩
  · exact .refl s

theorem keeps_authComplete {s t : State} (h : execAuthComputationComplete s = .next t) : Keeps s t := by
  obtain rfl := Host.Outcome.next.inj h
  have auth (u : State) (a : AuthEngine) : Keeps u { u with auth := a } := keeps_beside rfl rfl
  split
  · exact .refl s
  · refine Keeps.endEvent (.trans ?_ (auth _ _)) s
    split
    · exact auth s _
    · exact (auth s _).trans (keeps_handResult _ _ _)

/-- A command keeps the links, resets the part, or makes it READY. -/
theorem exec_keeps {c : Instr} {s t : State} (h : exec c s = .next t) :
    KeepsOn s t ∨ s.port.partState = .starting ∧ t = s.becomeReady := by
  have attempt (e : EngId) (tr : Transaction) (time : Nat) (o : AttemptOutcome) :
      Keeps s (((s.atTime time).endAttempt e tr o).endTimed s) :=
    Keeps.endTimed ((keeps_updOutside s _).trans (keeps_endAttempt _ e tr o)) s
  cases c with
  | powerOnReset => exact .inl (.inr ⟨_, (Host.Outcome.next.inj h).symm⟩)
  | startupRebuildComplete =>
    obtain rfl := Host.Outcome.next.inj h
    split
    · exact .inl (.inl (.refl s))
    · next starting =>
      split
      · exact .inl (.inr ⟨_, rfl⟩)
      · exact .inr ⟨starting, rfl⟩
  | presenceActive b x => exact .inl (.inl (keeps_presenceActive b x h))
  | bayRemoval b => exact .inl (.inl (keeps_bayRemoval b h))
  | settleTimerExpiry b => exact .inl (.inl (keeps_settleTimerExpiry b h))
  | senseTimerExpiry b => exact .inl (.inl (keeps_senseTimerExpiry b h))
  | authComputationComplete => exact .inl (.inl (keeps_authComplete h))
  | tallyFrame frame =>
    obtain rfl := Host.Outcome.next.inj h
    exact .inl (.inl ((keeps_takeLinkFrame s frame).endEvent s))
  | tallyLinkPauseTimeout | tallyFrameBroken =>
    obtain rfl := Host.Outcome.next.inj h
    exact .inl (.inl (Keeps.endQuiet (keeps_beside (s := s) (t := s.countTallyError) rfl rfl) s))
  | pfwActive =>
    obtain rfl := Host.Outcome.next.inj h
    split
    · exact .inl (.inl (.refl s))
    · exact .inl (.inl (((keeps_updOutside s _).trans (keeps_warn _)).endStore s))
  | pfwInactive =>
    obtain rfl := Host.Outcome.next.inj h
    split
    · exact .inl (.inl (((keeps_updOutside s _).trans (keeps_updStore _ _)).endStore s))
    · exact .inl (.inl (.refl s))
  | arrivalWhileStarting k | arrivalWhileResetPending k | withdrawal k | release k | ignoredHandWrite k v =>
    obtain rfl := Host.Outcome.next.inj h
    exact .inl (.inl (keeps_handWrite s k _))
  | hostWrite a v =>
    obtain rfl := Host.Outcome.next.inj h
    exact .inl (keepsOn_writeWord s _ v)
  | tallyPost k _ _ | purgePost k _ _ | postedReject k _ _ _ | badKind k _ _ _ | setProfile k _ _ | checkStore k _ _
  | readTagBlock k _ _ | historyQuery k _ _ | forgetSerial k _ _ | clearHeld k _ _ | switchFeed k _ _ | enforce k _ _
  | clearCounts k _ _ | selfTestCode2 k _ | selfTestCode3 k _ | selfTestCode5 k _ | selfTestCode6 k _
  | selfTestCode9 k _ | selfTestBadCode k _ _ =>
    obtain rfl := Host.Outcome.next.inj h
    exact .inl (.inl (keeps_post s k _ _ _))
  | noticeClear v | noticeEnable v | noticeRoute v =>
    obtain rfl := Host.Outcome.next.inj h
    exact .inl (.inl (keeps_beside rfl rfl))
  | resetReq v =>
    obtain rfl := Host.Outcome.next.inj h
    split
    · exact .inl (keepsOn_requestReset s)
    · exact .inl (.inl (.refl s))
  | softReset =>
    obtain rfl := Host.Outcome.next.inj h
    split
    · exact .inl (.inr ⟨_, rfl⟩)
    · exact .inl (.inl (.refl s))
  | tagAnswerFrame e frame time =>
    obtain rfl := Host.Outcome.next.inj h
    split
    · split
      · exact .inl (.inl (attempt e _ time _))
      · exact .inl (.inl (.refl s))
    · exact .inl (.inl (.refl s))
    · exact .inl (.inl (.refl s))
  | answerWindowTimeout e time =>
    obtain rfl := Host.Outcome.next.inj h
    split
    · exact .inl (.inl (attempt e _ time _))
    · exact .inl (.inl (.refl s))
    · exact .inl (.inl (.refl s))
  | retryGapExpiry e =>
    obtain rfl := Host.Outcome.next.inj h
    split
    · next tr ends _ =>
      have retried : Keeps s ((s.atTime ends).retry e tr) := keeps_beside rfl rfl
      exact .inl (.inl (retried.endQuiet s))
    · exact .inl (.inl (.refl s))
    · exact .inl (.inl (.refl s))
  | settleIntervalExpiry c =>
    obtain rfl := Host.Outcome.next.inj h
    split
    · next expiry _ =>
      have timed : Keeps s (s.atTime expiry) := keeps_updOutside s _
      exact .inl (.inl (Keeps.endQuiet (timed.trans (keeps_updChan _ c _)) s))
    · exact .inl (.inl (.refl s))
  | recordProgram back =>
    obtain rfl := Host.Outcome.next.inj h
    split
    · exact .inl ((keeps_endAppend s _ _ _ _).endFlash s)
    · exact .inl (.inl (.refl s))
  | headerProgram back =>
    obtain rfl := Host.Outcome.next.inj h
    split
    · exact .inl ((keeps_endHeader s _ _ _).endFlash s)
    · exact .inl (.inl (.refl s))
  | sectorErase left =>
    obtain rfl := Host.Outcome.next.inj h
    split
    · exact .inl ((keeps_endErase s _ left).endFlash s)
    · exact .inl (.inl (.refl s))
  | profileRewrite result =>
    obtain rfl := Host.Outcome.next.inj h
    split
    · exact .inl ((keeps_endRewrite s _ _ _ result).endFlash s)
    · exact .inl (.inl (.refl s))
  | checkStoreRead =>
    obtain rfl := Host.Outcome.next.inj h
    split
    · exact .inl (((keeps_updStore s _).trans (keeps_writeAnswer _ _ _)).endFlash s)
    · exact .inl (.inl (.refl s))
  | profileSectorRead =>
    obtain rfl := Host.Outcome.next.inj h
    split
    · exact .inl (((keeps_updStore s _).trans (keeps_decideTest _ _ _ _)).endFlash s)
    · exact .inl (.inl (.refl s))
  | tagWorkComplete b =>
    obtain rfl := Host.Outcome.next.inj h
    exact .inl (.inl (keeps_updOutside s _))

theorem linked_of_clean {s : State} (h : s.Clean) : s.Linked := by
  have none' : s.history.links = [] := by rw [h.history]; rfl
  refine linked_of_free ?_ (fun b => by rw [h.bay]; rfl) fun l link => ?_
  · rw [h.history]
    exact ⟨List.nodup_nil, Nat.zero_le _⟩
  · rw [none'] at link
    exact nomatch link

/-- Settles O13: every command keeps the table sound, a reset empties it, and the rebuild keeps one record of a serial
and 256 of them at most. -/
theorem historyStaysSound : Obligations.HistoryStaysSound := by
  intro c s t sound h
  obtain (kept | ⟨u, rfl⟩) | ⟨_, rfl⟩ := exec_keeps h
  · exact kept.sound sound
  · exact (linked_of_clean (clean_afterReset u)).sound
  · exact ((keeps_readied s).trans (keeps_becomeReady s)).sound (sound_rebuild s)

/-- Settles O14: every command keeps the links of bays and entries, and there are none right after a reset and when READY
is entered. -/
theorem entriesFollowTheirBays : Obligations.EntriesFollowTheirBays := by
  intro c s t sound clean follow h
  refine ((linked_iff t).mp ?_).2
  obtain (kept | ⟨u, rfl⟩) | ⟨starting, rfl⟩ := exec_keeps h
  · exact kept.linked ((linked_iff s).mpr ⟨sound, follow⟩)
  · exact linked_of_clean (clean_afterReset u)
  · exact (keeps_becomeReady s).linked (linked_readied ((startsClean_iff s).mp clean starting))

end Sys2Proof.Machine
end

section
/-! SUPPORT. The answer of a HISTORY_QUERY and its fields (R55, Table 12-6). -/

namespace Sys2Proof.Machine

/-! ### Fields of a run of bytes -/

theorem fieldAt_append_right {l m : List Byte} {k n : Nat} (h : l.length ≤ k) :
    fieldAt (l ++ m) k n = fieldAt m (k - l.length) n := by
  rw [fieldAt, fieldAt, List.drop_append, List.drop_eq_nil_of_le h, List.nil_append]

theorem fieldAt_beBytes (n v : Nat) (m : List Byte) : fieldAt (beBytes n v ++ m) 0 n = v % 256 ^ n :=
  fieldAt_append_beBytes [] m n v

theorem byteAt_append_right {l m : List Byte} {k : Nat} (h : l.length ≤ k) :
    byteAt (l ++ m) k = byteAt m (k - l.length) := List.getD_append_right l m 0#8 k h

/-- A list shorter than the run it is put in by one. -/
theorem toList_fitList_append {α : Type} (n : Nat) (d : α) (l : List α) (h : l.length + 1 = n) :
    (fitList n d l).toList = l ++ [d] := by
  have same : fitList n d l = fitList n d (l ++ [d]) := by
    unfold fitList
    congr
    funext i
    by_cases hi : i.val < l.length
    · rw [List.getD_append _ _ _ _ hi]
    · rw [List.getD_eq_default _ _ (by omega), List.getD_append_right _ _ _ _ (by omega)]
      rw [show i.val - l.length = 0 by omega]
      rfl
  rw [same, toList_fitList n d _ (by simpa using h)]

/-! ### The answer area -/

/-- The bytes of an entry's place in the journal: the sector's number and the slot, 0 and 0 where there is none. -/
def locationBytes (l : Option JournalPlace) : List Byte :=
  match l with
  | some l => [natByte (secNumber l.sector), natByte l.slot]
  | none => [0#8, 0#8]

theorem length_locationBytes (l : Option JournalPlace) : (locationBytes l).length = 2 := by
  cases l <;> rfl

/-- The answer area of an entry, field after field. -/
theorem entryAnswer_area (s : State) (e : Entry) :
    (answerOf .done (s.entryAnswer e)).area.toList
      = beBytes 8 e.serial.toNat ++ (beBytes 2 e.inkType ++ (beBytes 2 e.book ++ (beBytes 2 (s.owedNow e)
        ++ ([e.verdict.code, e.seen.setWidth 8, bayByte e.installedBay, bayByte (some e.lastBay)]
        ++ (beBytes 4 e.useStamp ++ ([boolByte e.journalDue] ++ (locationBytes e.journalLocation
        ++ (beBytes 4 e.journalSeq ++ [0#8])))))))) := by
  have fields : s.entryAnswer e = _ ++ locationBytes e.journalLocation ++ beBytes 4 e.journalSeq := rfl
  show (fitList 30 0#8 (s.entryAnswer e)).toList = _
  rw [toList_fitList_append 30 0#8 _ (by rw [fields]; simp [length_locationBytes]), fields]
  simp only [List.append_assoc]

theorem fieldAt_cons_succ (x : Byte) (l : List Byte) (k n : Nat) : fieldAt (x :: l) (k + 1) n = fieldAt l k n := rfl

theorem byteAt_cons_zero (x : Byte) (l : List Byte) : byteAt (x :: l) 0 = x := rfl

theorem byteAt_cons_succ (x : Byte) (l : List Byte) (k : Nat) : byteAt (x :: l) (k + 1) = byteAt l k := rfl

theorem byteAt_append_left {l m : List Byte} {k : Nat} (h : k < l.length) : byteAt (l ++ m) k = byteAt l k :=
  List.getD_append l m 0#8 k h

/-- The fields of an entry's answer at their places (Table 12-6). -/
structure AnswersEntry (s : State) (e : Entry) (area : List Byte) : Prop where
  serial   : fieldAt area 0 8 = e.serial.toNat
  inkType  : fieldAt area 8 2 = e.inkType % 65536
  book     : fieldAt area 10 2 = e.book % 65536
  owed     : fieldAt area 12 2 = s.owedNow e % 65536
  verdict  : byteAt area 14 = e.verdict.code
  seen     : byteAt area 15 = e.seen.setWidth 8
  seated   : byteAt area 16 = bayByte e.installedBay
  lastBay  : byteAt area 17 = bayByte (some e.lastBay)
  useStamp : fieldAt area 18 4 = e.useStamp % 4294967296
  due      : byteAt area 22 = boolByte e.journalDue
  sector   : byteAt area 23 = byteAt (locationBytes e.journalLocation) 0
  slot     : byteAt area 24 = byteAt (locationBytes e.journalLocation) 1
  seq      : fieldAt area 25 4 = e.journalSeq % 4294967296

theorem answersEntry (s : State) (e : Entry) : AnswersEntry s e (answerOf .done (s.entryAnswer e)).area.toList := by
  have wide : e.serial.toNat % 256 ^ 8 = e.serial.toNat := Nat.mod_eq_of_lt e.serial.isLt
  have place := length_locationBytes e.journalLocation
  rw [entryAnswer_area]
  constructor
  case serial => exact (fieldAt_beBytes 8 _ _).trans wide
  case verdict | seen | seated | lastBay => simp [byteAt_append_right, byteAt_cons_zero, byteAt_cons_succ]
  case due | sector | slot => simp [byteAt_append_right, byteAt_append_left, byteAt_cons_zero, byteAt_cons_succ, place]
  all_goals simp [fieldAt_append_right, fieldAt_cons_succ, fieldAt_beBytes, place]

theorem bayByte_lt (b : BayId) : (bayByte (some b)).toNat = b.val :=
  (BitVec.toNat_ofNat ..).trans (Nat.mod_eq_of_lt (by omega))

/-- HISTORY_QUERY at its taking (R55). -/
theorem exec_historyQuery {s : State} {k : SlotId} (h : s.Takes k) (target : Word) (a : Args) :
    exec (.historyQuery k target a) s
      = .next ((s.leftAnswered k 0x13#16 target a (s.historyAnswer (argSerial a))).endQuiet
          (s.updSlot k fun x => { x with kind := 0x13#16, target := target, args := a })) := by
  refine congrArg Host.Outcome.next ((post_of_takes h 0x13#16 target a).trans ?_)
  rw [← writeAnswer_leftTaken]
  rfl

/-- Settles O31: the answer found at the taking is put into the slot and the event ends with its publication. -/
theorem historyQueryAnswersTheEntry : Obligations.HistoryQueryAnswersTheEntry := by
  intro k target a s takes
  refine ⟨_, s.historyAnswer (argSerial a), exec_historyQuery takes target a, rfl, ?_, fun none' => ?_, fun e found => ?_⟩
  · unfold State.historyAnswer
    split <;> rfl
  · have absent : s.entryOf (argSerial a) = none :=
      List.find?_eq_none.mpr fun e live => by simpa using none' e live
    rw [State.historyAnswer, absent]
  · have answer : s.historyAnswer (argSerial a) = answerOf .done (s.entryAnswer e) := by
      rw [State.historyAnswer, found]
    obtain ⟨serial, inkType, book, owed, verdict, seen, seated, lastBay, useStamp, due, sector, slot, seq⟩ :=
      answersEntry s e
    have own (away : e.installedBay = none) : s.owedNow e = e.owed := by rw [State.owedNow, away]
    have pending (b : BayId) (here : e.installedBay = some b) : s.owedNow e = (s.bay b).pending := by
      rw [State.owedNow, here]
    rw [answer]
    refine ⟨rfl, serial, fun fits => inkType.trans (Nat.mod_eq_of_lt fits), fun fits => book.trans (Nat.mod_eq_of_lt fits),
      fun away fits => ?_, fun b here fits => ?_, verdict, seen, ?_, ?_, fun fits => ?_, ?_, fun none' => ?_,
      fun l some' => ⟨?_, fun fits => ?_⟩, fun fits => ?_⟩
    · rw [owed, own away, Nat.mod_eq_of_lt fits]
    · rw [owed, pending b here, Nat.mod_eq_of_lt fits]
    · rw [seated]
      cases e.installedBay with
      | none => rfl
      | some b => exact bayByte_lt b
    · rw [lastBay, bayByte_lt]
    · rw [useStamp]
      exact Nat.mod_eq_of_lt (Nat.lt_succ_of_le fits)
    · rw [due]
      cases e.journalDue <;> decide
    · rw [sector, slot, none']
      exact ⟨rfl, rfl⟩
    · rw [sector, some']
      exact (BitVec.toNat_ofNat ..).trans (Nat.mod_eq_of_lt (Nat.lt_of_lt_of_le (Nat.succ_lt_succ l.sector.isLt) (by decide)))
    · rw [slot, some']
      exact (BitVec.toNat_ofNat ..).trans (Nat.mod_eq_of_lt fits)
    · rw [seq]
      exact Nat.mod_eq_of_lt (Nat.lt_succ_of_le fits)

end Sys2Proof.Machine
end

section
/-! SUPPORT. FORGET_SERIAL: the conditions in order, the entry gone, and the place held for its tombstone (R56, R57). -/

namespace Sys2Proof.Machine

/-- The table without a live entry; its place is held for a tombstone unless the journal is degraded (R57). -/
def History.forgotten (h : History) (e : Entry) (degraded : Bool) : History :=
  let gone := { h with live := h.live.filter fun x => x.serial != e.serial }
  if degraded then gone
  else if e.journalDue then { gone.turnItem e.serial true with tombs := h.tombs ++ [e.serial] }
  else { gone with tombs := h.tombs ++ [e.serial], fifo := h.fifo ++ [⟨e.serial, true⟩] }

theorem forget_eq (s : State) (e : Entry) :
    s.forget e = s.updHist fun h => h.forgotten e (decide (s.store.mode = .degraded)) := by
  unfold State.forget History.forgotten
  by_cases degraded : s.store.mode = .degraded
  · simp only [degraded, if_true, decide_true]
  · by_cases due : e.journalDue = true
    · simp only [degraded, due, if_false, if_true, decide_false, Bool.false_eq_true]
    · simp only [degraded, due, if_false, decide_false, Bool.false_eq_true]

theorem forgotten_live (h : History) (e : Entry) (degraded : Bool) :
    (h.forgotten e degraded).live = h.live.filter (fun x => x.serial != e.serial)
      ∧ (h.forgotten e degraded).useCounter = h.useCounter ∧ (h.forgotten e degraded).evictions = h.evictions
      ∧ (h.forgotten e degraded).untracked = h.untracked := by
  unfold History.forgotten
  simp only
  split
  · exact ⟨rfl, rfl, rfl, rfl⟩
  · split <;> exact ⟨rfl, rfl, rfl, rfl⟩

/-- While the journal is not degraded the place is held, and the serial's tombstone item waits (R57). -/
theorem forgotten_held (h : History) (e : Entry) :
    e.serial ∈ (h.forgotten e false).tombs
      ∧ (e.journalDue = true → (h.forgotten e false).fifo = (h.turnItem e.serial true).fifo)
      ∧ (e.journalDue = false → (h.forgotten e false).fifo = h.fifo ++ [⟨e.serial, true⟩]) := by
  have joins : e.serial ∈ h.tombs ++ [e.serial] := List.mem_append_right _ List.mem_cons_self
  cases due : e.journalDue
  · simp only [History.forgotten, due, Bool.false_eq_true, if_false]
    exact ⟨joins, nofun, fun _ => trivial⟩
  · simp only [History.forgotten, due, Bool.false_eq_true, if_false, if_true]
    exact ⟨joins, fun _ => rfl, nofun⟩

section
variable {s : State} {k : SlotId} {a : Args}

theorem takeForget_enforced (on : s.latch = true) : s.takeForget k a = s.writeAnswer k (plainAnswer .enforced) :=
  if_pos on

theorem takeForget_notFound (off : s.latch = false) (absent : s.entryOf (argSerial a) = none) :
    s.takeForget k a = s.writeAnswer k (plainAnswer .notFound) := by
  simp [State.takeForget, off, absent]

theorem takeForget_found {e : Entry} (off : s.latch = false) (found : s.entryOf (argSerial a) = some e) :
    s.takeForget k a = if e.installedBay.isSome then s.writeAnswer k (plainAnswer .installed)
      else (s.forget e).writeAnswer k (plainAnswer .done) := by
  simp [State.takeForget, off, found]

end

/-- FORGET_SERIAL at its taking, with the end of its event (R56). -/
theorem exec_forgetSerial {s : State} {k : SlotId} (h : s.Takes k) (target : Word) (a : Args) :
    exec (.forgetSerial k target a) s
      = .next (((s.leftTaken k 0x14#16 target a none none).takeForget k a).endStore
          (s.updSlot k fun x => { x with kind := 0x14#16, target := target, args := a })) :=
  congrArg Host.Outcome.next (post_of_takes h 0x14#16 target a)

/-- An answer is written beside the history table. -/
theorem writeAnswer_updHist (s : State) (f : History → History) (k : SlotId) (a : Answer) :
    (s.updHist f).writeAnswer k a = (s.writeAnswer k a).updHist f := by
  have slot : (s.updHist f).slot k = s.slot k := rfl
  unfold State.writeAnswer
  rw [slot]
  split <;> rfl

/-- The serials of the live entries stay where what changes is journal-due marks. -/
theorem KeptAtEnd.serials {s t : State} (h : KeptAtEnd s t) :
    t.history.live.map (·.serial) = s.history.live.map (·.serial) := by
  have same := congrArg (List.map Entry.serial) h.history
  rw [List.map_map, List.map_map] at same
  exact same

theorem entryOf_none_iff (s : State) (serial : Serial) :
    s.entryOf serial = none ↔ serial ∉ s.history.live.map (·.serial) := by
  rw [State.entryOf, List.find?_eq_none, List.mem_map]
  simp

/-- A serial without a live entry has none at the end of the event. -/
theorem KeptAtEnd.absent {s t : State} (h : KeptAtEnd s t) {serial : Serial} (none' : s.entryOf serial = none) :
    t.entryOf serial = none := by
  rw [entryOf_none_iff, h.serials, ← entryOf_none_iff]
  exact none'

/-- What waits for the journal, at the end of an event after which it is not degraded. -/
theorem held_endStore {s before : State} (mode : (s.endStore before).store.mode ≠ .degraded) :
    s.store.mode ≠ .degraded ∧ (s.endStore before).history.tombs = s.history.tombs
      ∧ s.history.fifo <+: (s.endStore before).history.fifo := by
  rw [State.endStore, State.publishSince_store] at mode
  rw [State.endStore, State.publishSince_history]
  obtain ⟨mode', _⟩ := dueKept_advanceStore s before mode
  obtain held | ⟨degraded, _⟩ := held_advanceStore s before
  · exact ⟨mode', held⟩
  · exact absurd degraded mode

/-- An entry forgotten and the ticket answered, at the end of the event. -/
theorem kept_forgotten {s u : State} {serial : Serial} {e : Entry} (found : s.entryOf serial = some e)
    (history : u.history = s.history) (before : State) :
    KeptAtEnd { u with history := { s.history with live := s.history.live.filter fun x => x.serial != serial } }
        ((u.updHist fun h => h.forgotten e (decide (s.store.mode = .degraded))).endStore before) := by
  obtain ⟨_, rfl⟩ := mem_of_entryOf found
  obtain ⟨live, counts⟩ := forgotten_live u.history e (decide (s.store.mode = .degraded))
  refine KeptAtEnd.trans ?_ (kept_endStore _ before)
  refine kept_updHist { u with history := { s.history with live := s.history.live.filter fun x => x.serial != e.serial } }
    (fun _ => u.history.forgotten e (decide (s.store.mode = .degraded))) ?_ ?_
  · rw [live, history]
  · rw [← history]; exact counts

/-- The place and the tombstone item of a serial forgotten, at the end of an event after which the journal is not
degraded. -/
theorem held_forgotten {s u : State} {e : Entry} (history : u.history = s.history) (store : u.store = s.store)
    (before : State)
    (mode : ((u.updHist fun h => h.forgotten e (decide (s.store.mode = .degraded))).endStore before).store.mode
      ≠ .degraded) :
    let t := (u.updHist fun h => h.forgotten e (decide (s.store.mode = .degraded))).endStore before
    e.serial ∈ t.history.tombs
      ∧ (e.journalDue = true → (s.history.turnItem e.serial true).fifo <+: t.history.fifo)
      ∧ (e.journalDue = false → s.history.fifo ++ [⟨e.serial, true⟩] <+: t.history.fifo) := by
  obtain ⟨mode', tombs, fifo⟩ := held_endStore mode
  have normal : decide (s.store.mode = .degraded) = false := by
    rw [← store]
    exact decide_eq_false mode'
  have table : (u.updHist fun h => h.forgotten e (decide (s.store.mode = .degraded))).history
      = s.history.forgotten e false := by
    rw [← history, ← normal]
    rfl
  rw [table] at tombs fifo
  obtain ⟨place, turned, joined⟩ := forgotten_held s.history e
  intro t
  exact ⟨tombs ▸ place, fun due => turned due ▸ fifo, fun due => joined due ▸ fifo⟩

/-- Settles O32: the four conditions are tried in order, and what the last leaves of the table stands at the end of the
event. -/
theorem forgetSerialFollowsItsConditions : Obligations.ForgetSerialFollowsItsConditions := by
  intro k target a s takes
  have answered (u : State) (r : Answer) (h : u = s.leftAnswered k 0x14#16 target a r) (before : State) :
      KeptAtEnd (s.leftAnswered k 0x14#16 target a r) (u.endStore before) := h ▸ kept_endStore u before
  have latch : (s.leftTaken k 0x14#16 target a none none).latch = s.latch := rfl
  have entries : (s.leftTaken k 0x14#16 target a none none).entryOf (argSerial a) = s.entryOf (argSerial a) := rfl
  refine ⟨_, exec_forgetSerial takes target a, fun on => answered _ _ ?_ _, fun off absent => answered _ _ ?_ _,
    fun e off found => ⟨fun seated => answered _ _ ?_ _, fun away => ?_⟩⟩
  · rw [takeForget_enforced (latch.trans on), writeAnswer_leftTaken]
  · rw [takeForget_notFound (latch.trans off) (entries.trans absent), writeAnswer_leftTaken]
  · rw [takeForget_found (latch.trans off) (entries.trans found), if_pos (Option.isSome_iff_ne_none.mpr seated),
      writeAnswer_leftTaken]
  · have forgot : (s.leftTaken k 0x14#16 target a none none).takeForget k a
        = (s.leftAnswered k 0x14#16 target a (plainAnswer .done)).updHist fun h =>
            h.forgotten e (decide (s.store.mode = .degraded)) := by
      rw [takeForget_found (latch.trans off) (entries.trans found), if_neg (by simp [away]), forget_eq,
        writeAnswer_updHist, writeAnswer_leftTaken]
      rfl
    rw [forgot]
    have kept := kept_forgotten (u := s.leftAnswered k 0x14#16 target a (plainAnswer .done)) found rfl
      (s.updSlot k fun x => { x with kind := 0x14#16, target := target, args := a })
    obtain ⟨_, named⟩ := mem_of_entryOf found
    refine ⟨kept, kept.absent ((entryOf_none_iff _ _).mpr fun still => ?_), fun mode => ?_⟩
    · obtain ⟨x, live, same⟩ := List.mem_map.mp still
      simpa [same] using (List.mem_filter.mp live).2
    · rw [← named]
      exact held_forgotten (u := s.leftAnswered k 0x14#16 target a (plainAnswer .done)) rfl rfl _ mode

end Sys2Proof.Machine
end

section
/-! SUPPORT. The power-fail input: the tickets turned away, the entries made due and the waiting that can begin (R53,
R163, R168, R169). -/

namespace Sys2Proof.Machine

/-! ### The warning itself (R168) -/

/-- The power-fail input taken up as active: its notice and the header's flag. -/
def State.warned (s : State) : State := (s.raise .power).updStore fun x => { x with powerWarning := true }

theorem warn_warned (s : State) :
    s.warn = (s.turnAwayRewrites.makeAllDue s.turnAwayRewrites.installedSerials).warned := rfl

/-- What an end of an event leaves alone it leaves alone under a warning. -/
theorem KeptAtEnd.warned {s t : State} (h : KeptAtEnd s t) : KeptAtEnd s.warned t.warned where
  pending := h.pending
  outside := h.outside
  flash := h.flash
  port := h.port
  slots := h.slots
  notices := by
    have before := h.notices
    apply BitVec.eq_of_getLsbD_eq
    intro i hi
    have bit := congrArg (·.getLsbD i) before
    simp only [BitVec.getLsbD_and, BitVec.getLsbD_not, hi, decide_true, Bool.true_and, BitVec.getLsbD_zero] at bit
    simp [State.warned, State.raise, State.updPort, State.updStore, hi]
    grind
  bays := h.bays
  auth := h.auth
  latch := h.latch
  channels := h.channels
  tally := h.tally
  engines := h.engines
  inFlight := h.inFlight
  history := h.history
  counts := h.counts
  store := congrArg (fun x : Store => { x with powerWarning := true }) h.store
  op := h.op
  tickets := h.tickets
  selfTest := h.selfTest

/-! ### The rewrites turned away (R53) -/

/-- Slots answered one after the other. -/
def State.answerAll (s : State) (l : List StoreTicket) (a : Answer) : State :=
  l.foldl (fun s t => s.writeAnswer t.slot a) s

theorem writeAnswer_updStore (s : State) (f : Store → Store) (k : SlotId) (a : Answer) :
    (s.updStore f).writeAnswer k a = (s.writeAnswer k a).updStore f := by
  have slot : (s.updStore f).slot k = s.slot k := rfl
  unfold State.writeAnswer
  rw [slot]
  split <;> rfl

theorem answerAll_updStore (l : List StoreTicket) (a : Answer) (f : Store → Store) (s : State) :
    (s.updStore f).answerAll l a = (s.answerAll l a).updStore f := by
  unfold State.answerAll
  induction l generalizing s with
  | nil => rfl
  | cons t l ih => rw [List.foldl_cons, List.foldl_cons, writeAnswer_updStore, ih]

theorem turnAwayRewrites_eq (s : State) :
    s.turnAwayRewrites
      = (s.answerAll (s.store.tickets.filter StoreTicket.isRewrite) (plainAnswer .powerWarning)).updStore fun x =>
          { x with tickets := x.tickets.filter fun t => !t.isRewrite } :=
  answerAll_updStore _ _ _ s

/-- Slots answered change slots and the pending notices alone. -/
theorem answerAll_beside (l : List StoreTicket) (a : Answer) (s : State) :
    (s.answerAll l a).store = s.store ∧ (s.answerAll l a).history = s.history := by
  unfold State.answerAll
  induction l generalizing s with
  | nil => exact ⟨rfl, rfl⟩
  | cons t l ih =>
    obtain ⟨store, history⟩ := ih (s.writeAnswer t.slot a)
    exact ⟨store.trans (State.writeAnswer_store ..), history.trans (State.writeAnswer_history ..)⟩

theorem kept_answerAll (l : List StoreTicket) (a : Answer) (s : State) (h : ∀ x ∈ l, x ∈ s.store.tickets) :
    KeptAtEnd s (s.answerAll l a) := by
  unfold State.answerAll
  induction l generalizing s with
  | nil => exact .refl s
  | cons t l ih =>
    refine (kept_writeAnswer s t.slot a ⟨t, h t List.mem_cons_self, rfl⟩).trans (ih _ fun x hx => ?_)
    rw [State.writeAnswer_store]
    exact h x (List.mem_cons_of_mem _ hx)

/-- A slot that no answer is left for stays. -/
theorem slot_answerAll_settled (l : List StoreTicket) (a : Answer) (s : State) (k : SlotId)
    (h : (s.slot k).hand ≠ .taken) : (s.answerAll l a).slot k = s.slot k := by
  unfold State.answerAll
  induction l generalizing s with
  | nil => rfl
  | cons t l ih =>
    have same : (s.writeAnswer t.slot a).slot k = s.slot k := by
      by_cases here : k = t.slot
      · rw [State.writeAnswer, if_neg (here ▸ h)]
      · exact State.slot_writeAnswer_other s t.slot k a here
    rw [List.foldl_cons, ih _ (by rw [same]; exact h), same]

/-- A TAKEN slot of one of the tickets holds the answer. -/
theorem slot_answerAll {l : List StoreTicket} (a : Answer) {s : State} {t : StoreTicket} (mem : t ∈ l)
    (h : (s.slot t.slot).hand = .taken) : (s.answerAll l a).slot t.slot = (s.slot t.slot).answered a := by
  induction l generalizing s with
  | nil => exact nomatch mem
  | cons x l ih =>
    show ((s.writeAnswer x.slot a).answerAll l a).slot t.slot = _
    by_cases here : t.slot = x.slot
    · have written : (s.writeAnswer x.slot a).slot t.slot = (s.slot t.slot).answered a := by
        rw [here]
        exact State.slot_writeAnswer_self s x.slot a (here ▸ h)
      rw [slot_answerAll_settled l a _ _ (by rw [written]; nofun), written]
    · have same := State.slot_writeAnswer_other s x.slot t.slot a here
      obtain rfl | mem := List.mem_cons.mp mem
      · exact absurd rfl here
      · rw [ih mem (by rw [same]; exact h), same]

theorem kept_turnAwayRewrites (s : State) : KeptAtEnd s s.turnAwayRewrites := by
  rw [turnAwayRewrites_eq]
  refine KeptAtEnd.trans ?_ (kept_updStore _ _ rfl (fun x hx => List.mem_of_mem_filter hx) fun _ => rfl)
  exact kept_answerAll _ _ s fun x hx => List.mem_of_mem_filter hx

theorem store_turnAwayRewrites (s : State) :
    s.turnAwayRewrites.store = { s.store with tickets := s.store.tickets.filter fun t => !t.isRewrite } := by
  rw [turnAwayRewrites_eq]
  obtain ⟨store, _⟩ := answerAll_beside (s.store.tickets.filter StoreTicket.isRewrite) (plainAnswer .powerWarning) s
  exact congrArg (fun x : Store => { x with tickets := x.tickets.filter fun t => !t.isRewrite }) store

theorem history_turnAwayRewrites (s : State) : s.turnAwayRewrites.history = s.history := by
  rw [turnAwayRewrites_eq]
  exact (answerAll_beside _ _ s).2

theorem slot_turnAwayRewrites {s : State} {x : StoreTicket} (waits : x ∈ s.store.tickets) (rewrite : x.isRewrite = true)
    (taken : (s.slot x.slot).hand = .taken) :
    s.turnAwayRewrites.slot x.slot = (s.slot x.slot).answered (plainAnswer .powerWarning) := by
  rw [turnAwayRewrites_eq]
  exact slot_answerAll _ (List.mem_filter.mpr ⟨waits, rewrite⟩) taken

theorem kept_warn (s : State) : KeptAtEnd s.warned s.warn := by
  rw [warn_warned]
  exact ((kept_turnAwayRewrites s).trans (kept_makeAllDue _ _)).warned

/-! ### The entries made due (R49, R168) -/

theorem store_makeAllDue (s : State) (l : List Serial) : (s.makeAllDue l).store = s.store :=
  makeAllDue_keeps (·.store) (fun _ _ => rfl) s l

/-- Every serial of the list has its entry due, unless the journal is degraded. -/
theorem makeAllDue_due {l : List Serial} {s : State} {serial : Serial} {e : Entry} (mem : serial ∈ l)
    (found : s.entryOf serial = some e) (mode : s.store.mode ≠ .degraded) :
    ∃ x, (s.makeAllDue l).entryOf serial = some x ∧ x.journalDue = true := by
  induction l generalizing s e with
  | nil => exact nomatch mem
  | cons y l ih =>
    have store : (s.makeDue y).store = s.store := makeDue_keeps (·.store) (fun _ _ => rfl) s y
    obtain rfl | mem := List.mem_cons.mp mem
    · obtain ⟨x, now, due⟩ := makeDue_due found mode
      have rest := dueKept_makeAllDue l (s.makeDue serial)
      obtain ⟨_, follow⟩ := rest (by rw [store_makeAllDue, store]; exact mode)
      obtain ⟨z, later, follows⟩ := follow serial x now
      exact ⟨z, later, follows.due due⟩
    · obtain ⟨x, now, _⟩ := entriesKept_makeDue s y serial e found
      exact ih mem now (by rw [store]; exact mode)

/-- A serial whose entry is due has its item among those that join. -/
def State.Joins (s : State) (serial : Serial) : Prop :=
  ∀ x, s.entryOf serial = some x → x.journalDue = true → ⟨serial, false⟩ ∈ s.history.joining

theorem joins_makeDue {s : State} {serial : Serial} (h : s.Joins serial) (y : Serial) : (s.makeDue y).Joins serial := by
  unfold State.makeDue
  split
  · exact h
  · split
    · exact h
    · next e found =>
      split
      · exact h
      · intro x after due
        have entry := (entryOf_updEntry s y serial (fun e => { e with journalDue := true }) fun _ => rfl).symm.trans after
        obtain ⟨x', before, same⟩ := Option.map_eq_some_iff.mp entry
        obtain ⟨_, named⟩ := mem_of_entryOf before
        show (⟨serial, false⟩ : DueItem) ∈ s.history.joining ++ [⟨y, false⟩]
        by_cases here : serial = y
        · exact List.mem_append_right _ (by rw [here]; exact List.mem_cons_self)
        · rw [if_neg (by rw [named]; exact here)] at same
          exact List.mem_append_left _ (h x' before (same ▸ due))

theorem joins_makeAllDue {s : State} {serial : Serial} (h : s.Joins serial) (l : List Serial) :
    (s.makeAllDue l).Joins serial := by
  unfold State.makeAllDue
  induction l generalizing s with
  | nil => exact h
  | cons y l ih => exact ih (joins_makeDue h y)

/-- Items that join stay among those that join while entries become due. -/
theorem joining_makeAllDue (s : State) (l : List Serial) : s.history.joining ⊆ (s.makeAllDue l).history.joining := by
  have step (u : State) (y : Serial) : u.history.joining ⊆ (u.makeDue y).history.joining := by
    unfold State.makeDue
    split
    · exact fun _ h => h
    · split
      · exact fun _ h => h
      · split
        · exact fun _ h => h
        · exact List.subset_append_left _ _
  unfold State.makeAllDue
  induction l generalizing s with
  | nil => exact fun _ h => h
  | cons y l ih => exact fun x hx => ih _ (step s y hx)

/-! ### The waiting that begins (R163) -/

/-- Where every sector but a DIRTY one is neither ERASED nor ACTIVE with a free slot no slot can be had. -/
theorem noSlot_of_beside {s : State} {j : SecId} (dirty : s.store.sectors[j].state = .dirty) (beside : s.NoSlotBeside j) :
    s.noSlot = true := by
  have active : s.activeSector = none := by
    refine List.find?_eq_none.mpr fun x hx => ?_
    have state : s.store.sectors[x].state = .active := by simpa [State.sectorsIn] using hx
    have other : x ≠ j := fun same => by rw [same, dirty] at state; exact nomatch state
    have full := (beside x other).2 state
    simpa using full
  have erased : s.sectorsIn .erased = [] := by
    refine List.filter_eq_nil_iff.mpr fun x _ => ?_
    rw [decide_eq_true_eq]
    by_cases here : x = j
    · rw [here, dirty]; nofun
    · exact (beside x here).1
  rw [State.noSlot, active, erased]
  rfl

/-- The reclaim check leaves mode and sectors, and every item that joins. -/
theorem reclaimCheck_leaves (s : State) :
    s.reclaimCheck.store.mode = s.store.mode ∧ s.reclaimCheck.store.sectors = s.store.sectors
      ∧ s.history.joining ⊆ s.reclaimCheck.history.joining := by
  unfold State.reclaimCheck
  split
  · exact ⟨rfl, rfl, fun _ h => h⟩
  · split
    · exact ⟨rfl, rfl, fun _ h => h⟩
    · next j _ =>
      rw [store_makeAllDue]
      exact ⟨rfl, rfl, joining_makeAllDue (s.updStore fun x => { x with victim := some j }) _⟩

/-- The waiting and stalled tests with an item that joins and no slot to be had, a DIRTY sector left: the waiting begins,
and the item joins still. -/
theorem watchJournal_waits {s : State} {i : DueItem} {j : SecId} (joins : i ∈ s.history.joining)
    (mode : s.store.mode = .normal) (dirty : s.store.sectors[j].state = .dirty) (beside : s.NoSlotBeside j) :
    s.watchJournal.store.mode = .waiting ∧ s.watchJournal.notified .store = true
      ∧ i ∈ s.watchJournal.history.joining := by
  have items : s.itemsWait = true := by
    cases e : s.history.joining with
    | nil => rw [e] at joins; exact nomatch joins
    | cons x l => simp [State.itemsWait, e]
  have waiting : s.startWaiting = ((s.updStore fun x => { x with mode := .waiting }).raise .store).reclaimCheck :=
    if_pos ⟨mode, items, noSlot_of_beside dirty beside⟩
  obtain ⟨mode', sectors, joining⟩ := reclaimCheck_leaves ((s.updStore fun x => { x with mode := .waiting }).raise .store)
  have raised : ((s.updStore fun x => { x with mode := .waiting }).raise .store).notified .store = true := by
    rw [notified_raise]
    exact Bool.or_true _
  have noticed := (kept_reclaimCheck _).notified raised
  rw [← waiting] at mode' sectors joining noticed
  have stays : s.watchJournal = s.startWaiting := by
    refine if_neg fun ⟨_, _, _, _, none'⟩ => ?_
    have mem : j ∈ s.startWaiting.sectorsIn .dirty :=
      List.mem_filter.mpr ⟨List.mem_finRange j, by rw [sectors]; exact decide_eq_true dirty⟩
    rw [List.isEmpty_iff.mp none'] at mem
    exact nomatch mem
  rw [stays]
  exact ⟨mode', noticed, joining joins⟩

/-- The store controller then has the item in the FIFO, waiting with it. -/
theorem advanceStore_waits {s : State} {i : DueItem} {j : SecId} (joins : i ∈ s.history.joining)
    (mode : s.store.mode = .normal) (dirty : s.store.sectors[j].state = .dirty) (beside : s.NoSlotBeside j)
    (before : State) :
    (s.advanceStore before).store.mode = .waiting ∧ (s.advanceStore before).notified .store = true
      ∧ i ∈ (s.advanceStore before).history.fifo := by
  have noted : (s.noteChange before).history = s.history ∧ (s.noteChange before).store.mode = s.store.mode
      ∧ (s.noteChange before).store.sectors = s.store.sectors := by
    obtain h | h := noteChange_cases s before <;> rw [h] <;> exact ⟨rfl, rfl, rfl⟩
  obtain ⟨history, mode', sectors⟩ := noted
  have beside' : (s.noteChange before).NoSlotBeside j := by
    unfold State.NoSlotBeside
    rw [sectors]
    exact beside
  obtain ⟨waiting, noticed, joined⟩ := watchJournal_waits (s := s.noteChange before) (history ▸ joins) (mode'.trans mode)
    (by rw [sectors]; exact dirty) beside'
  unfold State.advanceStore
  generalize (s.noteChange before).watchJournal = w at waiting noticed joined
  have sorted := (sortBy_perm w.joinKey w.history.joining).mem_iff.mpr joined
  have mem : i ∈ w.flushJoining.history.fifo := List.mem_append_right _ sorted
  have startedMode : w.flushJoining.startStore.store.mode = w.store.mode :=
    startStore_keeps (·.store.mode) (fun _ _ h => h _) (fun _ _ _ => rfl) (fun _ _ _ => rfl) w.flushJoining
  have startedHistory : w.flushJoining.startStore.history = w.flushJoining.history :=
    startStore_keeps (·.history) (fun _ _ _ => rfl) (fun _ _ _ => rfl) (fun _ _ _ => rfl) w.flushJoining
  have kept := (kept_flushJoining w).trans (kept_startStore _)
  exact ⟨startedMode.trans waiting, kept.notified noticed, startedHistory ▸ mem⟩

theorem endStore_waits {s : State} {i : DueItem} {j : SecId} (joins : i ∈ s.history.joining)
    (mode : s.store.mode = .normal) (dirty : s.store.sectors[j].state = .dirty) (beside : s.NoSlotBeside j)
    (before : State) :
    (s.endStore before).store.mode = .waiting ∧ (s.endStore before).notified .store = true
      ∧ i ∈ (s.endStore before).history.fifo := by
  obtain ⟨waiting, noticed, waits⟩ := advanceStore_waits joins mode dirty beside before
  have published := (kept_publishSince (s.advanceStore before) before).notified noticed
  rw [State.endStore, State.publishSince_store, State.publishSince_history]
  exact ⟨waiting, published, waits⟩

end Sys2Proof.Machine
end

section
/-! SUPPORT. PFW becoming active and inactive (R53, R168, R169). -/

namespace Sys2Proof.Machine

theorem history_warn (s : State) : s.warn.history = (s.turnAwayRewrites.makeAllDue s.installedSerials).history := by
  have same : s.turnAwayRewrites.installedSerials = s.installedSerials := by
    rw [State.installedSerials, State.installedSerials, history_turnAwayRewrites]
  rw [warn_warned, same]
  rfl

theorem store_warn (s : State) : s.warn.store = { s.turnAwayRewrites.store with powerWarning := true } := by
  rw [warn_warned]
  exact congrArg (fun x : Store => { x with powerWarning := true }) (store_makeAllDue _ _)

/-- Of the store the warning changes the tickets and the header's flag alone. -/
theorem store_warn_leaves (s : State) :
    s.warn.store.mode = s.store.mode ∧ s.warn.store.sectors = s.store.sectors
      ∧ s.warn.store.tickets = s.store.tickets.filter fun t => !t.isRewrite := by
  rw [store_warn, store_turnAwayRewrites]
  exact ⟨rfl, rfl, rfl⟩

theorem slot_warn (s : State) (k : SlotId) : s.warn.slot k = s.turnAwayRewrites.slot k := by
  rw [warn_warned]
  exact makeAllDue_keeps (·.slot k) (fun _ _ => rfl) s.turnAwayRewrites _

theorem mem_installedSerials {s : State} {e : Entry} (live : e ∈ s.history.live) (seated : e.installedBay ≠ none) :
    e.serial ∈ s.installedSerials :=
  List.mem_map.mpr ⟨e, List.mem_filter.mpr ⟨live, Option.isSome_iff_ne_none.mpr seated⟩, rfl⟩

/-- The entry of a seated cartridge is due after the warning (R168). -/
theorem warn_due {s : State} (sound : s.history.Sound) {e : Entry} (live : e ∈ s.history.live)
    (seated : e.installedBay ≠ none) (mode : s.store.mode ≠ .degraded) :
    ∃ x, s.warn.entryOf e.serial = some x ∧ x.journalDue = true := by
  obtain ⟨mode', _⟩ := store_warn_leaves s
  have found : s.turnAwayRewrites.entryOf e.serial = some e := by
    rw [State.entryOf, history_turnAwayRewrites]
    exact entryOf_of_mem sound live
  have normal : s.turnAwayRewrites.store.mode ≠ .degraded := by
    rw [store_warn] at mode'
    exact fun degraded => mode (mode'.symm.trans degraded)
  have due := makeAllDue_due (mem_installedSerials live seated) found normal
  rw [State.entryOf, history_warn]
  exact due

/-- An entry that was not due has joined with its item (R49). -/
theorem warn_joins {s : State} (sound : s.history.Sound) {e : Entry} (live : e ∈ s.history.live)
    (seated : e.installedBay ≠ none) (clear : e.journalDue = false) (mode : s.store.mode ≠ .degraded) :
    ⟨e.serial, false⟩ ∈ s.warn.history.joining := by
  have joins : s.turnAwayRewrites.Joins e.serial := by
    intro x found due
    rw [State.entryOf, history_turnAwayRewrites] at found
    have same := (entryOf_of_mem sound live).symm.trans found
    rw [← Option.some.inj same, clear] at due
    exact nomatch due
  obtain ⟨x, found, due⟩ := warn_due sound live seated mode
  rw [State.entryOf, history_warn] at found
  rw [history_warn]
  exact joins_makeAllDue joins _ x found due

/-- What stands at the end of an event is of the content it had when the end began. -/
theorem KeptAtEnd.mem_live {s t : State} (h : KeptAtEnd s t) {x : Entry} (live : x ∈ t.history.live) :
    ∃ e ∈ s.history.live, e.content = x.content := by
  have mem : x.content ∈ t.history.live.map Entry.content := List.mem_map_of_mem live
  rw [h.history] at mem
  exact List.mem_map.mp mem

theorem dueKept_endStore (s before : State) : DueKept s (s.endStore before) :=
  (dueKept_advanceStore s before).trans
    (.of_same (by rw [State.endStore, State.publishSince_history]) (by rw [State.endStore, State.publishSince_store]))

/-- At the end of the event every seated cartridge's entry is due, unless the journal is degraded. -/
theorem warned_due {s before : State} (sound : s.history.Sound) (mode : (s.warn.endStore before).store.mode ≠ .degraded)
    {x : Entry} (live : x ∈ (s.warn.endStore before).history.live) (seated : x.installedBay ≠ none) :
    x.journalDue = true := by
  have kept := (kept_warn s).trans (kept_endStore _ before)
  obtain ⟨mode', follow⟩ := dueKept_endStore s.warn before mode
  obtain ⟨sameMode, _⟩ := store_warn_leaves s
  obtain ⟨e, was, content⟩ := kept.mem_live live
  have serial : e.serial = x.serial := (congrArg Entry.serial content :)
  have bay : e.installedBay = x.installedBay := (congrArg Entry.installedBay content :)
  obtain ⟨y, found, due⟩ := warn_due sound was (bay ▸ seated) (sameMode ▸ mode')
  obtain ⟨z, found', follows⟩ := follow _ y found
  have after := ((keeps_warn s).endStore before).sound sound
  have same := (entryOf_of_mem after live).symm.trans (serial ▸ found')
  rw [Option.some.inj same]
  exact follows.due due

/-- Settles O45: the warning turns the rewrites away, makes the installed entries due and is shown; an end of the warning
clears what the header shows. -/
theorem powerWarningComesAndGoes : Obligations.PowerWarningComesAndGoes := by
  intro s
  refine ⟨fun on => congrArg Host.Outcome.next (if_pos on), fun off => ?_, fun on => ?_,
    fun off => congrArg Host.Outcome.next (if_neg (by rw [off]; exact nofun))⟩
  · have kept := (kept_warn (s.setPfw true)).trans (kept_endStore _ s)
    obtain ⟨mode, sectors, tickets⟩ := store_warn_leaves (s.setPfw true)
    refine ⟨_, congrArg Host.Outcome.next (if_neg (by rw [off]; exact nofun)), kept, kept.notified ?_, fun x waits => ?_,
      fun x waits rewrite taken => ?_, fun sound normal e live seated => ?_,
      fun e j live seated clear sound normal dirty beside => ?_⟩
    · exact (notified_raise (s.setPfw true) .power .power).trans (Bool.or_true _)
    · have left := (kept_endStore (s.setPfw true).warn s).tickets x waits
      rw [tickets] at left
      simpa using (List.mem_filter.mp left).2
    · have answered : (s.setPfw true).warn.slot x.slot = (s.slot x.slot).answered (plainAnswer .powerWarning) :=
        (slot_warn _ _).trans (slot_turnAwayRewrites (s := s.setPfw true) waits rewrite taken)
      have stays := (kept_endStore (s.setPfw true).warn s).slots x.slot (.inl (by rw [answered]; nofun))
      rw [stays, answered]
      exact ⟨rfl, show (plainAnswer .powerWarning).word = 0x000E#16 by decide⟩
    · exact warned_due (s := s.setPfw true) (before := s) sound normal live seated
    · have intact : s.store.mode ≠ .degraded := by rw [normal]; nofun
      have joins := warn_joins (s := s.setPfw true) sound live seated clear intact
      have beside' : (s.setPfw true).warn.NoSlotBeside j := by
        unfold State.NoSlotBeside
        rw [sectors]
        exact beside
      have dirty' : (s.setPfw true).warn.store.sectors[j].state = .dirty := by rw [sectors]; exact dirty
      exact endStore_waits joins (mode.trans normal) dirty' beside' s
  · exact ⟨_, congrArg Host.Outcome.next (if_pos on), kept_endStore _ s⟩

end Sys2Proof.Machine
end

section
/-! SUPPORT. What the end of a reconciliation leaves of its bay and of the history table. -/

namespace Sys2Proof.Machine

/-! ### What a walk of the feed leaves -/

/-- A conversion leaves the other channels alone. -/
theorem chan_convert_other (s : State) (b : BayId) (c : ChanId) (h : c ≠ chanOf b) :
    (s.convert (chanOf b) b).chan c = s.chan c := (touches_convert s _ b rfl).chans c h

/-- A bay whose mark the channel's residue does not reach keeps book and pending, and the residue stays below the mark:
a conversion can only lower it. -/
theorem FeedWalk.spares {s t : State} (h : FeedWalk s t) {b : BayId}
    (small : (s.chan (chanOf b)).residue < (s.bay b).markSize) :
    (t.chan (chanOf b)).residue < (t.bay b).markSize ∧ (t.bay b).book = (s.bay b).book
      ∧ (t.bay b).pending = (s.bay b).pending := by
  induction h with
  | refl s => exact ⟨small, rfl, rfl⟩
  | trans _ _ ih₁ ih₂ =>
    obtain ⟨small₁, book₁, pending₁⟩ := ih₁ small
    obtain ⟨small₂, book₂, pending₂⟩ := ih₂ small₁
    exact ⟨small₂, book₂.trans book₁, pending₂.trans pending₁⟩
  | raise => exact ⟨small, rfl, rfl⟩
  | chan s c f h =>
    have residue : ((s.updChan c f).chan (chanOf b)).residue = (s.chan (chanOf b)).residue := by
      by_cases here : chanOf b = c
      · rw [← here, State.chan_updChan_self, h]
      · rw [State.chan_updChan_other _ _ _ _ here]
    exact ⟨residue ▸ small, rfl, rfl⟩
  | bay s x f h =>
    have account : ((s.updBay x f).bay b).account = (s.bay b).account := by
      rw [bay_updBay]
      split
      · next here => rw [here, h]
      · rfl
    obtain ⟨_, _, book, pending, identity⟩ : _ ∧ _ ∧ _ ∧ _ ∧ _ := by simpa [Bay.account] using account
    refine ⟨?_, book, pending⟩
    rw [Bay.markSize, identity]
    exact small
  | state s x st h =>
    rw [bay_updBay]
    split
    · next here => subst here; exact ⟨small, rfl, rfl⟩
    · exact ⟨small, rfl, rfl⟩
  | convert s x =>
    by_cases here : b = x
    · subst here
      obtain ⟨burn, bay⟩ := bay_convert_self s (chanOf b) b
      have none' : s.marksApplied (chanOf b) b = 0 := by
        rw [State.marksApplied, State.marksDue, Nat.div_eq_of_lt small, Nat.zero_min]
      rw [bay, residue_convert, none']
      exact ⟨(Nat.mod_le _ _).trans_lt small, rfl, rfl⟩
    · rw [bay_convert_other s _ x b here]
      refine ⟨?_, rfl, rfl⟩
      by_cases beside : chanOf b = chanOf x
      · rw [beside, residue_convert, ← beside]
        exact (Nat.mod_le _ _).trans_lt small
      · rw [chan_convert_other s x _ beside]
        exact small

/-- Of the table what no charge changes: the places, the counter, the items and the counts. -/
def History.rest (h : History) : List Serial × Nat × List DueItem × Nat × Nat :=
  (h.tombs, h.useCounter, h.fifo, h.evictions, h.untracked)

/-- An entry but for its book and its journal-due mark. -/
def Entry.unfed (e : Entry) : Entry := { e with book := 0, journalDue := false }

/-- The map of the live entries under a function that an update of one of them does not change. -/
theorem live_updEntry {α : Type} (g : Entry → α) (s : State) (serial : Serial) (f : Entry → Entry)
    (h : ∀ e, g (f e) = g e) : (s.updEntry serial f).history.live.map g = s.history.live.map g := by
  show (List.map _ s.history.live).map g = s.history.live.map g
  rw [List.map_map]
  refine List.map_congr_left fun e _ => ?_
  show g (if e.serial = serial then f e else e) = g e
  split
  · exact h e
  · rfl

theorem rest_makeDue (s : State) (serial : Serial) : (s.makeDue serial).history.rest = s.history.rest := by
  unfold State.makeDue
  split
  · rfl
  · split
    · rfl
    · split <;> rfl

theorem live_makeDue {α : Type} (g : Entry → α) (h : ∀ e : Entry, g { e with journalDue := true } = g e) (s : State)
    (serial : Serial) : (s.makeDue serial).history.live.map g = s.history.live.map g := by
  unfold State.makeDue
  split
  · rfl
  · split
    · rfl
    · split
      · rfl
      · exact live_updEntry g s serial _ h

/-- The feed changes books and journal-due marks of entries, and nothing else of the table but the items that join. -/
theorem FeedWalk.table {s t : State} (h : FeedWalk s t) :
    t.history.rest = s.history.rest ∧ t.history.live.map Entry.unfed = s.history.live.map Entry.unfed := by
  induction h with
  | refl s => exact ⟨rfl, rfl⟩
  | trans _ _ ih₁ ih₂ =>
    obtain ⟨rest₁, live₁⟩ := ih₁
    obtain ⟨rest₂, live₂⟩ := ih₂
    exact ⟨rest₂.trans rest₁, live₂.trans live₁⟩
  | raise | chan | bay | state => exact ⟨rfl, rfl⟩
  | convert s b =>
    have followed (u : State) (n : Nat) : (u.followBook b n).history.rest = u.history.rest
        ∧ (u.followBook b n).history.live.map Entry.unfed = u.history.live.map Entry.unfed := by
      unfold State.followBook
      split
      · exact ⟨rfl, rfl⟩
      · next serial _ =>
        have booked := live_updEntry Entry.unfed u serial (fun e => { e with book := (u.bay b).book }) fun _ => rfl
        simp only
        split
        · exact ⟨rest_makeDue _ _, (live_makeDue Entry.unfed (fun _ => rfl) _ _).trans booked⟩
        · exact ⟨rfl, booked⟩
    have beside : (s.convert (chanOf b) b).history = s.history
        ∨ (s.convert (chanOf b) b).history = ((s.chargeMarks (chanOf b) b).followBook b (s.bay b).book).history := by
      rw [convert_eq]
      split
      · exact .inl rfl
      · rw [raiseBurnWant_eq]
        unfold State.levelCrossing
        split
        · exact .inr rfl
        · split <;> exact .inr rfl
    obtain same | followedBook := beside
    · rw [same]; exact ⟨rfl, rfl⟩
    · rw [followedBook]; exact followed (s.chargeMarks (chanOf b) b) (s.bay b).book

/-- Only the feed's notices are raised. -/
theorem FeedWalk.notified {s t : State} (h : FeedWalk s t) {n : Notice} (other : n.ofFeed = false) :
    t.notified n = s.notified n := by
  induction h with
  | trans _ _ ih₁ ih₂ => exact ih₂.trans ih₁
  | refl | chan | bay | state => rfl
  | convert s b => exact ((steps_convert s _ b).notified n).2 other
  | raise s m feed => exact ((FeedSteps.raise s m feed).notified n).2 other

end Sys2Proof.Machine
end

section
/-! SUPPORT. The checks of a reconciliation and the end of its event: what they leave of the bay and of the history
table. -/

namespace Sys2Proof.Machine

/-! ### The checks -/

/-- What names an entry and its place: serial, ink type, owed, bay and last bay. -/
def Entry.named (e : Entry) : Serial × Nat × Nat × Option BayId × BayId :=
  (e.serial, e.inkType, e.owed, e.installedBay, e.lastBay)

theorem rest_eq_iff {g h : History} :
    g.rest = h.rest ↔ g.tombs = h.tombs ∧ g.useCounter = h.useCounter ∧ g.fifo = h.fifo ∧ g.evictions = h.evictions
      ∧ g.untracked = h.untracked := by
  simp only [History.rest, Prod.mk.injEq]

/-- From `s` to `t` the table keeps places, counts, items and what names its entries. -/
def KeepsTable (s t : State) : Prop :=
  t.history.rest = s.history.rest ∧ t.history.live.map Entry.named = s.history.live.map Entry.named

theorem KeepsTable.refl (s : State) : KeepsTable s s := ⟨rfl, rfl⟩

theorem KeepsTable.trans {s t u : State} (h : KeepsTable s t) (k : KeepsTable t u) : KeepsTable s u :=
  ⟨k.1.trans h.1, k.2.trans h.2⟩

theorem keepsTable_makeDue (s : State) (serial : Serial) : KeepsTable s (s.makeDue serial) :=
  ⟨rest_makeDue s serial, live_makeDue Entry.named (fun _ => rfl) s serial⟩

theorem keepsTable_setSeen (s : State) (serial : Serial) (bits : SeenSet) : KeepsTable s (s.setSeen serial bits) := by
  unfold State.setSeen
  split
  · exact .refl s
  · split
    · exact .refl s
    · refine KeepsTable.trans ?_ (keepsTable_makeDue _ _)
      exact ⟨rfl, live_updEntry Entry.named s serial _ fun _ => rfl⟩

/-- From `s` to `t` of the bay only what a check sets changes, its sense context and its wants; channels and table
stay. -/
structure Stands (b : BayId) (s t : State) : Prop where
  bay      : { t.bay b with sense := (s.bay b).sense, wants := (s.bay b).wants } = s.bay b
  channels : t.channels = s.channels
  table    : KeepsTable s t

theorem Stands.refl (b : BayId) (s : State) : Stands b s s := ⟨rfl, rfl, .refl s⟩

theorem Stands.field {α : Type} {b : BayId} {s t : State} (h : Stands b s t) (p : Bay → α)
    (hp : ∀ (x : Bay) (c : Sense) (w : Wants), p { x with sense := c, wants := w } = p x) :
    p (t.bay b) = p (s.bay b) := (hp _ _ _).symm.trans (congrArg p h.bay)

theorem Stands.trans {b : BayId} {s t u : State} (h : Stands b s t) (k : Stands b t u) : Stands b s u := by
  refine ⟨?_, k.channels.trans h.channels, h.table.trans k.table⟩
  have last := congrArg (fun x : Bay => { x with sense := (s.bay b).sense, wants := (s.bay b).wants }) k.bay
  exact last.trans h.bay

/-- A flag that sets without a consequence verdict. -/
theorem stands_setFlag {s : State} {b : BayId} {k : HeldKind} (weak : (s.bay b).judged k = none) :
    Stands b s (s.setFlag b k) := by
  have alert (u : State) : (u.alertFlag b k).channels = u.channels ∧ (u.alertFlag b k).history = u.history := by
    unfold State.alertFlag
    split <;> exact ⟨rfl, rfl⟩
  have unjudged : (((s.holdFlag b k).alertFlag b k).bay b).judged k = none := by
    rw [bay_alertFlag, bay_holdFlag]
    exact weak
  refine ⟨?_, ?_, ?_⟩
  · rw [bay_setFlag, weak]
    rfl
  · rw [setFlag_keeps (·.channels) (fun _ _ _ => rfl) (fun _ => rfl) fun _ _ => rfl]
    exact (alert _).1
  · have shown (u : State) : KeepsTable u (u.showFlag b k) := by
      unfold State.showFlag
      split
      · exact keepsTable_setSeen u _ _
      · exact .refl u
    have held : KeepsTable s ((s.holdFlag b k).alertFlag b k) := by
      have same : ((s.holdFlag b k).alertFlag b k).history = s.history := (alert _).2
      rw [KeepsTable, same]
      exact ⟨rfl, rfl⟩
    unfold State.setFlag
    rw [judgeFlag_none unjudged, raiseRefillMarkWant_eq]
    exact held.trans (shown _)

/-- A check of a bay that is not decided on and whose verdict is as strong as the consequence. -/
theorem stands_fireCheck {s : State} {b : BayId} {k : HeldKind} (un : (s.bay b).state.decided = false)
    (weak : (s.bay b).judged k = none) : Stands b s (s.fireCheck b k) := by
  rw [fireCheck_eq, reevaluate_undecided _ b (by rw [(adjusts_setFlag s b k).state]; exact un)]
  split
  · exact .refl b s
  · exact stands_setFlag weak

/-- A verdict REFILLED or FOREIGN gives way to no consequence of a reconciliation's checks (R29, Table 7-3). -/
theorem judged_none_of_strong {x : Bay} (strong : 2 ≤ x.verdict.strength) {k : HeldKind} (h : k ≠ .burnMismatch) :
    x.judged k = none := by
  have weak (c : Verdict × VerdictReason) (hc : k.consequence = some c) : ¬ x.verdict.strength < c.1.strength := by
    cases k <;> simp_all [HeldKind.consequence]
    all_goals rw [← hc]; simpa [Verdict.strength] using strong
  rw [Bay.judged, Option.filter_eq_none_iff]
  exact fun c hc => by simpa using weak c hc

theorem stands_fireInsertionChecks {s : State} {b : BayId} {conflict rise : Bool}
    (un : (s.bay b).state.decided = false)
    (strong : conflict = true ∨ rise = true → 2 ≤ (s.bay b).verdict.strength) :
    Stands b s (s.fireInsertionChecks b conflict rise) := by
  have fire (u : State) (k : HeldKind) (on : Bool) (h : k ≠ .burnMismatch) (un : (u.bay b).state.decided = false)
      (strong : on = true → 2 ≤ (u.bay b).verdict.strength) :
      Stands b u (if on = true then u.fireCheck b k else u) := by
    split
    · next yes => exact stands_fireCheck un (judged_none_of_strong (strong yes) h)
    · exact .refl b u
  have first := fire s .flagConflict conflict nofun un fun on => strong (.inl on)
  refine first.trans (fire _ .gaugeRise rise nofun ?_ fun on => ?_)
  · rw [first.field (·.state) fun _ _ _ => rfl]; exact un
  · rw [first.field (·.verdict) fun _ _ _ => rfl]; exact strong (.inr on)

/-! ### The end of the insertion and of the event -/

/-- From `s` to `t` the bay keeps its figures, its link and its verdict, and the table its counts, the names of its
entries and, unless the journal is degraded, places and items. -/
structure Settles (b : BayId) (s t : State) : Prop where
  book          : (t.bay b).book = (s.bay b).book
  pending       : (t.bay b).pending = (s.bay b).pending
  entry         : (t.bay b).entry = (s.bay b).entry
  authenticated : (t.bay b).authenticated = (s.bay b).authenticated
  verdict       : (t.bay b).verdict = (s.bay b).verdict
  reason        : (t.bay b).verdictReason = (s.bay b).verdictReason
  counts        : t.history.useCounter = s.history.useCounter ∧ t.history.evictions = s.history.evictions
    ∧ t.history.untracked = s.history.untracked
  named         : t.history.live.map Entry.named = s.history.live.map Entry.named
  held          : t.store.mode ≠ .degraded → t.history.tombs = s.history.tombs ∧ s.history.fifo <+: t.history.fifo

/-- What waits for the journal, at the end of a timed event after which it is not degraded. -/
theorem held_endTimed {s before : State} (mode : (s.endTimed before).store.mode ≠ .degraded) :
    (s.endTimed before).history.tombs = s.history.tombs ∧ s.history.fifo <+: (s.endTimed before).history.fifo := by
  obtain ⟨_, history, store⟩ := arbitrateAll_beside (s.advanceStore before) s.outside.now
  rw [State.endTimed, State.publishSince_store, store] at mode
  rw [State.endTimed, State.publishSince_history, history]
  obtain held | ⟨degraded, _⟩ := held_advanceStore s before
  · exact held
  · exact absurd degraded mode

theorem unfed_named (e : Entry) : e.unfed.named = e.named := rfl

theorem content_named (e : Entry) : e.content.named = e.named := rfl

/-- What an equation of contents, or of what the feed leaves, says of the live entries. -/
theorem map_live_congr {α : Type} {l m : List Entry} {g : Entry → Entry} {f : Entry → α} (h : l.map g = m.map g)
    (hg : ∀ e, f (g e) = f e) : l.map f = m.map f := by
  have both := congrArg (List.map f) h
  have same : f ∘ g = f := funext hg
  rwa [List.map_map, List.map_map, same] at both

/-- The walk of the feed that ends an insertion, with a residue below the bay's mark, and the end of the event. -/
theorem settles_of_walk {b : BayId} {s u t : State} (walk : FeedWalk s u) (kept : KeptAtEnd u t)
    (small : (s.chan (chanOf b)).residue < (s.bay b).markSize) (entry : (u.bay b).entry = (s.bay b).entry)
    (authenticated : (u.bay b).authenticated = (s.bay b).authenticated)
    (verdict : (u.bay b).verdict = (s.bay b).verdict) (reason : (u.bay b).verdictReason = (s.bay b).verdictReason)
    (held : t.store.mode ≠ .degraded → t.history.tombs = u.history.tombs ∧ u.history.fifo <+: t.history.fifo) :
    Settles b s t := by
  obtain ⟨_, book, pending⟩ := walk.spares small
  obtain ⟨rest, unfed⟩ := walk.table
  obtain ⟨counter, evictions, untracked⟩ := kept.counts
  obtain ⟨tombs', counter', fifo', evictions', untracked'⟩ := rest_eq_iff.mp rest
  rw [tombs', fifo'] at held
  exact {
    book := (kept.bayField Bay.book b fun _ => rfl).trans book
    pending := (kept.bayField Bay.pending b fun _ => rfl).trans pending
    entry := (kept.bayField Bay.entry b fun _ => rfl).trans entry
    authenticated := (kept.bayField Bay.authenticated b fun _ => rfl).trans authenticated
    verdict := (kept.bayField Bay.verdict b fun _ => rfl).trans verdict
    reason := (kept.bayField Bay.verdictReason b fun _ => rfl).trans reason
    counts := ⟨counter.trans counter', evictions.trans evictions', untracked.trans untracked'⟩
    named := (map_live_congr kept.history content_named).trans (map_live_congr unfed unfed_named)
    held }

/-- An insertion ended with a residue below the bay's mark, and the event with it. -/
theorem settles_endInsertion {s : State} {b : BayId} (small : (s.chan (chanOf b)).residue < (s.bay b).markSize)
    (before : State) : Settles b s ((s.endInsertion b).endTimed before) :=
  settles_of_walk (walk_endInsertion s b) (kept_endTimed (s.endInsertion b) before) small
    (endInsertion_keeps Bay.entry (fun _ => rfl) (fun _ _ => rfl) s b)
    (endInsertion_keeps Bay.authenticated (fun _ => rfl) (fun _ _ => rfl) s b)
    (endInsertion_keeps Bay.verdict (fun _ => rfl) (fun _ _ => rfl) s b)
    (endInsertion_keeps Bay.verdictReason (fun _ => rfl) (fun _ _ => rfl) s b) held_endTimed

/-- What the checks leave and the end of the insertion keeps. -/
theorem Stands.settles {b : BayId} {s u t : State} (stands : Stands b s u) (ended : Settles b u t) : Settles b s t := by
  obtain ⟨rest, named⟩ := stands.table
  obtain ⟨tombs, counter, fifo, evictions, untracked⟩ := rest_eq_iff.mp rest
  obtain ⟨counter', evictions', untracked'⟩ := ended.counts
  have held := ended.held
  rw [tombs, fifo] at held
  exact {
    book := ended.book.trans (stands.field Bay.book fun _ _ _ => rfl)
    pending := ended.pending.trans (stands.field Bay.pending fun _ _ _ => rfl)
    entry := ended.entry.trans (stands.field Bay.entry fun _ _ _ => rfl)
    authenticated := ended.authenticated.trans (stands.field Bay.authenticated fun _ _ _ => rfl)
    verdict := ended.verdict.trans (stands.field Bay.verdict fun _ _ _ => rfl)
    reason := ended.reason.trans (stands.field Bay.verdictReason fun _ _ _ => rfl)
    counts := ⟨counter'.trans counter, evictions'.trans evictions, untracked'.trans untracked⟩
    named := ended.named.trans named
    held }

/-- A course of a reconciliation from its settled bay on: the checks, the end of the insertion and of the event. -/
def State.closeCourse (s : State) (b : BayId) (conflict rise : Bool) (before : State) : State :=
  ((s.fireInsertionChecks b conflict rise).endInsertion b).endTimed before

section
variable {s : State} {b : BayId} {conflict rise : Bool} (un : (s.bay b).state.decided = false)
include un

theorem settles_closeCourse (small : (s.chan (chanOf b)).residue < (s.bay b).markSize)
    (strong : conflict = true ∨ rise = true → 2 ≤ (s.bay b).verdict.strength) (before : State) :
    Settles b s (s.closeCourse b conflict rise before) := by
  have stands := stands_fireInsertionChecks un strong
  have small' : ((s.fireInsertionChecks b conflict rise).chan (chanOf b)).residue
      < ((s.fireInsertionChecks b conflict rise).bay b).markSize := by
    rw [stands.field Bay.markSize fun _ _ _ => rfl, State.chan, stands.channels]
    exact small
  exact stands.settles (settles_endInsertion small' before)

end

/-! ### The held flags, the snapshot and ALERT (R128, R130, R131) -/

theorem hasKind_fireWhere (s : State) (b : BayId) (k k' : HeldKind) (on : Bool) :
    hasKind ((if on = true then s.fireCheck b k else s).bay b).sense.held k'
      = (hasKind (s.bay b).sense.held k' || decide (k' = k) && on) := by
  cases on
  · simp
  · simp [hasKind_fireCheck]

/-- The sense context after the checks is that at the end of the event, the sense timer and the window apart. -/
theorem sense_closeCourse {α : Type} (p : Sense → α) (s : State) (b : BayId) (conflict rise : Bool) (before : State)
    (ha : ∀ x : Bay, p x.aside.sense = p x.sense) (hs : ∀ x : Bay, p x.settled.sense = p x.sense) :
    p ((s.closeCourse b conflict rise before).bay b).sense
      = p ((s.fireInsertionChecks b conflict rise).bay b).sense := by
  unfold State.closeCourse
  generalize s.fireInsertionChecks b conflict rise = u
  have kept := kept_endTimed (u.endInsertion b) before
  exact (kept.bayField (fun x => p x.sense) b hs).trans
    (endInsertion_keeps (fun x => p x.sense) ha (fun _ _ => rfl) u b)

theorem hasKind_closeCourse (s : State) (b : BayId) (conflict rise : Bool) (before : State) (k : HeldKind) :
    hasKind ((s.closeCourse b conflict rise before).bay b).sense.held k
      = ((hasKind (s.bay b).sense.held k || decide (k = .flagConflict) && conflict)
        || decide (k = .gaugeRise) && rise) := by
  rw [sense_closeCourse (fun c => hasKind c.held k) s b conflict rise before (fun _ => rfl) fun _ => rfl]
  exact (hasKind_fireWhere ..).trans (congrArg (· || _) (hasKind_fireWhere ..))

theorem hasKind_zero (k : HeldKind) : hasKind 0#5 k = false := by cases k <;> rfl

/-- A check of a bay that is not decided on and holds no flag of its kind. -/
theorem fireCheck_sets {s : State} {b : BayId} {k : HeldKind} (un : (s.bay b).state.decided = false)
    (clear : hasKind (s.bay b).sense.held k = false) : s.fireCheck b k = s.setFlag b k := by
  rw [fireCheck_eq, if_neg (by rw [clear]; exact nofun),
    reevaluate_undecided _ b (by rw [(adjusts_setFlag s b k).state]; exact un)]

/-- ALERT is raised where a kind that sets is selected, and the snapshot is of the first kind that sets. -/
theorem alert_fireWhere {s : State} {b : BayId} {k : HeldKind} {on : Bool} (un : (s.bay b).state.decided = false)
    (clear : hasKind (s.bay b).sense.held k = false) :
    (if on = true then s.fireCheck b k else s).notified .alert = (s.notified .alert || on && s.alerts b k) := by
  cases on
  · simp
  · rw [if_pos rfl, fireCheck_sets un clear, alert_setFlag, Bool.true_and]

theorem snapshot_fireWhere {s : State} {b : BayId} {k : HeldKind} {on : Bool} (un : (s.bay b).state.decided = false)
    (clear : hasKind (s.bay b).sense.held k = false) :
    ((if on = true then s.fireCheck b k else s).bay b).sense.snapshot
      = if on = true then some ((s.bay b).sense.snapshot.getD ((s.bay b).snapshotFor k))
        else (s.bay b).sense.snapshot := by
  cases on
  · simp
  · rw [if_pos rfl, if_pos rfl, fireCheck_sets un clear, sense_setFlag]
    rfl

end Sys2Proof.Machine
end

section
/-! SUPPORT. The courses of a reconciliation (R43 to R48). -/

namespace Sys2Proof.Machine

/-! ### The comparison begins (R25, R27) -/

/-- The bay as it is compared with the history: authenticated and RECONCILING, its insertion step done. -/
def Bay.compared (x : Bay) : Bay :=
  { x with state := .reconciling, authenticated := true, challenge := none, tagResponse := none
           expectedResponse := none, wants := { x.wants with insertion := none } }

/-- `r` is `s` with a bay being compared, as far as a reconciliation looks. -/
structure Compares (b : BayId) (s r : State) : Prop where
  bay      : r.bay b = (s.bay b).compared
  history  : r.history = s.history
  channels : r.channels = s.channels
  alert    : r.notified .alert = s.notified .alert

/-- The course a reconciliation takes for an identity. -/
def State.weigh (s : State) (b : BayId) (id : Identity) : State :=
  match s.entryOf id.serial with
  | some e => if e.installedBay.isSome then s.reconcileDuplicate b else s.reconcileExisting b id e
  | none =>
    match s.history.takePlace id.serial with
    | some (h, waits) => s.reconcileNew b id h waits
    | none => s.reconcileUntracked b

theorem reconcile_eq {s : State} {b : BayId} {id : Identity} (known : (s.bay b).identity = some id) :
    s.reconcile b = (s.moveBay b .reconciling).weigh b id := by
  have still : ((s.moveBay b .reconciling).bay b).identity = some id :=
    ((aside_moveBay s b .reconciling).keeps Bay.identity (fun _ => rfl) b).trans known
  unfold State.reconcile
  simp only [still]
  rfl

theorem checkResponse_reconciles {s : State} {b : BayId} {r : Bytes16} (resp : (s.bay b).tagResponse = some r)
    (expect : (s.bay b).expectedResponse = some r) (gauge : (s.bay b).gaugeKnown = true) :
    s.checkResponse b = ((s.updBay b fun x =>
      { x with challenge := none, tagResponse := none, expectedResponse := none }).updBay b fun x =>
        { x with authenticated := true }).reconcile b := by
  simp only [State.checkResponse, resp, expect, ne_eq, not_true, if_false, State.bay_updBay_self, gauge, if_true]

theorem reconcile_compares {s u : State} {b : BayId} {id : Identity} (state : (u.bay b).state = .challenging)
    (bay : { u.bay b with state := .reconciling } = (s.bay b).compared) (history : u.history = s.history)
    (channels : u.channels = s.channels) (alert : u.notified .alert = s.notified .alert)
    (known : (u.bay b).identity = some id) : ∃ r, Compares b s r ∧ u.reconcile b = r.weigh b id := by
  refine ⟨u.moveBay b .reconciling, ?_, reconcile_eq known⟩
  rw [moveBay_plain (st := .reconciling) (by rw [state]; rfl) rfl (by rw [state]; nofun) (by decide)]
  refine ⟨?_, history, channels, ?_⟩
  · rw [State.bay_raise, State.bay_updBay_self]
    exact bay
  · rw [notified_raise]
    exact (Bool.or_false _).trans alert

/-- The response that is expected begins the comparison. -/
theorem gotResponse_compares {s u : State} {b : BayId} {id : Identity} {resp : Bytes16}
    (bay : u.bay b = { s.bay b with wants := { (s.bay b).wants with insertion := none } })
    (history : u.history = s.history) (channels : u.channels = s.channels)
    (alert : u.notified .alert = s.notified .alert) (state : (s.bay b).state = .challenging)
    (expected : (s.bay b).expectedResponse = some resp) (gauge : (s.bay b).gaugeKnown = true)
    (known : (s.bay b).identity = some id) :
    ∃ r, Compares b s r ∧ u.gotResponse b resp = r.weigh b id := by
  have answered : (u.updBay b fun x => { x with tagResponse := some resp }).bay b
      = { u.bay b with tagResponse := some resp } := State.bay_updBay_self ..
  rw [State.gotResponse, checkResponse_reconciles (r := resp) (by rw [answered]) (by rw [answered, bay]; exact expected)
    (by rw [answered, bay]; exact gauge)]
  refine reconcile_compares ?_ ?_ history channels alert ?_
  all_goals rw [State.bay_updBay_self, State.bay_updBay_self, answered, bay]
  · exact state
  · rfl
  · exact known

/-- The ACK that matches begins the comparison. -/
theorem State.AboutToReconcile.compares {s : State} {e : EngId} {rec : Reception} {b : BayId} {id : Identity}
    (about : s.AboutToReconcile e rec b id) (time : Nat) :
    ∃ r, Compares b s r ∧ exec (.tagAnswerFrame e rec time) s = .next ((r.weigh b id).endTimed s) := by
  obtain ⟨tr, c, resp, f, flies, rfl, own, command, hears, ack, expected⟩ := about.answer
  have bay : ((s.heard e time).endStep tr.bay).bay tr.bay
      = { s.bay tr.bay with wants := { (s.bay tr.bay).wants with insertion := none } } := by
    rw [State.endStep, State.bay_updBay_self]; rfl
  have challenging : (((s.heard e time).endStep tr.bay).bay tr.bay).state = .challenging := by
    rw [bay]; exact about.state
  have delivered : (s.heard e time).deliver e tr (.response resp)
      = ((s.heard e time).endStep tr.bay).gotResponse tr.bay resp := by
    unfold State.deliver State.deliverStep
    simp only [own, command, challenging, if_true]
  obtain ⟨r, compares, eq⟩ := gotResponse_compares bay rfl rfl rfl about.state expected about.gauge about.identity
  exact ⟨r, compares, by rw [exec_tagAck flies hears ack time, delivered, eq]⟩

end Sys2Proof.Machine
end

section
/-! SUPPORT. The courses of a reconciliation, each from the settled bay to the end of the event. -/

namespace Sys2Proof.Machine

/-! ### The history table as a reconciliation changes it -/

/-- The entry of a serial, as far as an equation of the live entries tells it. -/
theorem entryOf_of_map {α : Type} {s t : State} {g : Entry → α} {key : α → Serial} (hk : ∀ e, key (g e) = e.serial)
    (same : t.history.live.map g = s.history.live.map g) {serial : Serial} {e : Entry}
    (found : s.entryOf serial = some e) : ∃ x, t.entryOf serial = some x ∧ g x = g e := by
  have find (u : State) : (u.history.live.map g).find? (fun a => key a == serial) = (u.entryOf serial).map g := by
    rw [List.find?_map, State.entryOf]
    exact congrArg (fun p => (u.history.live.find? p).map g) (funext fun e => congrArg (· == serial) (hk e))
  have both := (find t).symm.trans ((congrArg (List.find? _) same).trans (find s))
  rw [found] at both
  exact Option.map_eq_some_iff.mp both

/-- An entry but for its use stamp. -/
def Entry.unstamped (e : Entry) : Entry := { e with useStamp := 0 }

/-- The counter's step changes use stamps alone (R42). -/
theorem stepStamp_rest (h : History) :
    h.stepStamp.tombs = h.tombs ∧ h.stepStamp.fifo = h.fifo ∧ h.stepStamp.evictions = h.evictions
      ∧ h.stepStamp.untracked = h.untracked ∧ h.stepStamp.live.map Entry.unstamped = h.live.map Entry.unstamped := by
  unfold History.stepStamp
  simp only
  split
  · exact ⟨rfl, rfl, rfl, rfl, rfl⟩
  · refine ⟨rfl, rfl, rfl, rfl, ?_⟩
    show (List.map _ h.live).map Entry.unstamped = _
    rw [List.map_map]
    rfl

theorem lowestStamp_eq_none {l : List Entry} : lowestStamp l = none ↔ l = [] := by
  cases l with
  | nil => exact iff_of_true rfl rfl
  | cons e l =>
    refine iff_of_false (fun h => ?_) nofun
    unfold lowestStamp at h
    split at h
    · exact nomatch h
    · split at h <;> exact nomatch h

theorem lowestStamp_le {l : List Entry} {v : Entry} (h : lowestStamp l = some v) : ∀ w ∈ l, v.useStamp ≤ w.useStamp := by
  induction l generalizing v with
  | nil => exact nomatch h
  | cons e l ih =>
    intro w mem
    unfold lowestStamp at h
    split at h
    · next empty =>
      obtain rfl := Option.some.inj h
      obtain rfl := lowestStamp_eq_none.mp empty
      rw [List.mem_singleton.mp mem]
    · next m lowest =>
      have rest := ih lowest
      split at h
      · next le =>
        obtain rfl := Option.some.inj h
        obtain rfl | mem := List.mem_cons.mp mem
        · exact le_rfl
        · exact le.trans (rest w mem)
      · next gt =>
        obtain rfl := Option.some.inj h
        obtain rfl | mem := List.mem_cons.mp mem
        · exact (not_le.mp gt).le
        · exact rest w mem

/-- The one candidate with the lowest use stamp is the one found. -/
theorem lowestStamp_of_least {l : List Entry} {v : Entry} (mem : v ∈ l)
    (least : ∀ w ∈ l, w ≠ v → v.useStamp < w.useStamp) : lowestStamp l = some v := by
  cases found : lowestStamp l with
  | none => rw [lowestStamp_eq_none.mp found] at mem; exact nomatch mem
  | some m =>
    by_cases same : m = v
    · rw [same]
    · exact absurd (lowestStamp_le found v mem) (not_le.mpr (least m (mem_of_lowestStamp found) same))

/-! ### The verdict (R46, R47) -/

/-- A check that fires leaves a verdict at least as strong as its consequence. -/
theorem strength_reconcileVerdict (remembered : Option Verdict) (mark : Bool) {conflict rise : Bool}
    (fires : conflict = true ∨ rise = true) :
    2 ≤ (reconcileVerdict remembered mark conflict rise).1.strength := by
  unfold reconcileVerdict
  split
  · exact by decide
  · exact le_rfl
  · split
    · exact le_rfl
    · split
      · exact le_rfl
      · next quiet =>
        rw [if_pos (fires.resolve_left quiet)]
        exact le_rfl

/-! ### A settled bay -/

/-- `w` is `s` with the figures of a bay settled in a reconciliation. -/
structure Figures (b : BayId) (s w : State) (entry : Option Serial) (gc : GaugeCase) (v : Verdict × VerdictReason) :
    Prop where
  bay      : w.bay b = { (s.bay b).compared with
    entry := entry, book := gc.book, pending := gc.pending, verdict := v.1, verdictReason := v.2 }
  channels : w.channels = s.channels
  alert    : w.notified .alert = s.notified .alert

theorem figures_settleBay {b : BayId} {s r u : State} (compares : Compares b s r) (bays : u.bays = r.bays)
    (channels : u.channels = r.channels) (port : u.port = r.port) (entry : Option Serial) (gc : GaugeCase)
    (v : Verdict × VerdictReason) : Figures b s (u.settleBay b entry gc v) entry gc v := by
  have same : u.bay b = r.bay b := by simp only [State.bay, bays]
  have alert : u.notified .alert = r.notified .alert := by simp only [State.notified, port]
  refine ⟨?_, ?_, ?_⟩
  · rw [(bay_settleBay u b entry gc v).1, same, compares.bay]
  · rw [← compares.channels, ← channels]
    unfold State.settleBay
    obtain h | h := setVerdict_cases (u.updBay b fun x =>
      { x with entry := entry, book := gc.book, pending := gc.pending }) b v.1 v.2 <;> rw [h] <;> rfl
  · rw [← compares.alert, ← alert]
    unfold State.settleBay
    obtain h | h := setVerdict_cases (u.updBay b fun x =>
      { x with entry := entry, book := gc.book, pending := gc.pending }) b v.1 v.2 <;> rw [h]
    · rfl
    · rw [notified_raise]; exact Bool.or_false _

/-- What a reconciliation concludes of its bay. -/
structure Concludes (b : BayId) (t : State) (entry : Option Serial) (gc : GaugeCase) (v : Verdict × VerdictReason) :
    Prop where
  authenticated : (t.bay b).authenticated = true
  entry         : (t.bay b).entry = entry
  book          : (t.bay b).book = gc.book
  pending       : (t.bay b).pending = gc.pending
  verdict       : (t.bay b).verdict = v.1
  reason        : (t.bay b).verdictReason = v.2

section
variable {b : BayId} {s w : State} {entry : Option Serial} {gc : GaugeCase} {v : Verdict × VerdictReason}
  (figures : Figures b s w entry gc v)
include figures

theorem Figures.undecided : (w.bay b).state.decided = false := by rw [figures.bay]; rfl

theorem Figures.verdict : (w.bay b).verdict = v.1 := by rw [figures.bay]

theorem Figures.small (small : (s.chan (chanOf b)).residue < (s.bay b).markSize) :
    (w.chan (chanOf b)).residue < (w.bay b).markSize := by
  rw [State.chan, figures.channels, figures.bay]
  exact small

theorem Figures.concludes {t : State} (settles : Settles b w t) : Concludes b t entry gc v where
  authenticated := settles.authenticated.trans (by rw [figures.bay]; rfl)
  entry := settles.entry.trans (by rw [figures.bay])
  book := settles.book.trans (by rw [figures.bay])
  pending := settles.pending.trans (by rw [figures.bay])
  verdict := settles.verdict.trans (by rw [figures.bay])
  reason := settles.reason.trans (by rw [figures.bay])

theorem Figures.strong {conflict rise : Bool} (h : conflict = true ∨ rise = true → 2 ≤ v.1.strength)
    (fires : conflict = true ∨ rise = true) : 2 ≤ (w.bay b).verdict.strength := by
  rw [figures.verdict]; exact h fires

theorem Figures.settles (small : (s.chan (chanOf b)).residue < (s.bay b).markSize) {conflict rise : Bool}
    (strong : conflict = true ∨ rise = true → 2 ≤ v.1.strength) (before : State) :
    Settles b w (w.closeCourse b conflict rise before) :=
  settles_closeCourse figures.undecided (figures.small small) (figures.strong strong) before

/-- Between the two checks the bay is undecided and GAUGE_RISE clear. -/
theorem Figures.between {conflict rise : Bool} (strong : conflict = true ∨ rise = true → 2 ≤ v.1.strength)
    (clear : (s.bay b).sense.held = 0#5) :
    Stands b w (w.fireInsertionChecks b conflict false)
      ∧ ((w.fireInsertionChecks b conflict false).bay b).state.decided = false
      ∧ hasKind ((w.fireInsertionChecks b conflict false).bay b).sense.held .gaugeRise = false := by
  have stands := stands_fireInsertionChecks (rise := false) figures.undecided
    fun fires => figures.strong strong (fires.imp_right nofun)
  refine ⟨stands, ?_, ?_⟩
  · rw [stands.field Bay.state fun _ _ _ => rfl]
    exact figures.undecided
  · refine (hasKind_fireWhere w b .flagConflict .gaugeRise conflict).trans ?_
    rw [figures.bay]
    show (hasKind (s.bay b).sense.held .gaugeRise || _) = _
    rw [clear, hasKind_zero]
    rfl

theorem Figures.clear (clear : (s.bay b).sense.held = 0#5) (k : HeldKind) :
    hasKind (w.bay b).sense.held k = false := by
  rw [figures.bay]
  show hasKind (s.bay b).sense.held k = _
  rw [clear, hasKind_zero]

/-- The held flags that the two checks of a reconciliation leave (R128). -/
theorem Figures.held (conflict rise : Bool) (before : State) (k : HeldKind) :
    hasKind ((w.closeCourse b conflict rise before).bay b).sense.held k
      = ((hasKind (s.bay b).sense.held k || decide (k = .flagConflict) && conflict)
        || decide (k = .gaugeRise) && rise) := by
  rw [hasKind_closeCourse, figures.bay]
  rfl

/-- The snapshot that the two checks of a reconciliation leave (R131). -/
theorem Figures.snapshot {conflict rise : Bool} (strong : conflict = true ∨ rise = true → 2 ≤ v.1.strength)
    (clear : (s.bay b).sense.held = 0#5) (empty : (s.bay b).sense.snapshot = none) (before : State) :
    ((w.closeCourse b conflict rise before).bay b).sense.snapshot
      = if conflict || rise then
          some { kind := if conflict then .flagConflict else .gaugeRise, book := gc.book, tagGauge := (s.bay b).tagGauge
                 pending := gc.pending, estimate := none, discrepancy := none }
        else none := by
  obtain ⟨_, un, clear'⟩ := figures.between strong clear
  have none' : (w.bay b).sense.snapshot = none := by rw [figures.bay]; exact empty
  have first := snapshot_fireWhere (on := conflict) figures.undecided (figures.clear clear .flagConflict)
  have second := snapshot_fireWhere (on := rise) un clear'
  rw [sense_closeCourse Sense.snapshot w b conflict rise before (fun _ => rfl) fun _ => rfl]
  refine second.trans ?_
  cases conflict with
  | true =>
    have shown : ((w.fireInsertionChecks b true false).bay b).sense.snapshot
        = some ((w.bay b).snapshotFor .flagConflict) := first.trans (by rw [none']; rfl)
    rw [shown, figures.bay]
    cases rise <;> rfl
  | false =>
    have same : w.fireInsertionChecks b false false = w := rfl
    rw [same, none', figures.bay]
    cases rise <;> rfl

/-- ALERT after the two checks of a reconciliation (R130). -/
theorem Figures.alerted {conflict rise : Bool} (strong : conflict = true ∨ rise = true → 2 ≤ v.1.strength)
    (clear : (s.bay b).sense.held = 0#5) (before : State) :
    (w.closeCourse b conflict rise before).notified .alert
      = (s.notified .alert || conflict && s.alerts b .flagConflict || rise && s.alerts b .gaugeRise) := by
  obtain ⟨stands, un, clear'⟩ := figures.between strong clear
  have selects {u : State} (channels : u.channels = s.channels) (k : HeldKind) : u.alerts b k = s.alerts b k := by
    simp only [State.alerts, State.profileOf, State.chan, channels]
  have first := alert_fireWhere (on := conflict) figures.undecided (figures.clear clear .flagConflict)
  have second := alert_fireWhere (on := rise) un clear'
  rw [figures.alert, selects figures.channels] at first
  rw [selects (stands.channels.trans figures.channels)] at second
  rw [State.closeCourse, notified_alert_endTimed, (walk_endInsertion _ b).notified rfl]
  refine second.trans ?_
  exact congrArg (· || rise && s.alerts b .gaugeRise) first

end

end Sys2Proof.Machine
end

section
/-! SUPPORT. What each course of a reconciliation leaves. -/

namespace Sys2Proof.Machine

/-! ### The entry of the serial, not installed (R43, R46, R48) -/

/-- The table with a cartridge's entry taken up by a bay. -/
def State.rejoin (s : State) (b : BayId) (id : Identity) (book : Nat) (verdict : Verdict) (seen : SeenSet) : State :=
  let s := s.updHist History.stepStamp
  let stamp := s.history.useCounter
  (s.updEntry id.serial fun e =>
    { e with inkType := id.inkType, book := book, owed := 0, verdict := verdict, seen := e.seen ||| seen
             installedBay := some b, lastBay := b, useStamp := stamp }).makeDue id.serial

theorem rejoin_beside (s : State) (b : BayId) (id : Identity) (book : Nat) (verdict : Verdict) (seen : SeenSet) :
    (s.rejoin b id book verdict seen).bays = s.bays ∧ (s.rejoin b id book verdict seen).channels = s.channels
      ∧ (s.rejoin b id book verdict seen).port = s.port :=
  ⟨makeDue_bays _ _, makeDue_channels _ _, makeDue_port _ _⟩

theorem entryOf_rejoin {s : State} {id : Identity} {e : Entry} (found : s.entryOf id.serial = some e) (b : BayId)
    (book : Nat) (verdict : Verdict) (seen : SeenSet) :
    ∃ x, (s.rejoin b id book verdict seen).entryOf id.serial = some x
      ∧ x.named = (id.serial, id.inkType, 0, some b, b) := by
  obtain ⟨_, _, _, _, live⟩ := stepStamp_rest s.history
  obtain ⟨y, stepped, _⟩ := entryOf_of_map (s := s) (t := s.updHist History.stepStamp)
    (g := Entry.unstamped) (key := Entry.serial)
    (fun _ => rfl) live found
  obtain ⟨_, serial⟩ := mem_of_entryOf stepped
  have taken := entryOf_updEntry (s.updHist History.stepStamp) id.serial id.serial (fun e =>
    { e with inkType := id.inkType, book := book, owed := 0, verdict := verdict, seen := e.seen ||| seen
             installedBay := some b, lastBay := b
             useStamp := (s.updHist History.stepStamp).history.useCounter }) fun _ => rfl
  rw [stepped, Option.map_some, if_pos serial] at taken
  obtain ⟨x, found', named⟩ := entryOf_of_map (g := Entry.named) (key := Prod.fst) (fun _ => rfl)
    (live_makeDue Entry.named (fun _ => rfl) _ id.serial) taken
  refine ⟨x, found', named.trans ?_⟩
  rw [← serial]
  rfl

/-- The gauge of a bay against an entry (Table 3-2). -/
def State.gaugeAgainst (s : State) (b : BayId) (h : Entry) : GaugeCase := gaugeCase (s.bay b).tagGauge h.book h.owed

/-- The verdict of a bay whose serial has an entry. -/
def State.verdictAgainst (s : State) (b : BayId) (h : Entry) : Verdict × VerdictReason :=
  reconcileVerdict (some h.verdict) (s.bay b).tagRefillMark (s.bay b).flagConflict (s.gaugeAgainst b h).rise

/-- The verdict of a bay whose serial has no entry, with its reason. -/
def State.verdictAlone (s : State) (b : BayId) : Verdict × VerdictReason :=
  reconcileVerdict none (s.bay b).tagRefillMark (s.bay b).flagConflict false

/-- The entry made for the cartridge of a bay (R44, R48). -/
def State.freshEntry (s : State) (b : BayId) (id : Identity) (stamp : Nat) (waits : Bool) : Entry where
  serial := id.serial
  inkType := id.inkType
  book := (s.bay b).tagGauge
  owed := 0
  verdict := (s.verdictAlone b).1
  seen := insertionSeen (s.bay b).tagDepleted (s.bay b).flagConflict false
  installedBay := some b
  lastBay := b
  useStamp := stamp
  journalLocation := none
  journalSeq := 0
  journalDue := waits

/-- An entry joins a table `g` that has a place for it, the counter stepped. -/
def State.enter (s : State) (g : History) (e : Entry) : State :=
  ({ s with history := { g.stepStamp with live := g.stepStamp.live ++ [e] } } : State).makeDue e.serial

theorem enter_beside (s : State) (g : History) (e : Entry) :
    (s.enter g e).bays = s.bays ∧ (s.enter g e).channels = s.channels ∧ (s.enter g e).port = s.port :=
  ⟨makeDue_bays _ _, makeDue_channels _ _, makeDue_port _ _⟩

theorem enter_table (s : State) (g : History) (e : Entry) :
    (s.enter g e).history.live.map Entry.named = g.live.map Entry.named ++ [e.named]
      ∧ (s.enter g e).history.tombs = g.tombs ∧ (s.enter g e).history.fifo = g.fifo
      ∧ (s.enter g e).history.evictions = g.evictions := by
  obtain ⟨tombs, fifo, evictions, _, live⟩ := stepStamp_rest g
  obtain ⟨rest, names⟩ := keepsTable_makeDue
    { s with history := { g.stepStamp with live := g.stepStamp.live ++ [e] } } e.serial
  obtain ⟨tombs', _, fifo', evictions', _⟩ := rest_eq_iff.mp rest
  refine ⟨names.trans ?_, tombs'.trans tombs, fifo'.trans fifo, evictions'.trans evictions⟩
  show (g.stepStamp.live ++ [e]).map Entry.named = _
  rw [List.map_append, map_live_congr (f := Entry.named) live fun _ => rfl, List.map_singleton]

section
variable {b : BayId} {s r : State} {id : Identity} (compares : Compares b s r)
include compares

theorem Compares.entryOf (serial : Serial) : r.entryOf serial = s.entryOf serial := by
  simp only [State.entryOf, compares.history]

theorem Compares.weigh_existing {h : Entry} (found : s.entryOf id.serial = some h) (away : h.installedBay = none)
    (before : State) :
    ∃ w, (r.weigh b id).endTimed before = w.closeCourse b (s.bay b).flagConflict (s.gaugeAgainst b h).rise before
      ∧ Figures b s w (some id.serial) (s.gaugeAgainst b h) (s.verdictAgainst b h)
      ∧ ∃ x, w.entryOf id.serial = some x ∧ x.named = (id.serial, id.inkType, 0, some b, b) := by
  have found' := (compares.entryOf id.serial).trans found
  have course : r.weigh b id = r.reconcileExisting b id h := by
    simp only [State.weigh, found', away, Option.isSome_none, Bool.false_eq_true, if_false]
  obtain ⟨bays, channels, port⟩ := rejoin_beside r b id (s.gaugeAgainst b h).book (s.verdictAgainst b h).1
    (insertionSeen (s.bay b).tagDepleted (s.bay b).flagConflict (s.gaugeAgainst b h).rise)
  have joined := entryOf_rejoin found' b (s.gaugeAgainst b h).book (s.verdictAgainst b h).1
    (insertionSeen (s.bay b).tagDepleted (s.bay b).flagConflict (s.gaugeAgainst b h).rise)
  refine ⟨_, ?_, figures_settleBay compares bays channels port _ _ _, ?_⟩
  · rw [course, State.reconcileExisting, compares.bay]
    rfl
  · simp only [State.entryOf, settleBay_history]
    exact joined

/-! ### A serial with no entry (R44, R45, R47) -/

theorem Compares.weigh_new {g : History} {waits : Bool} (absent : s.entryOf id.serial = none)
    (taken : s.history.takePlace id.serial = some (g, waits)) (before : State) :
    ∃ w, (r.weigh b id).endTimed before = w.closeCourse b (s.bay b).flagConflict false before
      ∧ Figures b s w (some id.serial) ⟨(s.bay b).tagGauge, 0, false⟩ (s.verdictAlone b)
      ∧ w.history.live.map Entry.named = g.live.map Entry.named ++ [(id.serial, id.inkType, 0, some b, b)]
      ∧ w.history.tombs = g.tombs ∧ w.history.fifo = g.fifo ∧ w.history.evictions = g.evictions := by
  have absent' := (compares.entryOf id.serial).trans absent
  have taken' : r.history.takePlace id.serial = some (g, waits) := by rw [compares.history]; exact taken
  have course : r.weigh b id = r.reconcileNew b id g waits := by
    simp only [State.weigh, absent', taken']
  have table : (r.weigh b id).endTimed before = State.closeCourse
      ((r.enter g (s.freshEntry b id g.stepStamp.useCounter waits)).settleBay b (some id.serial)
        ⟨(s.bay b).tagGauge, 0, false⟩ (s.verdictAlone b)) b (s.bay b).flagConflict false before := by
    rw [course, State.reconcileNew, compares.bay]
    rfl
  obtain ⟨bays, channels, port⟩ := enter_beside r g (s.freshEntry b id g.stepStamp.useCounter waits)
  refine ⟨_, table, figures_settleBay compares bays channels port _ _ _, ?_⟩
  rw [settleBay_history]
  exact enter_table r g _

theorem Compares.weigh_untracked (absent : s.entryOf id.serial = none)
    (full : s.history.takePlace id.serial = none) (before : State) :
    ∃ w, (r.weigh b id).endTimed before = w.closeCourse b (s.bay b).flagConflict false before
      ∧ Figures b s w none ⟨(s.bay b).tagGauge, 0, false⟩ (s.verdictAlone b)
      ∧ w.history = { s.history with untracked := satAdd top16 s.history.untracked 1 } := by
  have absent' := (compares.entryOf id.serial).trans absent
  have full' : r.history.takePlace id.serial = none := by rw [compares.history]; exact full
  have course : r.weigh b id = r.reconcileUntracked b := by
    simp only [State.weigh, absent', full']
  refine ⟨_, ?_, figures_settleBay (u := r.updHist fun h => { h with untracked := satAdd top16 h.untracked 1 })
    compares rfl rfl rfl _ _ _, ?_⟩
  · rw [course, State.reconcileUntracked, compares.bay]
    rfl
  · rw [settleBay_history, ← compares.history]
    rfl

/-! ### A serial seated elsewhere (R43) -/

theorem Compares.weigh_duplicate {h : Entry} (found : s.entryOf id.serial = some h) (seated : h.installedBay ≠ none)
    (before : State) :
    ∃ w, (r.weigh b id).endTimed before = (w.endInsertion b).endTimed before
      ∧ Figures b s w none ⟨(s.bay b).tagGauge, 0, false⟩ (.foreign, .history) ∧ w.history = s.history := by
  have found' := (compares.entryOf id.serial).trans found
  have course : r.weigh b id = r.reconcileDuplicate b := by
    simp only [State.weigh, found', if_pos (Option.isSome_iff_ne_none.mpr seated)]
  refine ⟨_, ?_, figures_settleBay compares rfl rfl rfl _ _ _, ?_⟩
  · rw [course, State.reconcileDuplicate, compares.bay]
    rfl
  · rw [settleBay_history, compares.history]

end

end Sys2Proof.Machine
end

section
/-! O54: the reconciliation of an inserted cartridge. -/

namespace Sys2Proof.Machine

/-! ### The place for a serial (R44, R45) -/

section
variable {h : History} {serial : Serial}

theorem takePlace_tomb (held : serial ∈ h.tombs) :
    h.takePlace serial = some ({ h.turnItem serial false with tombs := h.tombs.erase serial }, true) :=
  if_pos (List.contains_iff_mem.mpr held)

theorem takePlace_free (gone : serial ∉ h.tombs) (room : h.live.length + h.tombs.length < 256) :
    h.takePlace serial = some (h, false) :=
  (if_neg (mt List.contains_iff_mem.mp gone)).trans (if_pos room)

theorem takePlace_evicts {v : Entry} (gone : serial ∉ h.tombs) (full : 256 ≤ h.live.length + h.tombs.length)
    (lowest : lowestStamp (h.live.filter Entry.evictable) = some v) :
    h.takePlace serial = some ({ h with
      live := h.live.filter fun e => e.serial != v.serial, evictions := satAdd top16 h.evictions 1 }, false) := by
  refine (if_neg (mt List.contains_iff_mem.mp gone)).trans ((if_neg (not_lt.mpr full)).trans ?_)
  rw [lowest]

theorem takePlace_fails (gone : serial ∉ h.tombs) (full : 256 ≤ h.live.length + h.tombs.length)
    (firm : ∀ v ∈ h.live, v.evictable = false) : h.takePlace serial = none := by
  have candidates : h.live.filter Entry.evictable = [] :=
    List.filter_eq_nil_iff.mpr fun v mem => by rw [firm v mem]; exact nofun
  refine (if_neg (mt List.contains_iff_mem.mp gone)).trans ((if_neg (not_lt.mpr full)).trans ?_)
  rw [candidates]
  rfl

end

theorem map_named_serial (l : List Entry) : (l.map Entry.named).map Prod.fst = l.map (·.serial) := List.map_map

/-- The serials after the serial of an entry has left. -/
theorem serials_filter (l : List Entry) (serial : Serial) :
    (l.filter fun e => e.serial != serial).map (·.serial)
      = (l.map (·.serial)).filter fun x => decide (x ≠ serial) := by
  rw [List.filter_map]
  exact congrArg (List.map _) (List.filter_congr fun e _ =>
    Bool.eq_iff_iff.mpr (bne_iff_ne.trans decide_eq_true_iff.symm))

/-- The last of the live entries, the only one with its serial. -/
theorem entryMade_of_last {t : State} {b : BayId} {id : Identity}
    {l : List (Serial × Nat × Nat × Option BayId × BayId)}
    (named : t.history.live.map Entry.named = l ++ [(id.serial, id.inkType, 0, some b, b)])
    (absent : id.serial ∉ l.map Prod.fst) : t.EntryMade b id := by
  have find : (t.history.live.map Entry.named).find? (fun n => n.1 == id.serial)
      = (t.entryOf id.serial).map Entry.named := List.find?_map ..
  have before : l.find? (fun n => n.1 == id.serial) = none := List.find?_eq_none.mpr fun n mem same =>
    absent (List.mem_map.mpr ⟨n, mem, beq_iff_eq.mp same⟩)
  rw [named, List.find?_append, before, Option.none_or, List.find?_singleton, if_pos (beq_self_eq_true _)] at find
  obtain ⟨x, found, made⟩ := Option.map_eq_some_iff.mp find.symm
  obtain ⟨_, ink, owed, bay, last⟩ : _ ∧ _ ∧ _ ∧ _ ∧ _ := by simpa [Entry.named] using made
  exact ⟨x, found, bay, last, owed, ink⟩

/-! ### What is concluded -/

section
variable {b : BayId} {s r : State} {id : Identity}

theorem Concludes.booksGauge {t : State} {entry : Option Serial} {v : Verdict × VerdictReason}
    (h : Concludes b t entry ⟨(s.bay b).tagGauge, 0, false⟩ v) : s.BooksGauge t b entry :=
  ⟨h.authenticated, h.entry, h.book, h.pending⟩

theorem Concludes.judgedByTag {t : State} {entry : Option Serial} {gc : GaugeCase}
    (h : Concludes b t entry gc (s.verdictAlone b)) : s.JudgedByTag t b := by
  refine ⟨fun mark => ?_, fun mark quiet => ?_⟩
  · rw [h.verdict, h.reason, State.verdictAlone, mark]
    exact ⟨rfl, rfl⟩
  · rw [h.verdict, State.verdictAlone, mark, quiet]
    rfl

/-- Of an entry what a duplicate of its cartridge leaves. -/
def Entry.stood (e : Entry) : Serial × Option BayId × BayId × Nat × Verdict × SeenSet :=
  (e.serial, e.installedBay, e.lastBay, e.useStamp, e.verdict, e.seen)

/-- A cartridge's entry made in a table `g` that has a place for it. -/
structure Enters (b : BayId) (id : Identity) (g : History) (s t : State) : Prop where
  concludes : Concludes b t (some id.serial) ⟨(s.bay b).tagGauge, 0, false⟩ (s.verdictAlone b)
  made      : t.EntryMade b id
  evictions : t.history.evictions = g.evictions
  serials   : t.history.live.map (·.serial) = g.live.map (·.serial) ++ [id.serial]
  held      : t.store.mode ≠ .degraded → t.history.tombs = g.tombs ∧ g.fifo <+: t.history.fifo

/-- A cartridge's entry made at the place of another's: that one is gone. -/
theorem Enters.evicted {t : State} {v : Entry} {n : Nat}
    (enters : Enters b id { s.history with
      live := s.history.live.filter fun e => e.serial != v.serial, evictions := n } s t)
    (absent : s.entryOf id.serial = none) (live : v ∈ s.history.live) :
    t.entryOf v.serial = none ∧ t.history.live.map (·.serial)
      = (s.history.live.map (·.serial)).filter (fun x => decide (x ≠ v.serial)) ++ [id.serial] := by
  have serials := enters.serials
  rw [serials_filter] at serials
  refine ⟨?_, serials⟩
  rw [entryOf_none_iff, serials, List.mem_append, List.mem_singleton, List.mem_filter]
  rintro (⟨_, other⟩ | same)
  · exact of_decide_eq_true other rfl
  · exact (entryOf_none_iff s _).mp absent (same ▸ List.mem_map_of_mem live)

/-- The cartridge of an entry taken up, with what the checks set of flags, snapshot and ALERT. -/
structure Rejoins (b : BayId) (id : Identity) (h : Entry) (s t : State) : Prop where
  concludes : Concludes b t (some id.serial) (s.gaugeAgainst b h) (s.verdictAgainst b h)
  made      : t.EntryMade b id
  held      : ∀ k, hasKind (t.bay b).sense.held k
    = ((hasKind (s.bay b).sense.held k || decide (k = .flagConflict) && (s.bay b).flagConflict)
      || decide (k = .gaugeRise) && (s.gaugeAgainst b h).rise)
  snapshot  : (s.bay b).sense.held = 0#5 → (s.bay b).sense.snapshot = none →
    (t.bay b).sense.snapshot = if (s.bay b).flagConflict || (s.gaugeAgainst b h).rise then
        some { kind := if (s.bay b).flagConflict then .flagConflict else .gaugeRise, book := (t.bay b).book
               tagGauge := (s.bay b).tagGauge, pending := (t.bay b).pending, estimate := none, discrepancy := none }
      else none
  alert     : (s.bay b).sense.held = 0#5 → t.notified .alert = (s.notified .alert
    || (s.bay b).flagConflict && s.alerts b .flagConflict || (s.gaugeAgainst b h).rise && s.alerts b .gaugeRise)

variable (compares : Compares b s r) (small : (s.chan (chanOf b)).residue < (s.bay b).markSize)
include compares small

theorem enters_of_takePlace {g : History} {waits : Bool} (sound : s.history.Sound) (absent : s.entryOf id.serial = none)
    (taken : s.history.takePlace id.serial = some (g, waits)) (before : State) :
    Enters b id g s ((r.weigh b id).endTimed before) := by
  obtain ⟨w, course, figures, named, tombs, fifo, evictions⟩ := compares.weigh_new absent taken before
  have settles := figures.settles small
    (fun fires => strength_reconcileVerdict none (s.bay b).tagRefillMark fires) before
  rw [course]
  have names := settles.named.trans named
  have placed := placed_of_takePlace sound ((entryOf_none_iff s _).mp absent) taken
  obtain ⟨_, evictions', _⟩ := settles.counts
  have held := settles.held
  rw [tombs, fifo] at held
  refine ⟨figures.concludes settles, entryMade_of_last names ?_, evictions'.trans evictions, ?_, held⟩
  · rw [map_named_serial]; exact placed.absent
  · rw [← map_named_serial, names, List.map_append, map_named_serial]
    rfl

theorem untracked_of_takePlace (absent : s.entryOf id.serial = none) (full : s.history.takePlace id.serial = none)
    (before : State) :
    Concludes b ((r.weigh b id).endTimed before) none ⟨(s.bay b).tagGauge, 0, false⟩ (s.verdictAlone b)
      ∧ ((r.weigh b id).endTimed before).history.untracked = min 65535 (s.history.untracked + 1)
      ∧ ((r.weigh b id).endTimed before).history.useCounter = s.history.useCounter
      ∧ ((r.weigh b id).endTimed before).history.live.map (·.serial) = s.history.live.map (·.serial) := by
  obtain ⟨w, course, figures, history⟩ := compares.weigh_untracked absent full before
  have settles := figures.settles small
    (fun fires => strength_reconcileVerdict none (s.bay b).tagRefillMark fires) before
  rw [course]
  obtain ⟨counter, _, untracked⟩ := settles.counts
  refine ⟨figures.concludes settles, ?_, ?_, ?_⟩
  · rw [untracked, history]; rfl
  · rw [counter, history]
  · rw [← map_named_serial, settles.named, map_named_serial, history]

/-- A serial seated elsewhere: the bay is FOREIGN, and the entry stands (R43). -/
theorem duplicate_concludes {h : Entry} (found : s.entryOf id.serial = some h) (seated : h.installedBay ≠ none)
    (before : State) :
    Concludes b ((r.weigh b id).endTimed before) none ⟨(s.bay b).tagGauge, 0, false⟩ (.foreign, .history)
      ∧ (((r.weigh b id).endTimed before).bay b).state.decided = true
      ∧ ((r.weigh b id).endTimed before).history.useCounter = s.history.useCounter
      ∧ ∃ x, ((r.weigh b id).endTimed before).entryOf id.serial = some x ∧ x.installedBay = h.installedBay
        ∧ x.lastBay = h.lastBay ∧ x.useStamp = h.useStamp ∧ x.verdict = h.verdict ∧ x.seen = h.seen := by
  obtain ⟨w, course, figures, history⟩ := compares.weigh_duplicate found seated before
  have settles := settles_endInsertion (figures.small small) before
  have decided := endInsertion_decided w b
  have walk := walk_endInsertion w b
  have kept := kept_endTimed (w.endInsertion b) before
  rw [course]
  generalize w.endInsertion b = u at *
  generalize u.endTimed before = t at *
  obtain ⟨_, unfed⟩ := walk.table
  have stood := (map_live_congr (f := Entry.stood) kept.history fun _ => rfl).trans
    (map_live_congr unfed fun _ => rfl)
  rw [history] at stood
  obtain ⟨x, found', same⟩ := entryOf_of_map (key := Prod.fst) (fun _ => rfl) stood found
  obtain ⟨_, bay, last, stamp, verdict, seen⟩ : _ ∧ _ ∧ _ ∧ _ ∧ _ ∧ _ := by simpa [Entry.stood] using same
  obtain ⟨counter, _⟩ := settles.counts
  exact ⟨figures.concludes settles, (congrArg BayState.decided (kept.bayField Bay.state b fun _ => rfl)).trans decided,
    counter.trans (congrArg History.useCounter history), x, found', bay, last, stamp, verdict, seen⟩

/-- An entry that is not installed: the gauge against its book, the checks, and the entry names the bay (R46, R48). -/
theorem rejoins_of_entryOf {h : Entry} (found : s.entryOf id.serial = some h) (away : h.installedBay = none)
    (before : State) : Rejoins b id h s ((r.weigh b id).endTimed before) := by
  obtain ⟨w, course, figures, y, joined, named⟩ := compares.weigh_existing found away before
  have strong := fun fires => strength_reconcileVerdict (some h.verdict) (s.bay b).tagRefillMark
    (conflict := (s.bay b).flagConflict) (rise := (s.gaugeAgainst b h).rise) fires
  have settles := figures.settles small strong before
  rw [course]
  obtain ⟨x, found', same⟩ := entryOf_of_map (key := Prod.fst) (fun _ => rfl) settles.named joined
  obtain ⟨_, ink, owed, bay, last⟩ : _ ∧ _ ∧ _ ∧ _ ∧ _ := by simpa [Entry.named] using same.trans named
  have concludes := figures.concludes settles
  refine ⟨concludes, ⟨x, found', bay, last, owed, ink⟩, figures.held _ _ before,
    fun clear empty => ?_, fun clear => figures.alerted strong clear before⟩
  rw [figures.snapshot strong clear empty before, concludes.book, concludes.pending]

end

/-! ### Against the entry (R46, R47, R128) -/

section
variable {b : BayId} {s t : State} {id : Identity} {h : Entry}

theorem gaugeAgainst_below (low : (s.bay b).tagGauge < h.book) :
    s.gaugeAgainst b h = ⟨(s.bay b).tagGauge, 0, false⟩ := if_pos low

theorem gaugeAgainst_within (least : h.book ≤ (s.bay b).tagGauge) (most : (s.bay b).tagGauge ≤ h.book + h.owed) :
    s.gaugeAgainst b h = ⟨h.book, (s.bay b).tagGauge - h.book, false⟩ :=
  (if_neg (not_lt.mpr least)).trans (if_pos most)

theorem gaugeAgainst_above (high : h.book + h.owed < (s.bay b).tagGauge) :
    s.gaugeAgainst b h = ⟨(s.bay b).tagGauge, 0, true⟩ :=
  (if_neg (by omega)).trans (if_neg (not_le.mpr high))

theorem gaugeAgainst_rise : (s.gaugeAgainst b h).rise = true ↔ h.book + h.owed < (s.bay b).tagGauge := by
  refine ⟨fun rise => ?_, fun high => by rw [gaugeAgainst_above high]⟩
  by_contra low
  by_cases least : h.book ≤ (s.bay b).tagGauge
  · rw [gaugeAgainst_within least (not_lt.mp low)] at rise
    exact nomatch rise
  · rw [gaugeAgainst_below (not_le.mp least)] at rise
    exact nomatch rise

variable (joins : Rejoins b id h s t)
include joins

theorem Rejoins.figures {gc : GaugeCase} (case : s.gaugeAgainst b h = gc) :
    (t.bay b).book = gc.book ∧ (t.bay b).pending = gc.pending := case ▸ ⟨joins.concludes.book, joins.concludes.pending⟩

theorem Rejoins.judged {v : Verdict × VerdictReason} (case : s.verdictAgainst b h = v) :
    (t.bay b).verdict = v.1 ∧ (t.bay b).verdictReason = v.2 := case ▸ ⟨joins.concludes.verdict, joins.concludes.reason⟩

theorem Rejoins.rises (high : h.book + h.owed < (s.bay b).tagGauge) :
    (h.verdict = .genuine → (t.bay b).verdict = .refilled)
      ∧ hasKind (t.bay b).sense.held .gaugeRise = true := by
  have rise := gaugeAgainst_rise.mpr high
  refine ⟨fun genuine => ?_, ?_⟩
  · rw [joins.concludes.verdict, State.verdictAgainst, genuine, rise]
    unfold reconcileVerdict
    cases (s.bay b).tagRefillMark <;> cases (s.bay b).flagConflict <;> rfl
  · rw [joins.held, rise]
    exact Bool.or_true _

theorem Rejoins.checks {conflict rise : Bool} (clear : (s.bay b).sense.held = 0#5)
    (empty : (s.bay b).sense.snapshot = none)
    (conflicts : conflict = true ↔ (s.bay b).tagDepleted = true ∧ 0 < (s.bay b).tagGauge)
    (rises : rise = true ↔ h.book + h.owed < (s.bay b).tagGauge) :
    (∀ k, hasKind (t.bay b).sense.held k
        = (decide (k = .flagConflict) && conflict || decide (k = .gaugeRise) && rise))
      ∧ (t.bay b).sense.snapshot = (if conflict || rise then
          some { kind := if conflict then .flagConflict else .gaugeRise, book := (t.bay b).book
                 tagGauge := (s.bay b).tagGauge, pending := (t.bay b).pending, estimate := none
                 discrepancy := none }
        else none)
      ∧ t.notified .alert = (s.notified .alert || conflict && s.alerts b .flagConflict
          || rise && s.alerts b .gaugeRise) := by
  obtain rfl : conflict = (s.bay b).flagConflict := Bool.eq_iff_iff.mpr (conflicts.trans (by simp [Bay.flagConflict]))
  obtain rfl : rise = (s.gaugeAgainst b h).rise := Bool.eq_iff_iff.mpr (rises.trans gaugeAgainst_rise.symm)
  refine ⟨fun k => ?_, joins.snapshot clear empty, joins.alert clear⟩
  rw [joins.held, clear, hasKind_zero, Bool.false_or]

theorem Rejoins.takenUp :
    ∃ x, t.entryOf id.serial = some x ∧ x.installedBay = some b ∧ x.lastBay = b ∧ x.owed = 0 := by
  obtain ⟨x, found, bay, last, owed, _⟩ := joins.made
  exact ⟨x, found, bay, last, owed⟩

end

/-- Settles O54: the bay is compared, and each of the four courses goes from the settled bay over its checks to the end
of the insertion and of the event. -/
theorem reconciliationFollowsTheGauge : Obligations.ReconciliationFollowsTheGauge := by
  intro e time rec b id s about
  obtain ⟨r, compares, run⟩ := about.compares time
  refine ⟨_, run, fun h found away => ?existing, fun h found seated => ?duplicate, fun absent => ⟨?judged, ?tomb, ?free,
    ?full⟩⟩
  case existing =>
    have joins := rejoins_of_entryOf compares about.residue found away s
    exact ⟨joins.concludes.authenticated, joins.concludes.entry, fun low => joins.figures (gaugeAgainst_below low),
      fun least most => joins.figures (gaugeAgainst_within least most), fun high =>
        ⟨(joins.figures (gaugeAgainst_above high)).1, (joins.figures (gaugeAgainst_above high)).2,
          joins.rises high⟩,
      fun foreign => joins.judged (v := (.foreign, .history)) (by rw [State.verdictAgainst, foreign]; rfl),
      fun refilled => joins.judged (v := (.refilled, .history)) (by rw [State.verdictAgainst, refilled]; rfl),
      fun genuine mark => joins.judged (v := (.refilled, .tagMark)) (by rw [State.verdictAgainst, genuine, mark]; rfl),
      fun _ _ clear empty conflicts rises => joins.checks clear empty conflicts rises, joins.takenUp⟩
  case duplicate =>
    obtain ⟨concludes, decided, counter, entry⟩ := duplicate_concludes compares about.residue found seated s
    exact ⟨concludes.booksGauge, concludes.verdict, concludes.reason, decided, counter, entry⟩
  all_goals
    have enters {g : History} {waits : Bool} (taken : s.history.takePlace id.serial = some (g, waits)) :=
      enters_of_takePlace compares about.residue about.history absent taken s
    have untracked (fails : s.history.takePlace id.serial = none) :=
      untracked_of_takePlace compares about.residue absent fails s
  case judged =>
    cases taken : s.history.takePlace id.serial with
    | none => exact (untracked taken).1.judgedByTag
    | some place => exact (enters (g := place.1) (waits := place.2) taken).concludes.judgedByTag
  case tomb =>
    intro held
    have enters := enters (takePlace_tomb held)
    exact ⟨enters.concludes.booksGauge, enters.made, enters.evictions, enters.serials, enters.held⟩
  case free =>
    intro gone room
    have enters := enters (takePlace_free gone room)
    exact ⟨enters.concludes.booksGauge, enters.made, enters.evictions, enters.serials⟩
  case full =>
    refine fun gone full => ⟨fun v live evictable least => ?_, fun firm => ?_⟩
    · have lowest := lowestStamp_of_least (List.mem_filter.mpr ⟨live, evictable⟩) fun w mem =>
        least w (List.mem_filter.mp mem).1 (List.mem_filter.mp mem).2
      have enters := enters (takePlace_evicts gone full lowest)
      exact ⟨enters.concludes.booksGauge, enters.made, enters.evictions, enters.evicted absent live⟩
    · obtain ⟨concludes, counts⟩ := untracked (takePlace_fails gone full firm)
      exact ⟨concludes.booksGauge, counts⟩

end Sys2Proof.Machine
end

section
/-! SUPPORT. The volume figures of a channel through charging and feed selection: totals stand, a figure once cut short
stays marked so, and what is conserved stays conserved (R70 to R73, R79). -/

namespace Sys2Proof.Machine

/-! ### The relation -/

/-- From `x` to `y` a volume has at most moved between charged, residue and unbooked. -/
structure Channel.Reckons (x y : Channel) : Prop where
  total     : y.total = x.total
  saturated : x.saturated = true → y.saturated = true
  conserved : x.Conserved → y.Conserved

theorem Channel.Reckons.refl (x : Channel) : x.Reckons x := ⟨rfl, id, id⟩

theorem Channel.Reckons.trans {x y z : Channel} (h : x.Reckons y) (k : y.Reckons z) : x.Reckons z :=
  ⟨k.total.trans h.total, k.saturated ∘ h.saturated, k.conserved ∘ h.conserved⟩

/-- From `s` to `t` volumes have at most moved between the figures of each channel. -/
def Reckons (s t : State) : Prop := ∀ c, (s.chan c).Reckons (t.chan c)

theorem Reckons.trans {s t u : State} (h : Reckons s t) (k : Reckons t u) : Reckons s u := fun c => (h c).trans (k c)

theorem reckons_beside {s t : State} (h : t.channels = s.channels) : Reckons s t := fun c => by
  rw [State.chan, State.chan, h]
  exact .refl _

theorem Reckons.refl (s : State) : Reckons s s := reckons_beside rfl

theorem reckons_updChan (s : State) (c : ChanId) (f : Channel → Channel) (h : (s.chan c).Reckons (f (s.chan c))) :
    Reckons s (s.updChan c f) := fun x => by
  by_cases here : x = c
  · rw [here, State.chan_updChan_self]
    exact h
  · rw [State.chan_updChan_other s c x f here]
    exact .refl _

/-! ### Charging (R71, R72) -/

/-- Marks taken out of the residue: those the book takes are charged, the others set aside as unbooked. -/
theorem Channel.reckons_charge (x : Channel) {apply due m : Nat} (taken : apply ≤ due) (held : due * m ≤ x.residue) :
    x.Reckons ({ x with residue := x.residue - due * m, charged := satAdd top64 x.charged (apply * m) }.addUnbooked
      ((due - apply) * m)) := by
  have parts : due * m = apply * m + (due - apply) * m := by rw [← Nat.add_mul, Nat.add_sub_cancel' taken]
  refine ⟨rfl, fun cut => Bool.or_eq_true_iff.mpr (.inl cut), fun ⟨range, sum⟩ => ⟨range, fun whole => ?_⟩⟩
  obtain ⟨before, short⟩ := Bool.or_eq_false_iff.mp whole
  have total := sum before
  have below := of_decide_eq_false short
  simp only [Channel.addUnbooked, satAdd] at below ⊢
  omega

theorem reckons_convert (s : State) (c : ChanId) (b : BayId) : Reckons s (s.convert c b) := by
  have channels : (s.convert c b).channels = (s.chargeMarks c b).channels :=
    convert_keeps s c b (·.channels) (fun _ => followBook_channels ..) (fun _ => raiseBurnWant_channels ..) fun _ =>
      levelCrossing_channels ..
  refine .trans ?_ (reckons_beside channels)
  exact reckons_updChan s c _ ((s.chan c).reckons_charge (min_le_left ..) (Nat.div_mul_le_self ..))

/-! ### Opening, switching, closing (chapter 6) -/

theorem reckons_moveBay (s : State) (b : BayId) (st : BayState) : Reckons s (s.moveBay b st) :=
  reckons_beside (moveBay_keeps s b st (·.channels) (fun _ _ => rfl) fun _ _ => rfl)

theorem reckons_turnTo (s : State) (b : BayId) (cause : FeedCause) : Reckons s (s.turnTo (chanOf b) b cause) := by
  have left : Reckons s (s.leaveFeed b) :=
    reckons_beside (leaveFeed_keeps s b (·.channels) (fun _ _ => rfl) fun _ _ => rfl)
  rw [turnTo_eq]
  exact (left.trans (reckons_moveBay _ b _)).trans (reckons_updChan _ _ _ ⟨rfl, id, id⟩)

theorem reckons_takeUp (s : State) (c : ChanId) (old : Option BayId) (b : BayId) : Reckons s (s.takeUp c old b) := by
  refine (reckons_convert s c b).trans (.trans ?_ (reckons_updChan _ c _ ⟨rfl, id, id⟩))
  cases old <;> exact reckons_beside rfl

theorem reckons_closeChannel (s : State) (c : ChanId) (cause : FeedCause) : Reckons s (s.closeChannel c cause) :=
  reckons_updChan s c _ ⟨rfl, id, id⟩

theorem reckons_afterMarks (s : State) (c : ChanId) (b : BayId) : Reckons s (s.afterMarks c b).1 := by
  have drained : Reckons s (s.drain b) := reckons_moveBay (s.updBay b _) b .drained
  unfold State.afterMarks
  split
  · simp only
    split <;> exact drained
  · split <;> exact .refl s

theorem reckons_beginFeeding (n : Nat) (s : State) (b : BayId) (cause : FeedCause) :
    Reckons s (s.beginFeeding n (chanOf b) b cause) := by
  have fed (s : State) (b : BayId) (cause : FeedCause) : Reckons s (s.fedTo b cause) :=
    (reckons_turnTo s b cause).trans (reckons_takeUp _ _ _ b)
  induction n generalizing s b cause with
  | zero => rw [beginFeeding_eq]; split <;> exact fed s b cause
  | succ n ih =>
    have marks := (fed s b cause).trans (reckons_afterMarks _ (chanOf b) b)
    rw [beginFeeding_eq]
    split
    · exact fed s b cause
    · simp only
      split
      · next after => rw [after] at marks; exact marks
      · next after =>
        rw [after] at marks
        exact marks.trans (chanOf_twinOf b ▸ ih _ (twinOf b) _)
      · next after => rw [after] at marks; exact marks.trans (reckons_closeChannel _ _ _)

theorem reckons_feedFrom (s : State) {c : ChanId} {b : BayId} (own : chanOf b = c) (cause : FeedCause) :
    Reckons s (s.feedFrom c b cause) := own ▸ reckons_beginFeeding feedBound s b cause

theorem reckons_feedLost (s : State) (b : BayId) (cause : FeedCause) : Reckons s (s.feedLost b cause) := by
  unfold State.feedLost
  split
  · exact reckons_feedFrom s (chanOf_twinOf b) cause
  · exact reckons_closeChannel s _ cause

theorem reckons_thresholdTest (s : State) (c : ChanId) : Reckons s (s.thresholdTest c) := by
  unfold State.thresholdTest
  split
  · split
    · next x hx => exact reckons_feedFrom s ((chanOf_twinOf x).trans (chanOf_feedingBay s c x hx)) _
    · exact .refl s
  · exact .refl s

theorem reckons_becameEligible (s : State) (b : BayId) : Reckons s (s.becameEligible b) := by
  unfold State.becameEligible
  simp only
  split
  · exact reckons_thresholdTest s _
  · split
    · next x hx => exact reckons_feedFrom s (chanOf_openingChoice s _ x hx) _
    · exact .refl s

theorem reckons_chargeFeeding (s : State) (b : BayId) : Reckons s (s.chargeFeeding b) := by
  have marks := (reckons_convert s (chanOf b) b).trans (reckons_afterMarks _ (chanOf b) b)
  unfold State.chargeFeeding
  split
  · exact reckons_convert s _ b
  · split
    · next after => rw [after] at marks; exact marks
    · next after => rw [after] at marks; exact marks.trans (reckons_feedFrom _ (chanOf_twinOf b) _)
    · next after => rw [after] at marks; exact marks.trans (reckons_closeChannel _ _ _)

/-! ### Re-evaluation and the end of an insertion (R31) -/

theorem reckons_reevaluate (s : State) (b : BayId) : Reckons s (s.reevaluate b) := by
  have moved (st : BayState) : Reckons s ((s.updBay b fun x => { x with barReason := s.barReasonOf b }).moveBay b st) :=
    reckons_moveBay (s.updBay b _) b st
  unfold State.reevaluate
  simp only
  split
  · split
    · exact reckons_beside rfl
    · split
      · split
        · exact (moved _).trans (reckons_becameEligible _ b)
        · exact reckons_beside rfl
      · split
        · exact (moved _).trans (reckons_feedLost _ b _)
        · exact moved _
  · exact .refl s

theorem reckons_endInsertion (s : State) (b : BayId) : Reckons s (s.endInsertion b) := by
  have placed (st : BayState) : Reckons s (s.placeBay b st) := reckons_beside (onlyBay_placeBay s b st).channels
  rw [endInsertion_eq]
  split
  · exact (placed _).trans (reckons_becameEligible _ b)
  · exact placed _

end Sys2Proof.Machine
end

section
/-! SUPPORT. Every operation keeps the volumes of every channel conserved (R79). -/

namespace Sys2Proof.Machine

/-- R79 on every channel. -/
def State.Conserved (s : State) : Prop := ∀ c, (s.chan c).Conserved

section
variable {s t : State} (h : s.Conserved)
include h

theorem State.Conserved.reckon (k : Reckons s t) : t.Conserved := fun c => (k c).conserved (h c)

theorem State.Conserved.beside (k : t.channels = s.channels) : t.Conserved := h.reckon (reckons_beside k)

theorem State.Conserved.kept (k : KeptAtEnd s t) : t.Conserved := h.beside k.channels

theorem State.Conserved.only {b : BayId} (k : OnlyBay b s t) : t.Conserved := h.beside k.channels

theorem State.Conserved.updChan (c : ChanId) (f : Channel → Channel)
    (k : (s.chan c).Conserved → (f (s.chan c)).Conserved) : (s.updChan c f).Conserved := fun x => by
  by_cases here : x = c
  · rw [here, State.chan_updChan_self]
    exact k (h c)
  · rw [State.chan_updChan_other s c x f here]
    exact h x

end

theorem State.Conserved.foldl {α : Type} {f : State → α → State} (step : ∀ s x, s.Conserved → (f s x).Conserved)
    (l : List α) {s : State} (h : s.Conserved) : (l.foldl f s).Conserved := by
  induction l generalizing s with
  | nil => exact h
  | cons x l ih => exact ih (step s x h)

/-! ### Volumes (R70 to R75) -/

theorem Channel.Conserved.addUnbooked {x : Channel} (h : x.Conserved) (v : Nat) :
    ((x.addTotal v).addUnbooked v).Conserved := by
  obtain ⟨range, sum⟩ := h
  refine ⟨min_le_left .., fun whole => ?_⟩
  obtain ⟨saturated, unbooked⟩ := Bool.or_eq_false_iff.mp whole
  obtain ⟨before, total⟩ := Bool.or_eq_false_iff.mp saturated
  have equal := sum before
  have totalBelow := of_decide_eq_false total
  have unbookedBelow := of_decide_eq_false unbooked
  simp only [Channel.addTotal, Channel.addUnbooked, satAdd] at unbookedBelow ⊢
  omega

theorem Channel.Conserved.addResidue {x : Channel} (h : x.Conserved) (v : Nat) :
    ({ x.addTotal v with residue := x.residue + v } : Channel).Conserved := by
  obtain ⟨range, sum⟩ := h
  refine ⟨min_le_left .., fun whole => ?_⟩
  obtain ⟨before, total⟩ := Bool.or_eq_false_iff.mp whole
  have equal := sum before
  have below := of_decide_eq_false total
  simp only [Channel.addTotal, satAdd]
  omega


theorem Channel.Conserved.switchAccounts {x : Channel} (h : x.Conserved) (p : Profile) :
    (x.switchAccounts p).Conserved := by
  obtain ⟨range, sum⟩ := h
  have moved : ({ x.addUnbooked x.residue with residue := 0 } : Channel).Conserved := by
    refine ⟨range, fun whole => ?_⟩
    obtain ⟨before, short⟩ := Bool.or_eq_false_iff.mp whole
    have equal := sum before
    have below := of_decide_eq_false short
    simp only [Channel.addUnbooked, satAdd]
    omega
  unfold Channel.switchAccounts
  simp only
  split <;> split
  · exact moved
  · exact moved
  · exact ⟨range, sum⟩
  · exact ⟨range, sum⟩

theorem Channel.Conserved.loaded {x : Channel} (h : x.Conserved) (j : SlotJudgement) : (x.loaded j).Conserved := h

/-- Two changes of one channel context are one. -/
theorem updChan_updChan (s : State) (c : ChanId) (f g : Channel → Channel) :
    (s.updChan c f).updChan c g = s.updChan c (g ∘ f) := by
  simp only [State.updChan, updAt_updAt]

/-- A volume at a CLOSED channel (R71). -/
theorem takeVolume_closed {s : State} {c : ChanId} (closed : s.feedingBay c = none) (v : Nat) :
    s.takeVolume c v = s.updChan c fun ch => (ch.addTotal v).addUnbooked v := by
  have same : (s.updChan c fun ch => ch.addTotal v).feedingBay c = none := by
    rw [← closed]
    exact feedingBay_congr (by rw [State.chan_updChan_self]; rfl)
  unfold State.takeVolume
  simp only [same, updChan_updChan]
  rfl

/-- A volume at a channel that a bay feeds (R72). -/
theorem takeVolume_fed {s : State} {b : BayId} (fed : s.feedingBay (chanOf b) = some b) (v : Nat) :
    s.takeVolume (chanOf b) v
      = (s.updChan (chanOf b) fun ch => { ch.addTotal v with residue := ch.residue + v }).chargeFeeding b := by
  have same : (s.updChan (chanOf b) fun ch => ch.addTotal v).feedingBay (chanOf b) = some b := by
    rw [← fed]
    exact feedingBay_congr (by rw [State.chan_updChan_self]; rfl)
  unfold State.takeVolume
  simp only [same, updChan_updChan]
  rfl

namespace State.Conserved

theorem takeVolume {s : State} (h : s.Conserved) (c : ChanId) (v : Nat) : (s.takeVolume c v).Conserved := by
  cases feeding : s.feedingBay c with
  | none =>
    rw [takeVolume_closed feeding]
    exact h.updChan c _ fun k => k.addUnbooked v
  | some b =>
    obtain rfl := chanOf_feedingBay s c b feeding
    rw [takeVolume_fed feeding]
    exact (h.updChan (chanOf b) _ fun k => k.addResidue v).reckon (reckons_chargeFeeding _ b)

section
variable {s : State} (h : s.Conserved)
include h

/-! ### The feed selector and the end of an event -/

theorem moveBay (b : BayId) (st : BayState) : (s.moveBay b st).Conserved := h.reckon (reckons_moveBay s b st)

theorem feedLost (b : BayId) (cause : FeedCause) : (s.feedLost b cause).Conserved :=
  h.reckon (reckons_feedLost s b cause)

theorem reevaluate (b : BayId) : (s.reevaluate b).Conserved := h.reckon (reckons_reevaluate s b)

theorem endInsertion (b : BayId) : (s.endInsertion b).Conserved := h.reckon (reckons_endInsertion s b)

theorem endQuiet (before : State) : (s.endQuiet before).Conserved := h.kept (kept_endQuiet s before)

theorem endStore (before : State) : (s.endStore before).Conserved := h.kept (kept_endStore s before)

theorem endEvent (before : State) : (s.endEvent before).Conserved := h.kept (kept_endEvent s before)

theorem endTimed (before : State) : (s.endTimed before).Conserved := h.kept (kept_endTimed s before)

theorem endTaking (before : State) (kind : Word) : (s.endTaking before kind).Conserved := by
  obtain e | e | e := endTaking_cases s before kind <;> rw [e]
  · exact h.endStore before
  · exact h.endQuiet before
  · exact h.endEvent before

/-! ### Tally intake -/

theorem takeTally (source : TallySource) (t : TallyContent) : (s.takeTally source t).Conserved := by
  have frame (c : ChanId) (p : Profile) : (s.takeFrame c p t).Conserved := by
    unfold State.takeFrame
    split
    · exact h.updChan c _ id
    · exact (h.updChan c _ id).takeVolume c _
  unfold State.takeTally
  split
  · simp only
    split
    · exact h.beside rfl
    · split
      · exact frame _ _
      · exact h.beside rfl
  · exact h.beside rfl

theorem takeLinkFrame (f : LinkFrame) : (s.takeLinkFrame f).Conserved := by
  unfold State.takeLinkFrame
  split
  · exact h.beside rfl
  · split
    · exact h.takeTally _ _
    · exact h.beside rfl

theorem takeTallyPost (target : Word) (a : Args) : (s.takeTallyPost target a).Conserved := by
  unfold State.takeTallyPost
  split
  · exact h.beside rfl
  · exact h.takeTally _ _

theorem takePurge (target : Word) (a : Args) : (s.takePurge target a).Conserved := by
  unfold State.takePurge
  split
  · exact h.beside rfl
  · split
    · exact h.beside rfl
    · exact (h.takeVolume _ _).updChan _ _ id

/-! ### The level checker (chapter 7) -/

theorem fireCheck (b : BayId) (k : HeldKind) : (s.fireCheck b k).Conserved := by
  rw [fireCheck_eq]
  split
  · exact h
  · exact (h.only (adjusts_setFlag s b k).toOnlyBay).reevaluate b

theorem fireCheckWhere (b : BayId) (k : HeldKind) (fires : Prop) [Decidable fires] :
    (if fires then s.fireCheck b k else s).Conserved := by
  split
  · exact h.fireCheck b k
  · exact h

theorem discardSample (b : BayId) (why : SampleDiscard) : (s.discardSample b why).Conserved :=
  (h.updChan (chanOf b) (fun ch => { ch with skippedSamples := satAdd top16 ch.skippedSamples 1 }) id).beside rfl

theorem useSample (b : BayId) (p : Profile) (reading : Byte) : (s.useSample b p reading).Conserved := by
  unfold State.useSample
  simp only
  split
  · refine fireCheckWhere (fireCheckWhere ?_ b _ _) b _ _
    exact h.beside rfl
  · exact h.beside rfl

theorem takeSample (b : BayId) (reading : Byte) (ok : Bool) : (s.takeSample b reading ok).Conserved := by
  have timed : (s.startSenseTimer b).Conserved := h.beside rfl
  unfold State.takeSample
  simp only
  split
  · exact timed.discardSample b _
  · split
    · exact timed.discardSample b _
    · split
      · exact timed.discardSample b _
      · exact timed.useSample b _ _

theorem carryOutClear (b : BayId) (a : Args) : (s.carryOutClear b a).1.Conserved := by
  have cleared (set : HeldSet) : (s.clearFlags b set).Conserved := by
    have dropped (u : State) (k : u.Conserved) : (if (u.bay b).sense.held = 0#5 then
        u.updBay b fun x => { x with sense := { x.sense with snapshot := none } } else u).Conserved := by
      split
      · exact k.beside rfl
      · exact k
    unfold State.clearFlags
    simp only
    split
    · refine reevaluate (dropped _ ?_) b
      exact h.beside rfl
    · refine dropped _ ?_
      exact h.beside rfl
  unfold State.carryOutClear
  split
  · exact h
  · split
    · exact h
    · exact cleared _

/-! ### Insertions -/

theorem settleBay (b : BayId) (e : Option Serial) (gc : GaugeCase) (v : Verdict × VerdictReason) :
    (s.settleBay b e gc v).Conserved :=
  (h.beside rfl : (s.updBay b fun x => { x with entry := e, book := gc.book, pending := gc.pending }).Conserved).only
    (adjusts_setVerdict _ b _ _).toOnlyBay

theorem closeInsertion (b : BayId) (conflict rise : Bool) :
    ((s.fireInsertionChecks b conflict rise).endInsertion b).Conserved :=
  ((h.fireCheckWhere b _ _).fireCheckWhere b _ _).endInsertion b

theorem makeDue (serial : Serial) : (s.makeDue serial).Conserved := h.kept (kept_makeDue s serial)

theorem reconcile (b : BayId) : (s.reconcile b).Conserved := by
  have moved := h.moveBay b .reconciling
  unfold State.reconcile
  simp only
  split
  · exact moved.endInsertion b
  · next id _ =>
    split
    · split
      · exact (moved.settleBay b _ _ _).endInsertion b
      · refine closeInsertion (settleBay (makeDue ?_ id.serial) b _ _ _) b _ _
        exact moved.beside rfl
    · split
      · refine closeInsertion (settleBay (makeDue ?_ id.serial) b _ _ _) b _ _
        exact moved.beside rfl
      · refine closeInsertion (settleBay ?_ b _ _ _) b _ _
        exact moved.beside rfl

theorem wantStep (b : BayId) (st : InsertionStep) : (s.wantStep b st).Conserved := h.beside rfl

theorem enterChallenging (b : BayId) (id : Identity) : (s.enterChallenging b id).Conserved := by
  unfold State.enterChallenging
  simp only
  have placed {u : State} (k : u.Conserved) (a : AuthEngine) : ({ u with auth := a } : State).Conserved := k.beside rfl
  refine placed ((moveBay ?_ b .challenging).wantStep b _) _
  exact h.beside rfl

theorem setVerdict (b : BayId) (v : Verdict) (r : VerdictReason) : (s.setVerdict b v r).Conserved :=
  h.only (adjusts_setVerdict s b v r).toOnlyBay

theorem gotIdentity (b : BayId) (blk : Block) : (s.gotIdentity b blk).Conserved := by
  unfold State.gotIdentity
  simp only
  split
  · exact h.beside rfl
  · exact (h.setVerdict b _ _).beside rfl

theorem gotGauge (b : BayId) (blk : Block) : (s.gotGauge b blk).Conserved := by
  have gauged (g : GaugeBlock) : (s.takeGauge b g).Conserved := h.beside rfl
  unfold State.gotGauge
  split
  · split
    · exact (gauged _).enterChallenging b _
    · exact (h.setVerdict b _ _).enterChallenging b _
  · split
    · exact (gauged _).endInsertion b
    · exact h.endInsertion b

theorem checkResponse (b : BayId) : (s.checkResponse b).Conserved := by
  have cleared : (s.updBay b fun x =>
      { x with challenge := none, tagResponse := none, expectedResponse := none }).Conserved := h.beside rfl
  unfold State.checkResponse
  split
  · simp only
    split
    · exact (cleared.setVerdict b _ _).endInsertion b
    · split
      · refine reconcile ?_ b
        exact cleared.beside rfl
      · refine endInsertion ?_ b
        exact cleared.beside rfl
  · exact h

theorem gotResponse (b : BayId) (r : Bytes16) : (s.gotResponse b r).Conserved :=
  checkResponse (s := s.updBay b _) (h.beside rfl) b

theorem gotExpected (b : BayId) (r : Bytes16) : (s.gotExpected b r).Conserved :=
  checkResponse (s := s.updBay b _) (h.beside rfl) b

/-! ### Burns, flag writes, FAULT -/

theorem burnAcked (b : BayId) (r : Nat) : (s.burnAcked b r).Conserved := by
  have dropped (u : State) (k : u.Conserved) : (u.dropBurnWant b).Conserved := by
    unfold State.dropBurnWant
    split
    · exact k.beside rfl
    · exact k
  have zero (u : State) (k : u.Conserved) : (u.reachedZero b).Conserved := by
    unfold State.reachedZero
    simp only
    rw [raiseDepletedWant_eq]
    refine beside (s := match (u.bay b).entry with | some _ => _ | none => _) ?_ rfl
    split
    · refine makeDue ?_ _
      exact k.beside rfl
    · exact k
  have zeroed (u : State) (k : u.Conserved) : (if (u.bay b).tagGauge = 0 then u.reachedZero b else u).Conserved := by
    split
    · exact zero u k
    · exact k
  have checked (u : State) (k : u.Conserved) (p : Prop) [Decidable p] :
      (if p then u else u.fireCheck b .burnMismatch).Conserved := by
    split
    · exact k
    · exact k.fireCheck b _
  unfold State.burnAcked
  split
  · exact h
  · simp only
    refine zeroed _ (checked _ (dropped _ ?_) _)
    exact h.beside rfl

theorem burnRefused (b : BayId) : (s.burnRefused b).Conserved :=
  fireCheck (s := s.updBay b _) (h.beside rfl) b _

theorem flagWritten (b : BayId) (f : TagFlag) : (s.flagWritten b f).Conserved := by
  cases f <;> exact h.beside rfl

theorem enterFault (b : BayId) : (s.enterFault b).Conserved := by
  have faulted := h.only (onlyBay_faultBay s b)
  rw [enterFault_eq]
  split
  · exact h
  · split
    · exact faulted.feedLost b _
    · exact faulted

/-! ### Answers (R182, R188 to R190) -/

theorem writeAnswer (k : SlotId) (a : Answer) : (s.writeAnswer k a).Conserved :=
  h.beside (State.writeAnswer_channels s k a)

omit h in
theorem serveList (b : BayId) (l : List SlotId) {s : State} (h : s.Conserved) : (State.serveList b l s).Conserved := by
  induction l generalizing s with
  | nil => exact h.beside rfl
  | cons k l ih =>
    unfold State.serveList
    split
    · exact ih h
    · split
      · exact ih ((h.carryOutClear b _).writeAnswer k _)
      · split
        · exact ih (h.writeAnswer k _)
        · exact h.beside rfl

theorem serveBay (b : BayId) : (s.serveBay b).Conserved := serveList b _ h

theorem finishTicket (k : SlotId) (a : Answer) : (s.finishTicket k a).Conserved := by
  unfold State.finishTicket
  split
  · exact h
  · split
    · exact h.writeAnswer k a
    · exact serveBay (s := s.holdResult k a) (h.beside rfl) _

theorem decideTest (k : SlotId) (pass : Bool) (l : List Byte) : (s.decideTest k pass l).Conserved :=
  writeAnswer (s := s.concludeTest pass) (h.beside rfl) k _

theorem decideLoop (k : SlotId) (pass : Bool) (l : List Byte) : (s.decideLoop k pass l).Conserved :=
  finishTicket (s := s.concludeTest pass) (h.beside rfl) k _

/-! ### Tickets -/

theorem takeSetProfile (k : SlotId) (target : Word) (a : Args) : (s.takeSetProfile k target a).Conserved := by
  unfold State.takeSetProfile
  split
  · exact h.writeAnswer k _
  · split
    · exact h.writeAnswer k _
    · split
      · exact h.writeAnswer k _
      · exact h.beside rfl

theorem placeTagWork (q : QueueEntry) : (s.placeTagWork q).Conserved := by
  unfold State.placeTagWork
  simp only
  split <;> exact h.beside rfl

theorem takeReadTag (k : SlotId) (target : Word) (a : Args) : (s.takeReadTag k target a).Conserved := by
  unfold State.takeReadTag
  split
  · exact h.finishTicket k _
  · next b _ =>
    have joined : (s.joinOrder k b).Conserved := h.beside rfl
    simp only
    split
    · exact joined.finishTicket k _
    · split
      · exact joined.finishTicket k _
      · exact joined.placeTagWork _

theorem takeClearHeld (k : SlotId) (target : Word) : (s.takeClearHeld k target).Conserved := by
  unfold State.takeClearHeld
  split
  · exact h.finishTicket k _
  · exact serveBay (s := s.joinOrder k _) (h.beside rfl) _

theorem takeForget (k : SlotId) (a : Args) : (s.takeForget k a).Conserved := by
  have forgotten (e : Entry) : (s.forget e).Conserved := by
    unfold State.forget
    simp only
    split
    · exact h.beside rfl
    · split <;> exact h.beside rfl
  unfold State.takeForget
  split
  · exact h.writeAnswer k _
  · split
    · exact h.writeAnswer k _
    · split
      · exact h.writeAnswer k _
      · exact (forgotten _).writeAnswer k _

theorem takeSwitchFeed (k : SlotId) (target : Word) (a : Args) : (s.takeSwitchFeed k target a).Conserved := by
  unfold State.takeSwitchFeed
  split
  · exact h.writeAnswer k _
  · next named =>
    split
    · exact h.writeAnswer k _
    · split
      · exact (h.reckon (reckons_feedFrom s (chanOf_switchArgs named) _)).writeAnswer k _
      · exact h.writeAnswer k _

theorem takeEnforce (k : SlotId) : (s.takeEnforce k).Conserved := by
  have latched : ({ s with latch := true } : State).Conserved := h.beside rfl
  unfold State.takeEnforce State.enforce
  split
  · exact h.writeAnswer k _
  · exact (foldl (fun u b k => k.only (adjusts_raiseRefillMarkWant u b).toOnlyBay) _
      (foldl (fun _ b k => k.reevaluate b) _ latched)).writeAnswer k _

theorem takeSelfTest (k : SlotId) (a : Args) : (s.takeSelfTest k a).Conserved := by
  unfold State.takeSelfTest
  split
  · split
    · next b _ =>
      have joined : (s.joinOrder k b).Conserved := h.beside rfl
      unfold State.takeLoopTest
      simp only
      split
      · exact joined.finishTicket k _
      · split
        · exact joined.finishTicket k _
        · exact placeTagWork (s := (s.joinOrder k b).startTest k 9 (some b)) (joined.beside rfl) _
    · exact h.writeAnswer k _
  · have started : (s.startTest k (argByte a 0).toNat none).Conserved := h.beside rfl
    unfold State.takePlainTest
    simp only
    split
    · exact h.writeAnswer k _
    · split
      · exact h.writeAnswer k _
      · split
        · exact started.decideTest k _ _
        · split
          · exact started.decideTest k _ _
          · split
            · exact started.beside rfl
            · exact started.beside rfl

theorem zeroCounts : s.zeroCounts.Conserved := fun c => by
  have zeroed : s.zeroCounts.chan c = (s.chan c).zeroCounts := mapAll_get s.channels (fun _ ch => ch.zeroCounts) c
  rw [zeroed]
  exact h c

theorem takeTicket (k : SlotId) : (s.takeTicket k).Conserved := by
  have marked : (s.markTaken k).Conserved := h.beside rfl
  have freed {u : State} (r : u.Conserved) : (u.freePosted k).Conserved := r.beside rfl
  unfold State.takeTicket State.applyTicket
  simp only
  split
  · next kind _ =>
    cases kind with
    | tallyPost => exact freed (marked.takeTallyPost _ _)
    | purgePost => exact freed (marked.takePurge _ _)
    | setProfile => exact marked.takeSetProfile k _ _
    | checkStore =>
      unfold State.applyKind State.takeCheckStore
      simp only
      split
      · exact marked.writeAnswer k _
      · exact marked.beside rfl
    | readTagBlock => exact marked.takeReadTag k _ _
    | historyQuery => exact marked.writeAnswer k _
    | forgetSerial => exact marked.takeForget k _
    | clearHeld => exact marked.takeClearHeld k _
    | switchFeed => exact marked.takeSwitchFeed k _ _
    | enforce => exact marked.takeEnforce k
    | selfTest => exact marked.takeSelfTest k _
    | clearCounts => exact marked.zeroCounts.writeAnswer k _
  · exact marked.beside rfl
  · exact marked.writeAnswer k _

/-! ### Engines -/

theorem endHeadTicket (e : EngId) (a : Answer) : (s.endHeadTicket e a).Conserved := by
  unfold State.endHeadTicket
  split
  · exact finishTicket (s := s.leaveQueue e _) (h.beside rfl) _ a
  · exact h

theorem loopRead (e : EngId) (b : BayId) (blk : Block) : (s.loopRead e b blk).Conserved := by
  unfold State.loopRead
  split
  · exact h
  · split
    · exact h.beside rfl
    · exact decideLoop (s := s.leaveQueue e _) (h.beside rfl) _ _ _

theorem deliverStep (t : Transaction) (p : Payload) : (s.deliverStep t p).Conserved := by
  have ended : (s.endStep t.bay).Conserved := h.beside rfl
  unfold State.deliverStep
  simp only
  split
  · split
    · split
      · exact ended.gotIdentity _ _
      · exact ended.gotGauge _ _
    · exact ended
  · split
    · exact ended.gotResponse _ _
    · exact ended
  · exact ended

theorem deliverSense (b : BayId) (p : Payload) : (s.deliverSense b p).Conserved := by
  unfold State.deliverSense
  split
  · split
    · exact h.takeSample b _ _
    · exact h
  · exact h

theorem deliver (e : EngId) (t : Transaction) (p : Payload) : (s.deliver e t p).Conserved := by
  unfold State.deliver
  split
  · exact h.deliverStep t p
  · split
    · exact h.burnAcked _ _
    · exact h
  · exact h.flagWritten _ _
  · exact h.flagWritten _ _
  · exact h.deliverSense _ p
  · split
    · exact h.endHeadTicket e _
    · exact h
  · split
    · exact h.loopRead e _ _
    · exact h

theorem handDiscard (e : EngId) (t : Transaction) : (s.handDiscard e t).Conserved := by
  unfold State.handDiscard
  split
  · exact h.enterFault _
  · exact h.enterFault _
  · exact h.enterFault _
  · exact h.enterFault _
  · exact h.enterFault _
  · exact h.endHeadTicket e _
  · split
    · exact h
    · next q _ _ =>
      exact (enterFault (s := (s.leaveQueue e q.slot).endTest 15 .discarded) (h.beside rfl) _).finishTicket _ _

theorem endAttempt (e : EngId) (t : Transaction) (o : AttemptOutcome) : (s.endAttempt e t o).Conserved := by
  have idle : (s.idleEngine e).Conserved := h.beside rfl
  have gap (x : Transaction) : (s.enterGap e x).Conserved := h.beside rfl
  have discarded (x : Transaction) (cause : DiscardCause) : (s.discard e x cause).Conserved := by
    refine handDiscard ?_ e x
    exact h.beside rfl
  unfold State.endAttempt
  split
  · exact idle.deliver e t _
  · exact idle.burnRefused _
  · simp only
    split
    · exact discarded _ _
    · exact gap _
  · simp only
    split
    · exact discarded _ _
    · exact gap _
  · split
    · exact discarded _ _
    · exact gap _

theorem removeBay (b : BayId) : (s.removeBay b).Conserved := by
  have emptied := h.only (onlyBay_emptyBay s b)
  rw [removeBay_eq]
  refine serveBay ?_ b
  split
  · exact emptied.feedLost b _
  · exact emptied

/-! ### The store controller -/

theorem degradeWhere (p : Prop) [Decidable p] : (if p then s.degrade else s).Conserved :=
  let ⟨_, _, channels⟩ := degradedWhere_keeps p s
  h.beside channels

theorem degrade : s.degrade.Conserved := h.kept (kept_degrade s)

theorem stepJournalSeq : s.stepJournalSeq.Conserved := by
  unfold State.stepJournalSeq
  split
  · exact h.beside rfl
  · exact h.degrade

theorem stepSectorSeq : s.stepSectorSeq.Conserved := by
  unfold State.stepSectorSeq
  split
  · exact h.beside rfl
  · exact h.degrade

theorem itemWritten (j : SecId) (slot : Nat) (r : JournalRecord) (changed : Bool) :
    (s.itemWritten j slot r changed).Conserved := by
  have located : (s.locateRecord j slot r).Conserved := by
    unfold State.locateRecord
    split
    · exact h
    · exact h.beside rfl
  have done (u : State) (k : u.Conserved) : (u.recordItemDone r changed).Conserved := by
    unfold State.recordItemDone
    simp only
    split
    · refine makeDue ?_ _
      exact k.beside rfl
    · exact k.beside rfl
  unfold State.itemWritten
  split
  · exact located
  · split
    · exact located
    · split
      · split
        · exact h.beside rfl
        · exact h
      · split
        · exact h
        · exact done _ located

theorem endAppend (j : SecId) (slot : Nat) (r : JournalRecord) (got : Block) :
    (s.endAppend j slot r got).Conserved := by
  have failed (u : State) (k : u.Conserved) : (u.recordFailed r).Conserved := by
    have counted : (u.updStore fun x => { x with programFailures := satAdd top16 x.programFailures 1 }).Conserved :=
      k.beside rfl
    unfold State.recordFailed
    extract_lets n v
    split
    · exact counted
    · split
      · exact counted.degrade
      · exact counted.beside rfl
  unfold State.endAppend
  simp only
  split
  · refine stepJournalSeq (itemWritten ?_ j slot r _)
    exact h.beside rfl
  · refine failed _ ?_
    exact h.beside rfl

theorem reclaimCheck : s.reclaimCheck.Conserved := h.kept (kept_reclaimCheck s)

theorem endHeader (j : SecId) (seq : Nat) (got : Block) : (s.endHeader j seq got).Conserved := by
  unfold State.endHeader
  simp only
  split
  · refine reclaimCheck (stepSectorSeq ?_)
    exact h.beside rfl
  · refine stepSectorSeq ?_
    exact h.beside rfl

theorem endErase (j : SecId) (left : List (Nat × Byte)) : (s.endErase j left).Conserved := by
  have reclaimed (u : State) (k : u.Conserved) (p : Prop) [Decidable p] :
      (if p then (u.updStore fun x => { x with victim := none }).reclaimCheck else u).Conserved := by
    split
    · exact reclaimCheck (s := u.updStore _) (k.beside rfl)
    · exact k
  unfold State.endErase
  simp only
  refine reclaimed _ ?_ _
  split
  · exact h.beside rfl
  · refine degradeWhere ?_ _
    exact h.beside rfl

/-! ### Profiles (R60, R95, R174) -/

theorem switchProfile (c : ChanId) (p : Profile) : (s.switchProfile c p).Conserved := by
  have installed : (s.installProfile c p).Conserved := by
    have noticed (u : State) (k : u.Conserved) (p : Prop) [Decidable p] :
        (if p then u.raise .channel else u).Conserved := by
      split
      · exact k.beside rfl
      · exact k
    unfold State.installProfile
    extract_lets old u v
    have step : v.Conserved := noticed u (h.updChan c _ fun k => k.switchAccounts p) _
    split
    · exact step.beside rfl
    · exact step
  rw [switchProfile_eq]
  split
  · exact (installed.reevaluate _).reevaluate _
  · exact installed

theorem endRewrite (k : SlotId) (c : ChanId) (p : Profile) (result : RewriteEnd) :
    (s.endRewrite k c p result).Conserved := by
  have freed : ({ s with flash := s.rewriteResult c p result } : State).idleStore.Conserved := h.beside rfl
  unfold State.endRewrite
  simp only
  split
  · refine writeAnswer ?_ k _
    exact (freed.switchProfile c p).beside rfl
  · refine writeAnswer ?_ k _
    exact freed.beside rfl

theorem warn : s.warn.Conserved := by
  have away : s.turnAwayRewrites.Conserved := by
    unfold State.turnAwayRewrites
    simp only
    refine foldl (fun u t k => k.writeAnswer t.slot _) _ ?_
    exact h.beside rfl
  exact (away.kept (kept_makeAllDue _ _)).beside rfl

theorem rebuild : s.rebuild.Conserved := by
  have loaded : s.loadProfiles.Conserved := fun c => by
    have here : s.loadProfiles.chan c = (s.chan c).loaded (s.flash.judge c) :=
      mapAll_get s.channels (fun c ch => ch.loaded (s.flash.judge c)) c
    rw [here]
    exact (h c).loaded _
  have journal (u : State) : u.loadJournal.channels = u.channels := by
    unfold State.loadJournal
    obtain ⟨_, _, channels⟩ := degradedWhere_keeps
      (top32 < nextAfter (u.flash.allRecords.map (·.record.seq)) ∨ top32 < nextAfter (u.flash.headed.map (·.2))) _
    exact channels.trans (State.updStore_channels _ _)
  exact loaded.beside (journal _)

theorem writeRecords : s.writeRecords.Conserved := h.beside rfl

theorem enterReady : s.enterReady.Conserved := by
  have damaged (u : State) (k : u.Conserved) :
      (if u.store.profileState = .damaged then u.raise .store else u).Conserved := by
    split
    · exact k.beside rfl
    · exact k
  have present (u : State) (b : BayId) (k : u.Conserved) : (u.readPresence b).Conserved := by
    unfold State.readPresence
    split
    · refine moveBay ?_ b _
      exact k.beside rfl
    · exact k
  have arrived (u : State) (k : SlotId) (r : u.Conserved) : (u.takeArrival k).Conserved :=
    (r.takeTicket k).kept (kept_takeArrival u k)
  unfold State.enterReady State.takeArrivals
  simp only
  refine damaged _ (foldl present _ (foldl arrived _ ?_))
  exact h.beside rfl

theorem becomeReady : s.becomeReady.Conserved := h.rebuild.writeRecords.enterReady.kept (kept_becomeReady s)

/-! ### Hands and registers (R183, R194 to R198) -/

theorem handWrite (k : SlotId) (v : Word) : (s.handWrite k v).Conserved := by
  have ignored : s.ignoreWrite.Conserved := endQuiet (s := s.updPort _) (h.beside rfl) s
  have hand (x : Hand) : (s.setHand k x).Conserved := h.beside rfl
  unfold State.handWrite
  split
  · split
    · unfold State.arrive
      simp only
      split
      · exact hand _
      · split
        · exact ((hand _).takeTicket k).endTaking s _
        · exact endQuiet (s := (s.setHand k .filled).listArrival k) (h.beside rfl) s
    · exact ignored
  · split
    · refine endQuiet ?_ s
      exact h.beside rfl
    · exact ignored
  · split
    · exact hand _
    · exact ignored
  · exact ignored

theorem writeRequest (k : SlotId) (f : Slot → Slot) : (s.writeRequest k f).Conserved := by
  unfold State.writeRequest
  split
  · exact h.beside rfl
  · exact h

theorem post (k : SlotId) (kind target : Word) (a : Args) : (s.post k kind target a).Conserved :=
  (h.writeRequest k _).handWrite k _

omit h in
theorem afterReset (s : State) : s.afterReset.Conserved := fun c => by
  rw [(clean_afterReset s).chan]
  exact ⟨Nat.zero_le _, fun _ => rfl⟩

theorem requestReset : s.requestReset.Conserved := by
  unfold State.requestReset
  split
  · exact h
  · simp only
    split
    · exact afterReset _
    · exact endQuiet (s := s.updPort _) (h.beside rfl) s

theorem endFlash (before : State) : (s.endFlash before).Conserved := by
  unfold State.endFlash
  simp only
  split
  · exact afterReset _
  · exact (h.kept (kept_advanceWork s before)).endQuiet before

theorem writeWord (a : Nat) (v : Word) : (s.writeWord a v).Conserved := by
  unfold State.writeWord
  split
  · unfold State.writeSlot
    split
    · exact h.handWrite _ v
    · split
      · exact h.writeRequest _ _
      · split
        · exact h.writeRequest _ _
        · split
          · exact h.writeRequest _ _
          · exact h
  · unfold State.writeRegister State.writeResetReq
    split
    · exact h.beside rfl
    · split
      · exact h.beside rfl
      · split
        · exact h.beside rfl
        · split
          · split
            · exact h.requestReset
            · exact h
          · exact h

end

end State.Conserved

/-! ### Every command -/

section
variable {s t : State} (h : s.Conserved)
include h

theorem State.Conserved.presenceActive {b : BayId} {x : Seating} (run : execPresenceActive b x s = .next t) :
    t.Conserved := by
  obtain rfl := Host.Outcome.next.inj run
  split
  · exact h
  · split
    · exact h
    · next c _ =>
      have seated : ((s.takeUpPulled x).seat b c).Conserved := by cases x <;> exact h.beside rfl
      split
      · refine State.Conserved.endQuiet (State.Conserved.moveBay ?_ b _) s
        exact seated.beside rfl
      · exact seated

theorem State.Conserved.handResult (r : AuthRequest) (v : Bytes16) : (s.handResult r v).Conserved := by
  unfold State.handResult
  split
  · split
    · exact h.gotExpected _ v
    · exact h
  · split
    · exact h.decideTest _ _ _
    · exact h

theorem State.Conserved.authComplete (run : execAuthComputationComplete s = .next t) : t.Conserved := by
  obtain rfl := Host.Outcome.next.inj run
  have idle (a : AuthEngine) : ({ s with auth := a } : State).Conserved := h.beside rfl
  split
  · exact h
  · have began {u : State} (k : u.Conserved) : ({ u with auth := u.auth.begin } : State).Conserved := k.beside rfl
    refine State.Conserved.endEvent (began ?_) s
    split
    · exact idle _
    · exact (idle _).handResult _ _

end

/-- Settles O10: every command keeps the volumes of every channel conserved, from whatever state. -/
theorem volumesStayConserved : Obligations.VolumesStayConserved := by
  intro c s t conserved run
  have h : s.Conserved := conserved
  show t.Conserved
  have attempt (e : EngId) (tr : Transaction) (time : Nat) (o : AttemptOutcome) :
      (((s.atTime time).endAttempt e tr o).endTimed s).Conserved :=
    (State.Conserved.endAttempt (s := s.atTime time) (h.beside rfl) e tr o).endTimed s
  cases c with
  | presenceActive b x => exact h.presenceActive run
  | authComputationComplete => exact h.authComplete run
  | powerOnReset =>
    obtain rfl := Host.Outcome.next.inj run
    exact .afterReset _
  | startupRebuildComplete =>
    obtain rfl := Host.Outcome.next.inj run
    split
    · exact h
    · split
      · exact .afterReset _
      · exact h.becomeReady
  | bayRemoval b =>
    obtain rfl := Host.Outcome.next.inj run
    have pulled : (s.unseat b).Conserved := h.beside rfl
    split
    · split
      · exact pulled
      · exact (pulled.removeBay b).endEvent s
    · exact h
  | settleTimerExpiry b =>
    obtain rfl := Host.Outcome.next.inj run
    split
    · refine State.Conserved.endEvent ((State.Conserved.moveBay ?_ b .identifying).wantStep b _) s
      exact h.beside rfl
    · exact h
  | senseTimerExpiry b =>
    obtain rfl := Host.Outcome.next.inj run
    split
    · refine State.Conserved.endEvent ?_ s
      exact h.beside rfl
    · exact h
  | tallyFrame f =>
    obtain rfl := Host.Outcome.next.inj run
    exact (h.takeLinkFrame f).endEvent s
  | tallyLinkPauseTimeout | tallyFrameBroken =>
    obtain rfl := Host.Outcome.next.inj run
    exact State.Conserved.endQuiet (s := s.countTallyError) (h.beside rfl) s
  | pfwActive =>
    obtain rfl := Host.Outcome.next.inj run
    split
    · exact h
    · exact (State.Conserved.warn (s := s.setPfw true) (h.beside rfl)).endStore s
  | pfwInactive =>
    obtain rfl := Host.Outcome.next.inj run
    split
    · exact State.Conserved.endStore (s := (s.setPfw false).unwarn) (h.beside rfl) s
    · exact h
  | arrivalWhileStarting k | arrivalWhileResetPending k | withdrawal k | release k | ignoredHandWrite k v =>
    obtain rfl := Host.Outcome.next.inj run
    exact h.handWrite k _
  | hostWrite a v =>
    obtain rfl := Host.Outcome.next.inj run
    exact h.writeWord _ v
  | tallyPost k _ _ | purgePost k _ _ | postedReject k _ _ _ | badKind k _ _ _ | setProfile k _ _ | checkStore k _ _
  | readTagBlock k _ _ | historyQuery k _ _ | forgetSerial k _ _ | clearHeld k _ _ | switchFeed k _ _ | enforce k _ _
  | clearCounts k _ _ | selfTestCode2 k _ | selfTestCode3 k _ | selfTestCode5 k _ | selfTestCode6 k _
  | selfTestCode9 k _ | selfTestBadCode k _ _ =>
    obtain rfl := Host.Outcome.next.inj run
    exact h.post k _ _ _
  | noticeClear v | noticeEnable v | noticeRoute v =>
    obtain rfl := Host.Outcome.next.inj run
    exact h.beside rfl
  | resetReq v =>
    obtain rfl := Host.Outcome.next.inj run
    split
    · exact h.requestReset
    · exact h
  | softReset =>
    obtain rfl := Host.Outcome.next.inj run
    split
    · exact .afterReset _
    · exact h
  | tagAnswerFrame e frame time =>
    obtain rfl := Host.Outcome.next.inj run
    split
    · split
      · exact attempt e _ time _
      · exact h
    · exact h
    · exact h
  | answerWindowTimeout e time =>
    obtain rfl := Host.Outcome.next.inj run
    split
    · exact attempt e _ time _
    · exact h
    · exact h
  | retryGapExpiry e =>
    obtain rfl := Host.Outcome.next.inj run
    split
    · next tr ends _ => exact State.Conserved.endQuiet (s := (s.atTime ends).retry e tr) (h.beside rfl) s
    · exact h
    · exact h
  | settleIntervalExpiry c =>
    obtain rfl := Host.Outcome.next.inj run
    split
    · next expiry _ =>
      have timed : (s.atTime expiry).Conserved := h.beside rfl
      exact (timed.updChan c (fun ch => { ch with settleEnd := none }) id).endQuiet s
    · exact h
  | recordProgram back =>
    obtain rfl := Host.Outcome.next.inj run
    split
    · exact (h.endAppend _ _ _ _).endFlash s
    · exact h
  | headerProgram back =>
    obtain rfl := Host.Outcome.next.inj run
    split
    · exact (h.endHeader _ _ _).endFlash s
    · exact h
  | sectorErase left =>
    obtain rfl := Host.Outcome.next.inj run
    split
    · exact (h.endErase _ left).endFlash s
    · exact h
  | profileRewrite result =>
    obtain rfl := Host.Outcome.next.inj run
    split
    · exact (h.endRewrite _ _ _ result).endFlash s
    · exact h
  | checkStoreRead =>
    obtain rfl := Host.Outcome.next.inj run
    split
    · exact (State.Conserved.writeAnswer (s := s.idleStore) (h.beside rfl) _ _).endFlash s
    · exact h
  | profileSectorRead =>
    obtain rfl := Host.Outcome.next.inj run
    split
    · exact (State.Conserved.decideTest (s := s.idleStore) (h.beside rfl) _ _ _).endFlash s
    · exact h
  | tagWorkComplete b =>
    obtain rfl := Host.Outcome.next.inj run
    exact h.beside rfl

end Sys2Proof.Machine
end

section
/-! O4: the temperature factor and the adjusted drop volume. -/

namespace Sys2Proof.Machine

/-- The adjusted drop volume lies within half a unit of the exact quotient, an exact half rounded up (R68). -/
theorem adjusted_nearest (v f : Nat) :
    2 * 4096 * adjusted v f ≤ 2 * (v * f) + 4096 ∧ 2 * (v * f) < 2 * 4096 * adjusted v f + 4096 := by
  unfold adjusted
  omega

theorem adjusted_le {v f : Nat} (drop : v ≤ 1023) (factor : f ≤ 6144) : adjusted v f ≤ 1535 := by
  have product : v * f ≤ 1023 * 6144 := Nat.mul_le_mul drop factor
  unfold adjusted
  omega

theorem adjusted_zero (f : Nat) : adjusted 0 f = 0 := by simp [adjusted]

/-- F is its formula held within 2048 to 6144 (R67). -/
theorem factorOf_eq (k : Int) (t : Nat) : (factorOf k t : Int) = max 2048 (min 6144 (4096 + k * ((t : Int) - 50))) := by
  unfold factorOf
  omega

/-- Settles O4: rounding is to the nearest, and temperature and factor are held within their ranges. -/
theorem factorAndRounding : Obligations.FactorAndRounding := by
  refine ⟨fun v f => ?_, fun k temp => ?_⟩
  · obtain ⟨above, below⟩ := adjusted_nearest v f
    exact ⟨rfl, above, below, fun drop _ factor => adjusted_le drop factor, adjusted_zero f⟩
  · have factor := factorOf_eq k (clampTemp temp)
    generalize k * ((clampTemp temp : Int) - 50) = slope at factor ⊢
    have clamp : clampTemp temp = max 10 (min 160 temp) := rfl
    refine ⟨?_, ?_, ?_, ?_, ?_, ?_, ?_, ?_⟩ <;> omega

end Sys2Proof.Machine
end

section
/-! O22: link frames that are turned away, and the bits that make and break a frame. -/

namespace Sys2Proof.Machine

/-! ### Bits inside a frame (R212) -/

/-- Bits that the byte under way has room for wait for its closing bit. -/
theorem hearAll_room (whole : List Byte → Bool) (l : List Bool) (k : Nat) (x : PartFrame)
    (room : x.bits.length + l.length ≤ 8) :
    ∃ k', Receiver.hearAll { ones := k, part := some x } whole l
      = ({ ones := k', part := some { x with bits := x.bits ++ l } }, []) := by
  induction l generalizing k x with
  | nil => exact ⟨k, by rw [List.append_nil]; rfl⟩
  | cons d l ih =>
    rw [List.length_cons] at room
    have fits : x.bits.length < 8 := by omega
    obtain ⟨k', rest⟩ := ih (if d then min 16 (k + 1) else 0) { x with bits := x.bits ++ [d] }
      (by rw [List.length_append, List.length_singleton]; omega)
    refine ⟨k', ?_⟩
    rw [Receiver.hearAll]
    simp only [Receiver.hear, PartFrame.hear, if_pos fits, rest, List.append_assoc, List.singleton_append,
      Option.toList_none, List.append_nil]

theorem length_byteBits (b : Byte) : (byteBits b).length = 9 := rfl

theorem length_flatMap_byteBits (l : List Byte) : (l.flatMap byteBits).length = 9 * l.length := by
  rw [List.length_flatMap, List.map_congr_left fun b _ => length_byteBits b, List.map_const', List.sum_replicate,
    smul_eq_mul, Nat.mul_comm]

/-- Short of the closing bit of its last byte a frame is under way, and nothing has been noticed. -/
theorem hearAll_within (whole : List Byte → Bool) (m : List Byte) (n k : Nat) (l : List Byte)
    (short : n < 9 * m.length) (early : ∀ p, p <+: l ++ m → p.length < (l ++ m).length → whole p = false) :
    ∃ k' x, Receiver.hearAll { ones := k, part := some { bytes := l, bits := [] } } whole ((m.flatMap byteBits).take n)
      = ({ ones := k', part := some x }, []) := by
  induction m generalizing n k l with
  | nil => exact absurd short (Nat.not_lt_zero n)
  | cons b m ih =>
    rw [List.flatMap_cons]
    by_cases inside : n < 9
    · have bits : (byteBits b ++ m.flatMap byteBits).take n = (dataBits b).take n := by
        rw [List.take_append_of_le_length (by rw [length_byteBits]; omega), byteBits,
          List.take_append_of_le_length (show n ≤ 8 by omega)]
      obtain ⟨k', heard⟩ := hearAll_room whole ((dataBits b).take n) k { bytes := l, bits := [] }
        (by rw [List.length_nil, List.length_take]; exact (Nat.zero_add _).le.trans (min_le_right _ 8))
      exact ⟨k', _, by rw [bits]; exact heard⟩
    · rw [List.length_cons] at short
      have more : 0 < m.length := by omega
      have bits : (byteBits b ++ m.flatMap byteBits).take n = byteBits b ++ (m.flatMap byteBits).take (n - 9) := by
        rw [List.take_append, List.take_of_length_le (by rw [length_byteBits]; omega), length_byteBits]
      have begun : whole (l ++ [b]) = false :=
        early _ ⟨m, by simp⟩ (by simp only [List.length_append, List.length_cons, List.length_nil]; omega)
      obtain ⟨k', x, rest⟩ := ih (n - 9) 0 (l ++ [b]) (by omega) (by simpa using early)
      refine ⟨k', x, ?_⟩
      rw [bits, hearAll_append, hearAll_byteBits, begun]
      simp [rest]

/-- The bytes of a frame after its start pattern: complete at the closing bit of the last. -/
theorem hearAll_frameBits {whole : List Byte → Bool} {l : List Byte} {b : Byte}
    (early : ∀ p, p <+: l → whole p = false) (last : whole (l ++ [b]) = true) :
    Receiver.hearAll { ones := 0, part := some { bytes := [], bits := [] } } whole ((l ++ [b]).flatMap byteBits)
      = (.idle, [.frame (l ++ [b])]) := by
  rw [List.flatMap_append, hearAll_append, hearAll_bytes whole [] l early, List.flatMap_singleton, List.nil_append,
    hearAll_byteBits, if_pos last]
  rfl

/-- A new start pattern breaks the frame under way and opens another. -/
theorem hearAll_startPattern_within (whole : List Byte → Bool) (k : Nat) (x : PartFrame) (fits : x.bits.length ≤ 8) :
    Receiver.hearAll { ones := k, part := some x } whole startPattern
      = ({ ones := 0, part := some { bytes := [], bits := [] } }, [.broken]) := by
  obtain ⟨j, room⟩ := Nat.exists_eq_add_of_le fits
  have pattern : startPattern = List.replicate (j + 1) true ++ (List.replicate (14 - j + 1) true ++ [false]) := by
    rw [startPattern, ← List.append_assoc, List.replicate_append_replicate]
    congr 2
    omega
  have full : min 16 (min 16 (k + j + 1) + (14 - j) + 1) = 16 := by omega
  rw [pattern, hearAll_append, hearAll_ones_breaks whole j k x room.symm, hearAll_append, hearAll_ones, full]
  rfl

/-! ### Frames of the tally link -/

section
variable (r : Receiver) (f : LinkFrame)

theorem linkWhole_short {p : List Byte} (h : p.length < 15) : linkWhole p = false := beq_eq_false_iff_ne.mpr h.ne

theorem length_lineBits : (lineBits f.toList).length = 152 := by
  rw [lineBits, List.length_append, length_flatMap_byteBits, Vector.length_toList]
  rfl

/-- The bits of a link frame behind its start pattern. -/
theorem hearAll_linkBits :
    Receiver.hearAll { ones := 0, part := some { bytes := [], bits := [] } } linkWhole (f.toList.flatMap byteBits)
      = (.idle, [.frame f.toList]) := by
  obtain ⟨l, b, bytes⟩ : ∃ l b, f.toList = l ++ [b] :=
    ⟨_, _, (List.dropLast_append_getLast fun h => nomatch f.length_toList.symm.trans (congrArg List.length h)).symm⟩
  have size := f.length_toList
  rw [bytes, List.length_append, List.length_singleton] at size
  rw [bytes]
  exact hearAll_frameBits (fun p h => linkWhole_short (h.length_le.trans_lt (by omega)))
    (by rw [linkWhole, List.length_append, List.length_singleton, size]; rfl)

variable {r}

theorem hearAll_lineBits (idle : r.part = none) :
    r.hearAll linkWhole (lineBits f.toList) = (.idle, [.frame f.toList]) := by
  rw [lineBits, hearAll_append, hearAll_startPattern linkWhole r idle, hearAll_linkBits]
  rfl

theorem linkCommands_lineBits (idle : r.part = none) : linkCommands r (lineBits f.toList) = [.tallyFrame f] := by
  rw [linkCommands, hearAll_lineBits f idle]
  exact congrArg (fun x => [Instr.tallyFrame x]) (fitList_toList 0#8 f)

/-- A link frame that has begun and is not complete. -/
theorem hearAll_begun (idle : r.part = none) {n : Nat} (begun : 17 ≤ n) (short : n < (lineBits f.toList).length) :
    ∃ k x, x.bits.length ≤ 8
      ∧ r.hearAll linkWhole ((lineBits f.toList).take n) = ({ ones := k, part := some x }, []) := by
  rw [length_lineBits] at short
  have bits : (lineBits f.toList).take n = startPattern ++ (f.toList.flatMap byteBits).take (n - 17) := by
    rw [lineBits, List.take_append, List.take_of_length_le (show startPattern.length ≤ n from begun)]
    rfl
  obtain ⟨k, x, heard⟩ := hearAll_within linkWhole f.toList (n - 17) 0 [] (by rw [Vector.length_toList]; omega)
    fun p _ less => linkWhole_short (by simpa using less)
  have whole : r.hearAll linkWhole ((lineBits f.toList).take n) = ({ ones := k, part := some x }, []) := by
    rw [bits, hearAll_append, hearAll_startPattern linkWhole r idle]
    simp only [heard, List.nil_append]
  refine ⟨k, x, ?_, whole⟩
  have fits : r.Fits := fun y h => nomatch idle.symm.trans h
  exact (whole ▸ Receiver.fits_hearAll fits linkWhole ((lineBits f.toList).take n)) x rfl

theorem linkCommands_take (idle : r.part = none) {n : Nat} (short : n < (lineBits f.toList).length) :
    linkCommands r ((lineBits f.toList).take n) = [] := by
  by_cases begun : 17 ≤ n
  · obtain ⟨k, x, _, heard⟩ := hearAll_begun f idle begun short
    rw [linkCommands, heard]
    rfl
  · have bits : (lineBits f.toList).take n = startPattern.take n :=
      List.take_append_of_le_length (show n ≤ startPattern.length by change n ≤ 17; omega)
    have heard := congrArg Prod.snd (hearAll_startPattern linkWhole r idle)
    rw [← List.take_append_drop n startPattern, hearAll_append] at heard
    rw [linkCommands, bits, (List.append_eq_nil_iff.mp heard).1]
    rfl

/-- A 1 for the closing bit of a byte breaks the frame. -/
theorem linkCommands_badClosing (idle : r.part = none) {n : Nat} (h : n < 15) (d : Byte) :
    linkCommands r (lineBits (f.toList.take n) ++ dataBits d ++ [true]) = [.tallyFrameBroken] := by
  have early : ∀ p, p <+: [] ++ f.toList.take n → linkWhole p = false := fun p hp =>
    linkWhole_short (hp.length_le.trans_lt (by rw [List.nil_append, List.length_take]; omega))
  obtain ⟨k, data⟩ := hearAll_dataBits linkWhole 0 ([] ++ f.toList.take n) d
  have full : ¬ (dataBits d).length < 8 := Nat.lt_irrefl 8
  rw [linkCommands, lineBits, List.append_assoc, List.append_assoc, hearAll_append,
    hearAll_startPattern linkWhole r idle, hearAll_append, hearAll_bytes linkWhole [] _ early, hearAll_append, data]
  simp [Receiver.hearAll, Receiver.hear, PartFrame.hear, full, linkCommand]

/-- A new start pattern breaks a frame that has begun, and its own frame is heard. -/
theorem linkCommands_restart (idle : r.part = none) {n : Nat} (begun : 17 ≤ n)
    (short : n < (lineBits f.toList).length) (g : LinkFrame) :
    linkCommands r ((lineBits f.toList).take n ++ lineBits g.toList) = [.tallyFrameBroken, .tallyFrame g] := by
  obtain ⟨k, x, fits, heard⟩ := hearAll_begun f idle begun short
  rw [linkCommands, hearAll_append, heard, lineBits, hearAll_append, hearAll_startPattern_within linkWhole k x fits,
    hearAll_linkBits]
  exact congrArg (fun y => [Instr.tallyFrameBroken, .tallyFrame y]) (fitList_toList 0#8 g)

theorem pause_begun (idle : r.part = none) {n : Nat} (begun : 17 ≤ n) (short : n < (lineBits f.toList).length) :
    ((r.hearAll linkWhole ((lineBits f.toList).take n)).1.pause).2.map linkCommand = some .tallyLinkPauseTimeout := by
  obtain ⟨k, x, _, heard⟩ := hearAll_begun f idle begun short
  rw [heard]
  rfl

end

/-! ### No start pattern inside a frame -/

/-- Every ninth bit inside a frame is a closing 0. -/
theorem closing_bit (l : List Byte) (i : Nat) : (l.flatMap byteBits)[9 * i + 8]? ≠ some true := by
  induction l generalizing i with
  | nil => exact nofun
  | cons b l ih =>
    rw [List.flatMap_cons]
    cases i with
    | zero =>
      rw [List.getElem?_append_left (by decide : 9 * 0 + 8 < 9)]
      exact nofun
    | succ i =>
      rw [List.getElem?_append_right (show 9 ≤ 9 * (i + 1) + 8 by omega), length_byteBits,
        show 9 * (i + 1) + 8 - 9 = 9 * i + 8 by omega]
      exact ih i

theorem no_nine_ones (l : List Byte) : ¬ List.replicate 9 true <:+: l.flatMap byteBits := by
  rintro ⟨before, after, split⟩
  refine closing_bit l (before.length / 9) ?_
  have place : 9 * (before.length / 9) + 8 - before.length < (List.replicate 9 true).length := by
    rw [List.length_replicate]
    omega
  rw [← split, List.append_assoc, List.getElem?_append_right (by omega), List.getElem?_append_left place,
    List.getElem?_replicate, if_pos (by simpa using place)]

/-! ### What a frame that is turned away counts (R61 to R65) -/

section
variable {s : State}

theorem takeTally_stray {source : TallySource} {t : TallyContent}
    (h : ∀ (c : ChanId) (p : Profile), t.channel = c.val → (s.chan c).profile = some p → p.tallySource ≠ source) :
    s.takeTally source t = s.countStray := by
  unfold State.takeTally
  split
  · next small =>
    simp only
    split
    · rfl
    · next p isSet => exact if_neg (h ⟨t.channel, small⟩ p rfl isSet)
  · rfl

/-- A frame for a set channel that takes frames of its source reaches the sequence test. -/
theorem takeTally_of_source {source : TallySource} {t : TallyContent} {c : ChanId} {p : Profile}
    (chan : t.channel = c.val) (isSet : (s.chan c).profile = some p) (own : p.tallySource = source) :
    s.takeTally source t = s.takeFrame c p t := by
  have small : t.channel < 12 := chan ▸ c.isLt
  have here : (⟨t.channel, small⟩ : ChanId) = c := Fin.ext chan
  unfold State.takeTally
  rw [dif_pos small, here]
  simp only [isSet, own, if_true]

theorem takeLinkFrame_starting (f : LinkFrame) (h : s.port.partState = .starting) :
    s.takeLinkFrame f = s.countStray := if_pos h

theorem takeLinkFrame_ready (f : LinkFrame) (h : s.port.partState = .ready) :
    s.takeLinkFrame f = if linkCrcGood f then s.takeTally .link (linkContent f) else s.countTallyError :=
  if_neg (by rw [h]; exact nofun)

end

/-- Settles O22: each frame that is turned away changes one count, and a receiver that hears a link frame's bits is
inside the frame from its start pattern to its last bit. -/
theorem linkFramesTurnedAway : Obligations.LinkFramesTurnedAway := by
  refine ⟨?incomplete, fun f s => ?complete, fun r f idle => ⟨linkCommands_lineBits f idle, ?_,
    fun n short => linkCommands_take f idle short, fun n d few => linkCommands_badClosing f idle few d,
    fun n g begun short => ⟨linkCommands_restart f idle begun short g, pause_begun f idle begun short⟩⟩, no_nine_ones⟩
  case incomplete =>
    rintro c (rfl | rfl) s
    · exact ⟨_, rfl, rfl⟩
    · exact ⟨_, rfl, rfl⟩
  case complete =>
    have kept {u : State} (taken : s.takeLinkFrame f = u) : KeptAtEnd u ((s.takeLinkFrame f).endEvent s) :=
      taken ▸ kept_endEvent _ s
    refine ⟨_, rfl, fun starting => kept (takeLinkFrame_starting f starting), fun ready bad => ?_,
      fun ready good stray => ?_, fun c p ready good chan isSet own started same => ?_⟩
    · exact kept (by rw [takeLinkFrame_ready f ready, bad]; rfl)
    · exact kept (by rw [takeLinkFrame_ready f ready, good, if_pos rfl, takeTally_stray stray]; rfl)
    · refine kept ?_
      rw [takeLinkFrame_ready f ready, good, if_pos rfl, takeTally_of_source chan isSet own]
      exact if_pos ⟨started, same⟩
  · rw [hearAll_lineBits f idle]

end Sys2Proof.Machine
end

section
/-! SUPPORT. The taking of a posted ticket (R64, R75, R187), and O27: tickets that are turned away. -/

namespace Sys2Proof.Machine

/-! ### Kinds of no range (R186) -/

/-- A kind field that is the code of no kind is told by its range. -/
theorem decodeKind_of_noKind {w : Word} (h : ∀ x ∈ Kind.all, x.code.toNat ≠ w.toNat) :
    decodeKind w = if inPostedRange w then .postedUnknown else .unknown := by
  have none' : Kind.all.find? (fun k => k.code == w) = none :=
    List.find?_eq_none.mpr fun x mem same => h x mem (congrArg BitVec.toNat (beq_iff_eq.mp same))
  rw [decodeKind, none']

theorem decodeKind_postedUnknown {w : Word} (low : 3 ≤ w.toNat) (high : w.toNat ≤ 15) :
    decodeKind w = .postedUnknown := by
  have noKind : ∀ x ∈ Kind.all, x.code.toNat ≠ w.toNat := by
    intro x _ same
    cases x <;> simp only [Kind.code, BitVec.toNat_ofNat] at same <;> omega
  have posted : inPostedRange w = true := decide_eq_true ⟨by omega, high⟩
  rw [decodeKind_of_noKind noKind, if_pos posted]

theorem decodeKind_unknown {w : Word} (h : w.toNat = 0 ∨ 0x19 < w.toNat) : decodeKind w = .unknown := by
  have noKind : ∀ x ∈ Kind.all, x.code.toNat ≠ w.toNat := by
    intro x _ same
    cases x <;> simp only [Kind.code, BitVec.toNat_ofNat] at same <;> omega
  have outside : inPostedRange w = false := decide_eq_false fun posted => by omega
  rw [decodeKind_of_noKind noKind, outside, if_neg Bool.false_ne_true]

/-! ### The taking of a posted ticket -/

section
variable {s : State} {k : SlotId}

/-- A posted ticket just taken is freed as the host left it. -/
theorem freePosted_leftTaken (s : State) (k : SlotId) (kind target : Word) (a : Args) :
    (s.leftTaken k kind target a none none).freePosted k = s.leftFree k kind target a := by
  rw [State.freePosted, State.leftTaken, updSlot_updSlot]
  rfl

/-- TALLY_POST at its taking, with the end of its event (R64, R182). -/
theorem exec_tallyPost (h : s.Takes k) (target : Word) (a : Args) :
    exec (.tallyPost k target a) s
      = .next ((((s.leftTaken k 0x01#16 target a none none).takeTallyPost target a).freePosted k).endEvent
          (s.updSlot k fun x => { x with kind := 0x01#16, target := target, args := a })) :=
  congrArg Host.Outcome.next (post_of_takes h 0x01#16 target a)

/-- PURGE_POST at its taking, with the end of its event (R75, R182). -/
theorem exec_purgePost (h : s.Takes k) (target : Word) (a : Args) :
    exec (.purgePost k target a) s
      = .next ((((s.leftTaken k 0x02#16 target a none none).takePurge target a).freePosted k).endEvent
          (s.updSlot k fun x => { x with kind := 0x02#16, target := target, args := a })) :=
  congrArg Host.Outcome.next (post_of_takes h 0x02#16 target a)

/-- A posted ticket of no kind at its taking, with the end of its event (R187). -/
theorem exec_postedReject (h : s.Takes k) {kind : Word} (low : 3 ≤ kind.toNat) (high : kind.toNat ≤ 15) (target : Word)
    (a : Args) :
    exec (.postedReject k kind target a) s
      = .next ((s.leftFree k kind target a).rejectedOne.endQuiet
          (s.updSlot k fun x => { x with kind := kind, target := target, args := a })) := by
  refine congrArg Host.Outcome.next ((post_of_takes h kind target a).trans ?_)
  rw [State.applyTicket, State.endTaking, decodeKind_postedUnknown low high, ← freePosted_leftTaken]
  rfl

/-- A ticket of no kind at its taking, with the end of its event (R186). -/
theorem exec_badKind (h : s.Takes k) {kind : Word} (noKind : kind.toNat = 0 ∨ 0x19 < kind.toNat) (target : Word)
    (a : Args) :
    exec (.badKind k kind target a) s
      = .next ((s.leftAnswered k kind target a (plainAnswer .badKind)).endQuiet
          (s.updSlot k fun x => { x with kind := kind, target := target, args := a })) := by
  refine congrArg Host.Outcome.next ((post_of_takes h kind target a).trans ?_)
  rw [State.applyTicket, State.endTaking, decodeKind_unknown noKind, ← writeAnswer_leftTaken]

/-- A SELF_TEST at its taking, with the end of its event (R202). -/
theorem exec_selfTestBadCode (h : s.Takes k) (code bay : Byte) :
    exec (.selfTestBadCode k code bay) s
      = .next (((s.leftTaken k 0x18#16 0#16 (selfTestArgs code bay) none none).takeSelfTest k
            (selfTestArgs code bay)).endEvent
          (s.updSlot k fun x => { x with kind := 0x18#16, target := 0#16, args := selfTestArgs code bay })) :=
  congrArg Host.Outcome.next (post_of_takes h 0x18#16 0#16 (selfTestArgs code bay))

/-! ### Posted tickets that are turned away -/

theorem takeTallyPost_rejected {target : Word} {a : Args} (h : postContent target a = none) :
    s.takeTallyPost target a = s.countReject := by
  rw [State.takeTallyPost, h]

theorem takeTallyPost_content {target : Word} {a : Args} {x : TallyContent} (h : postContent target a = some x) :
    s.takeTallyPost target a = s.takeTally .ticket x := by
  rw [State.takeTallyPost, h]

theorem targetChan_of_eq {target : Word} {c : ChanId} (h : target.toNat = c.val) : targetChan target = some c := by
  have small : target.toNat < 12 := h ▸ c.isLt
  rw [targetChan, dif_pos small]
  exact congrArg some (Fin.ext h)

theorem takePurge_of_chan {target : Word} {a : Args} {c : ChanId} (h : target.toNat = c.val) :
    s.takePurge target a = if (s.chan c).profile.isNone ∨ argNum a 0 2 = 0 then s.countReject
      else (s.takeVolume c (argNum a 0 2 * 10000000)).startSettle c := by
  rw [State.takePurge, targetChan_of_eq h]

/-- A purge for no channel, of nothing, or for an unset channel (R75). -/
theorem takePurge_rejected {target : Word} {a : Args}
    (h : 11 < target.toNat ∨ argNum a 0 2 = 0 ∨ ∃ c : ChanId, target.toNat = c.val ∧ (s.chan c).profile = none) :
    s.takePurge target a = s.countReject := by
  by_cases large : 11 < target.toNat
  · rw [State.takePurge, targetChan, dif_neg (by omega)]
  · have chan : target.toNat = (⟨target.toNat, by omega⟩ : ChanId).val := rfl
    rw [takePurge_of_chan chan, if_pos]
    obtain high | nothing | ⟨c, named, unset⟩ := h
    · exact absurd high large
    · exact .inr nothing
    · have same : (⟨target.toNat, by omega⟩ : ChanId) = c := Fin.ext named
      exact .inl (by rw [same, unset]; rfl)

end

/-- The first argument of a SELF_TEST ticket is its code. -/
theorem argByte_selfTestArgs (code bay : Byte) : argByte (selfTestArgs code bay) 0 = code := by
  simp [argByte, selfTestArgs, fitList, byteAt]

theorem takeSelfTest_badCode (s : State) (k : SlotId) {code : Byte} (bay : Byte)
    (h : code.toNat ∉ [2, 3, 5, 6, 9]) :
    s.takeSelfTest k (selfTestArgs code bay) = s.writeAnswer k (plainAnswer .badArgument) := by
  have other : code ∉ [2#8, 3#8, 5#8, 6#8, 9#8] := fun mem => h (List.mem_map_of_mem (f := BitVec.toNat) mem)
  have none' : namesTest code = false := Bool.eq_false_iff.mpr fun named => other (List.contains_iff_mem.mp named)
  have loop : code ≠ 9#8 := fun same => other (by simp [same])
  rw [State.takeSelfTest, argByte_selfTestArgs, if_neg loop, State.takePlainTest, if_pos (.inl none')]

/-- Settles O27: each ticket is turned away before it reaches a channel, a bay or the store. -/
theorem ticketsTurnedAway : Obligations.TicketsTurnedAway := by
  refine ⟨fun k target a s takes => ⟨fun bad => ⟨_, exec_tallyPost takes target a, ?_⟩,
      fun bad => ⟨_, exec_purgePost takes target a, ?_⟩,
      fun kind low high => ⟨_, exec_postedReject takes low high target a, rfl⟩⟩,
    fun k target a x s takes content stray => ⟨_, exec_tallyPost takes target a, ?_⟩,
    fun k s takes => ⟨fun kind target a noKind => ⟨_, exec_badKind takes noKind target a, rfl⟩,
      fun code bay bad => ⟨_, exec_selfTestBadCode takes code bay, ?_⟩⟩⟩
  · rw [takeTallyPost_rejected bad, ← freePosted_leftTaken]
    exact kept_endEvent _ _
  · rw [takePurge_rejected (s := s.leftTaken k 0x02#16 target a none none) bad, ← freePosted_leftTaken]
    exact kept_endEvent _ _
  · rw [takeTallyPost_content content, takeTally_stray (s := s.leftTaken k 0x01#16 target a none none) stray,
      ← freePosted_leftTaken]
    exact kept_endEvent _ _
  · rw [takeSelfTest_badCode _ k bay bad, writeAnswer_leftTaken]
    exact kept_endEvent _ _

end Sys2Proof.Machine
end

section
/-! SUPPORT. The three commands that bring a volume to a channel: the state the volume is charged in, and the charge
behind each of them (R63 to R65, R70, R75). -/

namespace Sys2Proof.Machine

/-! ### Updates of one slot and one channel -/

theorem updSlot_id (s : State) (k : SlotId) : s.updSlot k id = s := by
  have same : updAt s.port.slots k id = s.port.slots := by simp [updAt]
  simp only [State.updSlot, State.updPort, same]

theorem updChan_id (s : State) (c : ChanId) : s.updChan c id = s := by
  have same : updAt s.channels c id = s.channels := by simp [updAt]
  simp only [State.updChan, same]

theorem updChan_congr {s : State} {c : ChanId} {f g : Channel → Channel} (h : f (s.chan c) = g (s.chan c)) :
    s.updChan c f = s.updChan c g := by
  have same : f s.channels[c] = g s.channels[c] := h
  simp only [State.updChan, updAt, same]

/-- What touches a channel's feed touches no slot. -/
theorem FeedTouches.updSlot {c : ChanId} {s t : State} (h : FeedTouches c s t) (k : SlotId) (f : Slot → Slot) :
    FeedTouches c (s.updSlot k f) (t.updSlot k f) :=
  { h with port := congrArg (fun p : Port => { p with slots := updAt p.slots k f }) h.port }

/-- A touched state is, at the end of the event, the one it came from with its own bays, channels and entries. -/
theorem FeedTouches.keptAtEnd {c : ChanId} {u w x : State} (h : FeedTouches c u w)
    (beside : x = { u with bays := x.bays, channels := x.channels, history := x.history })
    (bays : w.bays = x.bays) (channels : w.channels = x.channels)
    (live : w.history.live.map Entry.content = x.history.live.map Entry.content)
    (counts : w.history.useCounter = x.history.useCounter ∧ w.history.evictions = x.history.evictions
      ∧ w.history.untracked = x.history.untracked) : KeptAtEnd x w := by
  rw [beside]
  constructor
  case pending => exact h.pending
  case outside => exact congrArg Outside.settled h.outside
  case flash => exact h.flash
  case port => exact (congrArg Port.settled h.port :)
  case slots => intro k _; exact (congrArg (fun p : Port => p.slots[k]) h.port :)
  case notices => exact h.notices
  case bays => intro b; exact congrArg (fun l : Vector Bay 24 => (l[b]).settled) bays
  case auth => exact h.auth
  case latch => exact h.latch
  case channels => exact channels
  case tally => exact h.tally
  case engines => intro e; exact congrArg (fun l : Vector Engine 4 => (l[e]).settled) h.engines
  case inFlight => intro e _; exact congrArg (fun l : Vector Engine 4 => l[e]) h.engines
  case history => exact live
  case counts => exact counts
  case store => exact congrArg Store.settled h.store
  case op => intro _; exact congrArg Store.op h.store
  case tickets => intro i mem; exact h.store ▸ mem
  case selfTest => exact h.selfTest

/-! ### The state a volume is charged in -/

/-- A channel context but for what an accepted frame leaves in it (R65, R67). -/
def Channel.unframed (ch : Channel) : Channel :=
  { ch with gapCount := 0, lastSeq := 0#16, seqStarted := false, lastTemp := 0, lastFactor := 0 }

/-- `x` is `s` but for a slot and the frame's figures of channel `c`, so a volume meets the same feed in it. -/
structure SameFeed (c : ChanId) (s x : State) : Prop where
  bays    : x.bays = s.bays
  chan    : (x.chan c).unframed = (s.chan c).unframed
  chans   : ∀ y, y ≠ c → x.chan y = s.chan y
  outside : x.outside = s.outside
  flash   : x.flash = s.flash
  auth    : x.auth = s.auth
  latch   : x.latch = s.latch
  history : x.history = s.history
  store   : x.store = s.store

theorem sameFeed_updSlot (c : ChanId) (s : State) (k : SlotId) (f : Slot → Slot) : SameFeed c s (s.updSlot k f) :=
  ⟨rfl, rfl, fun _ _ => rfl, rfl, rfl, rfl, rfl, rfl, rfl⟩

theorem SameFeed.refl (c : ChanId) (s : State) : SameFeed c s s :=
  ⟨rfl, rfl, fun _ _ => rfl, rfl, rfl, rfl, rfl, rfl, rfl⟩

/-- A frame's figures put into the channel (R65, R67). -/
theorem SameFeed.accept {c : ChanId} {s x : State} (h : SameFeed c s x) (p : Profile) (t : TallyContent) :
    SameFeed c s (x.updChan c fun ch => ch.accept p t) :=
  { h with
    chan := by rw [State.chan_updChan_self]; exact h.chan
    chans := fun y other => (State.chan_updChan_other x c y _ other).trans (h.chans y other) }

section
variable {c : ChanId} {s x : State} (h : SameFeed c s x)
include h

theorem SameFeed.bay (b : BayId) : x.bay b = s.bay b := by simp only [State.bay, h.bays]

theorem SameFeed.profile (y : ChanId) : (x.chan y).profile = (s.chan y).profile := by
  by_cases here : y = c
  · rw [here]
    exact congrArg (·.profile) h.chan
  · rw [h.chans y here]

theorem SameFeed.feedingBay : x.feedingBay c = s.feedingBay c := feedingBay_congr (congrArg (·.feedState) h.chan)

theorem SameFeed.total : (x.chan c).total = (s.chan c).total := congrArg (·.total) h.chan

theorem SameFeed.residue : (x.chan c).residue = (s.chan c).residue := congrArg (·.residue) h.chan

theorem SameFeed.charged : (x.chan c).charged = (s.chan c).charged := congrArg (·.charged) h.chan

theorem SameFeed.unbooked : (x.chan c).unbooked = (s.chan c).unbooked := congrArg (·.unbooked) h.chan

theorem SameFeed.settleEnd : (x.chan c).settleEnd = (s.chan c).settleEnd := congrArg (·.settleEnd) h.chan

theorem SameFeed.merit : SameMerit s x := ⟨h.latch, h.profile, fun b => congrArg Bay.merit (h.bay b)⟩

theorem SameFeed.eligible (b : BayId) : x.eligible b = s.eligible b :=
  h.merit.eligible b (by rw [h.bay b]) (by rw [h.bay b])

end

/-! ### The three commands -/

/-- What is left to do of a channel's settle interval once the volume is charged: nothing, or its start (R75). -/
structure SettlesTo (g : Channel → Channel) (stood : Option Nat) (e : Option Nat) : Prop where
  only : ∀ ch, g ch = { ch with settleEnd := (g ch).settleEnd }
  ends : ∀ ch, ch.settleEnd = stood → (g ch).settleEnd = e

theorem startSettle_eq (s : State) (c : ChanId) :
    s.startSettle c = s.updChan c fun ch => { ch with settleEnd := s.settleEndFrom c } := by
  refine updChan_congr ?_
  have started := chan_startSettle s c
  rw [State.startSettle, State.chan_updChan_self] at started
  exact started

theorem takeFrame_accepted {s : State} {c : ChanId} {source : TallySource} {p : Profile} {t : TallyContent}
    (h : (s.chan c).accepts source t p) :
    s.takeFrame c p t = (s.updChan c fun ch => ch.accept p t).takeVolume c (frameVolume p t) := by
  obtain ⟨_, _, fresh⟩ := h
  exact if_neg fresh

theorem takeTally_accepted {s : State} {c : ChanId} {source : TallySource} {p : Profile} {t : TallyContent}
    (chan : t.channel = c.val) (h : (s.chan c).accepts source t p) :
    s.takeTally source t = (s.updChan c fun ch => ch.accept p t).takeVolume c (frameVolume p t) := by
  obtain ⟨isSet, own, fresh⟩ := h
  rw [takeTally_of_source chan isSet own, takeFrame_accepted ⟨isSet, own, fresh⟩]

/-- `w` is what a command that brings a volume makes of `s` before the event ends, and `u` the state the statements
compare it with: the volume charged in a state `x` with the feed of `s`, and a slot freed. -/
structure Charges (s u w : State) (c : ChanId) (v : Nat) (e : Option Nat) (x : State) (k : SlotId) (f : Slot → Slot)
    (g : Channel → Channel) : Prop where
  feed    : SameFeed c s x
  made    : u = x.updSlot k f
  left    : w = ((x.takeVolume c v).updChan c g).updSlot k f
  settles : SettlesTo g (s.chan c).settleEnd e

/-- Each of the commands that bring a volume charges it and ends its event (R64, R65, R70, R75). -/
theorem exec_brings {s u : State} {cmd : Instr} {c : ChanId} {v : Nat} {e : Option Nat} (h : Brings s cmd c v e u) :
    ∃ w x k f g before, exec cmd s = .next (w.endEvent before) ∧ Charges s u w c v e x k f g ∧ SameFeed c s before := by
  have unsettled : SettlesTo id (s.chan c).settleEnd (s.chan c).settleEnd := ⟨fun _ => rfl, fun _ same => same⟩
  cases h with
  | frame f c p ready good chan accepted =>
    refine ⟨_, s.updChan c fun ch => ch.accept p (linkContent f), 0, id, id, s, rfl,
      ⟨(SameFeed.refl c s).accept p _, (updSlot_id _ 0).symm, ?_, unsettled⟩, .refl c s⟩
    rw [takeLinkFrame_ready f ready, good, if_pos rfl, takeTally_accepted chan accepted, updSlot_id, updChan_id]
    rfl
  | post k target a t c p takes inRange chan accepted =>
    refine ⟨_, (s.leftTaken k 0x01#16 target a none none).updChan c fun ch => ch.accept p t, k,
      fun x => { x with hand := .free, copy := none }, id, _, exec_tallyPost takes target a,
      ⟨(sameFeed_updSlot c s k _).accept p t, ?_, ?_, unsettled⟩, sameFeed_updSlot c s k _⟩
    · rw [← freePosted_leftTaken]
      rfl
    · rw [takeTallyPost_content inRange,
        takeTally_accepted (s := s.leftTaken k 0x01#16 target a none none) chan accepted, updChan_id]
      rfl
  | purge k target a c p takes chan isSet some' =>
    refine ⟨_, s.leftTaken k 0x02#16 target a none none, k, fun x => { x with hand := .free, copy := none },
      fun ch => { ch with settleEnd := settleFrom s.outside.now p }, _, exec_purgePost takes target a,
      ⟨sameFeed_updSlot c s k _, (freePosted_leftTaken ..).symm, ?_, fun _ => rfl, fun _ _ => rfl⟩,
      sameFeed_updSlot c s k _⟩
    have unset : ¬ (((s.leftTaken k 0x02#16 target a none none).chan c).profile.isNone ∨ argNum a 0 2 = 0) := by
      rintro (none' | nothing)
      · exact nomatch (congrArg Option.isNone isSet).symm.trans none'
      · exact some' nothing
    have touched := touches_takeVolume (s.leftTaken k 0x02#16 target a none none) c (argNum a 0 2 * 10000000)
    have settle : ((s.leftTaken k 0x02#16 target a none none).takeVolume c (argNum a 0 2 * 10000000)).settleEndFrom c
        = settleFrom s.outside.now p := by
      rw [State.settleEndFrom, touched.profile, touched.outside]
      exact congrArg (Option.bind · _) isSet
    rw [takePurge_of_chan chan, if_neg unset, startSettle_eq, settle]
    rfl

section
variable {s u w : State} {c : ChanId} {v : Nat} {e : Option Nat} {x : State} {k : SlotId} {f : Slot → Slot}
  {g : Channel → Channel} (h : Charges s u w c v e x k f g)
include h

theorem Charges.touches : FeedTouches c u w := by
  rw [h.made, h.left]
  refine ((touches_takeVolume x c v).trans (touches_updChan _ c g ?_)).updSlot k f
  rw [h.settles.only]

theorem Charges.chan : w.chan c = g ((x.takeVolume c v).chan c) := by
  rw [h.left]
  exact State.chan_updChan_self ..

theorem Charges.bays : w.bays = (x.takeVolume c v).bays := by
  rw [h.left]
  rfl

theorem Charges.history : w.history = (x.takeVolume c v).history := by
  rw [h.left]
  rfl

end

end Sys2Proof.Machine
end

section
/-! O23: a volume at a CLOSED channel, and a total at its largest value. -/

namespace Sys2Proof.Machine

/-- A channel changes beside a slot. -/
theorem updChan_updSlot (s : State) (k : SlotId) (f : Slot → Slot) (c : ChanId) (g : Channel → Channel) :
    (s.updSlot k f).updChan c g = (s.updChan c g).updSlot k f := rfl

theorem SettlesTo.eq {g : Channel → Channel} {stood e : Option Nat} (h : SettlesTo g stood e) {ch : Channel}
    (stands : ch.settleEnd = stood) : g ch = { ch with settleEnd := e } := by
  rw [h.only ch, h.ends ch stands]

theorem addTotal_of_lt {ch : Channel} {v : Nat} (room : ch.total + v < top64) :
    ch.addTotal v = { ch with total := ch.total + v } := by
  have below : decide (top64 ≤ ch.total + v) = false := decide_eq_false (Nat.not_le.mpr room)
  rw [Channel.addTotal, below, Bool.or_false, satAdd, min_eq_right room.le]

theorem addUnbooked_of_lt {ch : Channel} {v : Nat} (room : ch.unbooked + v < top64) :
    ch.addUnbooked v = { ch with unbooked := ch.unbooked + v } := by
  have below : decide (top64 ≤ ch.unbooked + v) = false := decide_eq_false (Nat.not_le.mpr room)
  rw [Channel.addUnbooked, below, Bool.or_false, satAdd, min_eq_right room.le]

/-- A sum past the largest value leaves total at it and sets saturated (R70). -/
theorem addTotal_past {ch : Channel} {v : Nat} (past : top64 < ch.total + v) :
    (ch.addTotal v).total = top64 ∧ (ch.addTotal v).saturated = true :=
  ⟨min_eq_left past.le, by rw [Channel.addTotal, decide_eq_true past.le, Bool.or_true]⟩

/-- A volume past the largest total, whatever the feed. -/
theorem takeVolume_saturates {s : State} {c : ChanId} {v : Nat} (past : top64 < (s.chan c).total + v) :
    ((s.takeVolume c v).chan c).total = top64 ∧ ((s.takeVolume c v).chan c).saturated = true := by
  obtain ⟨total, saturated⟩ := addTotal_past past
  cases feeding : s.feedingBay c with
  | none =>
    rw [takeVolume_closed feeding, State.chan_updChan_self]
    exact ⟨total, by rw [Channel.addUnbooked, saturated, Bool.true_or]⟩
  | some b =>
    obtain rfl := chanOf_feedingBay s c b feeding
    rw [takeVolume_fed feeding]
    obtain ⟨kept, up, _⟩ := reckons_chargeFeeding
      (s.updChan (chanOf b) fun ch => { ch.addTotal v with residue := ch.residue + v }) b (chanOf b)
    rw [State.chan_updChan_self] at kept up
    exact ⟨kept.trans total, up saturated⟩

section
variable {s u w : State} {c : ChanId} {v : Nat} {e : Option Nat} {x : State} {k : SlotId} {f : Slot → Slot}
  {g : Channel → Channel} (h : Charges s u w c v e x k f g)
include h

/-- The volume of a command at a CLOSED channel. -/
theorem Charges.closed (closed : s.feedingBay c = none) (total : (s.chan c).total + v < top64)
    (unbooked : (s.chan c).unbooked + v < top64) :
    w = u.updChan c fun ch =>
      { ch with total := ch.total + v, unbooked := ch.unbooked + v, settleEnd := e } := by
  have added : ((x.chan c).addTotal v).addUnbooked v
      = { x.chan c with total := (x.chan c).total + v, unbooked := (x.chan c).unbooked + v } := by
    rw [addTotal_of_lt (h.feed.total ▸ total)]
    exact addUnbooked_of_lt (h.feed.unbooked ▸ unbooked)
  rw [h.left, h.made, takeVolume_closed (h.feed.feedingBay.trans closed), updChan_updChan, updChan_updSlot]
  refine congrArg (State.updSlot · k f) (updChan_congr ?_)
  rw [Function.comp_apply, added]
  exact h.settles.eq h.feed.settleEnd

theorem Charges.saturates (past : top64 < (s.chan c).total + v) :
    (w.chan c).total = top64 ∧ (w.chan c).saturated = true := by
  rw [h.chan, h.settles.only]
  exact takeVolume_saturates (h.feed.total ▸ past)

end

/-- Settles O23: without a feed the volume goes to total and unbooked alone, and a sum past the largest value stays at
it through the charge and the end of the event. -/
theorem volumeWithoutFeedIsUnbooked : Obligations.VolumeWithoutFeedIsUnbooked := by
  refine ⟨fun s u cmd c v e brings closed total unbooked => ?_, fun s u cmd c v e brings past => ?_⟩
  · obtain ⟨w, x, k, f, g, before, run, charges, _⟩ := exec_brings brings
    exact ⟨_, run, charges.closed closed total unbooked ▸ kept_endEvent w before⟩
  · obtain ⟨w, x, k, f, g, before, run, charges, _⟩ := exec_brings brings
    refine ⟨_, run, ?_⟩
    rw [State.chan, (kept_endEvent w before).channels]
    exact charges.saturates past

end Sys2Proof.Machine
end

section
/-! SUPPORT. A charge that leaves the feeding bay feeding: what it makes of bay, channel and entry, and what the store
controller makes of the entry's item and of the record being written (R49, R50, R72, R73, R162). -/

namespace Sys2Proof.Machine

/-! ### The bays and channels one by one -/

theorem bays_ext {s t : State} (h : ∀ b, t.bay b = s.bay b) : t.bays = s.bays :=
  Vector.ext fun i small => h ⟨i, small⟩

theorem channels_ext {s t : State} (h : ∀ c, t.chan c = s.chan c) : t.channels = s.channels :=
  Vector.ext fun i small => h ⟨i, small⟩

/-! ### A conversion that the book outlasts -/

section
variable {s : State} {b : BayId}

/-- A conversion at a bay leaves its twin's eligibility. -/
theorem convert_twin (s : State) (b : BayId) :
    (s.convert (chanOf b) b).eligible (twinOf b) = s.eligible (twinOf b) := by
  have twin := bay_convert_other s (chanOf b) b _ (twinOf_ne b)
  have merit := (touches_convert s _ b rfl).merits (aside_convert s _ b)
  exact merit.eligible _ (by rw [twin]) (by rw [twin])

/-- Where the marks applied leave the book above 0 and the twin cannot take over, a charge is a conversion (R100). -/
theorem chargeFeeding_stays (left : s.marksApplied (chanOf b) b < (s.bay b).book)
    (feeds : s.feedingBay (chanOf b) = some b) (unfit : s.eligible (twinOf b) = false) :
    s.chargeFeeding b = s.convert (chanOf b) b := by
  obtain ⟨burn, bay⟩ := bay_convert_self s (chanOf b) b
  have book : ((s.convert (chanOf b) b).bay b).book ≠ 0 := by
    rw [bay]
    exact Nat.sub_ne_zero_of_lt left
  have still := (convert_twin s b).trans unfit
  have open' : (s.convert (chanOf b) b).feedingBay (chanOf b) = some b :=
    (feedingBay_congr (by rw [chan_convert]; rfl)).trans feeds
  unfold State.chargeFeeding
  split
  · rfl
  · obtain ⟨empty, _, _⟩ | ⟨empty, _, _⟩ | ⟨_, met, _⟩ | ⟨_, after⟩ := afterMarks_cases (s.convert (chanOf b) b) b
    · exact absurd empty book
    · exact absurd empty book
    · exact absurd (thresholdMet_twin met open') (by rw [still]; exact Bool.false_ne_true)
    · rw [after]

theorem bay_chargeMarks (s : State) (c : ChanId) (b : BayId) :
    (s.chargeMarks c b).bay b = { s.bay b with
      book := (s.bay b).book - s.marksApplied c b, pending := (s.bay b).pending + s.marksApplied c b } :=
  State.bay_updBay_self ..

theorem bay_followBook (s : State) (b x : BayId) (before : Nat) : (s.followBook b before).bay x = s.bay x := by
  simp only [State.bay, followBook_bays]

/-- The bay before a LEVEL notice at a conversion that applies marks. -/
theorem bay_converted (s : State) (c : ChanId) (b : BayId) (before : Nat) :
    (((s.chargeMarks c b).followBook b before).raiseBurnWant b).bay b
      = { (s.chargeMarks c b).bay b with
          wants := { (s.bay b).wants with burn := (s.bay b).wants.burn || ((s.chargeMarks c b).bay b).burnDue } } := by
  rw [raiseBurnWant_eq, State.bay_updBay_self, bay_followBook, bay_chargeMarks]

/-- The bay charged at a conversion, its burn want with it (R73, R83). -/
theorem bay_convert_charged (s : State) (c : ChanId) (b : BayId) (decided : (s.bay b).state.decided = true) :
    (s.convert c b).bay b
      = { s.bay b with
          book := (s.bay b).book - s.marksApplied c b, pending := (s.bay b).pending + s.marksApplied c b
          wants := { (s.bay b).wants with
            burn := (s.bay b).wants.burn || (decide (0 < s.marksApplied c b) && (s.bay b).verdict.burns) } } := by
  rw [convert_eq]
  split
  · next nothing => simp [bay_chargeMarks, nothing]
  · next some' =>
    have due : ((s.chargeMarks c b).bay b).burnDue = (decide (0 < s.marksApplied c b) && (s.bay b).verdict.burns) := by
      have applied := Nat.pos_of_ne_zero some'
      have pending : 0 < (s.bay b).pending + s.marksApplied c b := Nat.add_pos_right _ applied
      simp [bay_chargeMarks, Bay.burnDue, decided, applied, pending]
    rw [State.bay, levelCrossing_bays, ← State.bay, bay_converted, due, bay_chargeMarks]

end

/-! ### The entry of the bay charged (R41, R50) -/

theorem followBook_entry {s : State} {b : BayId} {serial : Serial} (own : (s.bay b).entry = some serial)
    (before : Nat) : s.followBook b before
      = if (s.bay b).book / 16 < before / 16 then
          (s.updEntry serial fun e => { e with book := (s.bay b).book }).makeDue serial
        else s.updEntry serial fun e => { e with book := (s.bay b).book } := by
  unfold State.followBook
  rw [own]

/-- The entries after a bay's book has changed: the bay's own follows, and may be due. -/
theorem live_followBook (s : State) (b : BayId) (before : Nat) :
    (s.followBook b before).history.live.map Entry.content
      = (s.history.follow (s.bay b).entry (s.bay b).book).live.map Entry.content := by
  cases own : (s.bay b).entry with
  | none =>
    rw [State.followBook, own]
    simp [History.follow]
  | some serial =>
    have live : (s.updEntry serial fun e => { e with book := (s.bay b).book }).history.live
        = (s.history.follow (some serial) (s.bay b).book).live := by
      simp only [State.updEntry, State.updHist, History.follow, Option.some.injEq]
    rw [followBook_entry own]
    split
    · rw [(kept_makeDue _ serial).history, live]
    · rw [live]

/-- The history after a conversion that applies marks. -/
theorem history_convert {s : State} {c : ChanId} {b : BayId} (some' : s.marksApplied c b ≠ 0) :
    (s.convert c b).history = ((s.chargeMarks c b).followBook b (s.bay b).book).history := by
  rw [convert_eq, if_neg some', raiseBurnWant_eq]
  unfold State.levelCrossing
  split
  · rfl
  · split <;> rfl

theorem history_convert_none {s : State} {c : ChanId} {b : BayId} (nothing : s.marksApplied c b = 0) :
    (s.convert c b).history = s.history := by
  rw [convert_eq, if_pos nothing]
  rfl

/-- LEVEL where a conversion takes the book across low_marks (R94). -/
theorem notified_convert {s : State} {b : BayId} {p : Profile} (some' : s.marksApplied (chanOf b) b ≠ 0)
    (isSet : s.profileOf b = some p) (above : p.lowMarks < (s.bay b).book)
    (below : (s.bay b).book - s.marksApplied (chanOf b) b ≤ p.lowMarks) :
    (s.convert (chanOf b) b).notified .level = true := by
  have kept := (touches_convert s (chanOf b) b rfl).profile
  rw [convert_eq, if_neg some', State.chan, levelCrossing_channels] at kept
  rw [convert_eq, if_neg some', State.levelCrossing, State.profileOf, State.chan, kept, ← State.profileOf, isSet]
  simp only
  rw [if_pos, notified_raise]
  · exact Bool.or_true _
  · rw [bay_converted, bay_chargeMarks]
    exact ⟨above, below⟩

/-! ### What the parts of the store controller leave -/

theorem mode_degrade (s : State) : s.degrade.store.mode = .degraded := by
  unfold State.degrade
  split
  · next degraded => exact degraded
  · rfl

theorem mode_startStore (s : State) : s.startStore.store.mode = s.store.mode :=
  startStore_keeps (·.store.mode) (fun _ _ h => h _) (fun _ _ _ => rfl) (fun _ _ _ => rfl) s

theorem history_startStore (s : State) : s.startStore.history = s.history :=
  startStore_keeps (·.history) (fun _ _ _ => rfl) (fun _ _ _ => rfl) (fun _ _ _ => rfl) s

theorem noteChange_leaves (s before : State) :
    (s.noteChange before).history = s.history ∧ (s.noteChange before).store.mode = s.store.mode := by
  obtain h | h := noteChange_cases s before <;> rw [h] <;> exact ⟨rfl, rfl⟩

theorem joining_startWaiting (s : State) : s.history.joining ⊆ s.startWaiting.history.joining := by
  unfold State.startWaiting
  split
  · obtain ⟨_, _, joining⟩ := reclaimCheck_leaves ((s.updStore fun x => { x with mode := .waiting }).raise .store)
    exact joining
  · exact fun _ h => h

/-- Short of a degradation the stalled test does nothing. -/
theorem watchJournal_eq {s : State} (mode : s.watchJournal.store.mode ≠ .degraded) :
    s.watchJournal = s.startWaiting := by
  rw [State.watchJournal, State.stalledTest] at mode ⊢
  split at mode
  · exact absurd (mode_degrade _) mode
  · next stalls => rw [if_neg stalls]

/-! ### The record being written (R49, R162) -/

/-- Short of a degradation the store controller's tests leave what has been noted. -/
theorem changed_watchJournal {s : State} (mode : s.watchJournal.store.mode ≠ .degraded) :
    s.watchJournal.store.changed = s.store.changed := by
  have reclaim (u : State) : u.reclaimCheck.store.changed = u.store.changed := by
    unfold State.reclaimCheck
    split
    · rfl
    · split
      · rfl
      · rw [store_makeAllDue]
        rfl
  have waiting : s.startWaiting.store.changed = s.store.changed := by
    unfold State.startWaiting
    split
    · exact reclaim _
    · rfl
  rw [watchJournal_eq mode, waiting]

/-- While an operation is in flight the flash starts none. -/
theorem startStore_busy {s : State} (busy : s.store.op ≠ none) : s.startStore = s :=
  if_pos (.inl (Option.isSome_iff_ne_none.mpr busy))

/-- A change of the entry whose record is being written is remembered at the end of the event, unless the journal is
degraded at it. -/
theorem changed_advanceStore {s before : State} {j : SecId} {slot : Nat} {r : JournalRecord}
    (op : s.store.op = some (.append j slot r))
    (differs : s.entryContent r.serial r.seq ≠ before.entryContent r.serial r.seq)
    (mode : (s.advanceStore before).store.mode ≠ .degraded) : (s.advanceStore before).store.changed = true := by
  have writing : s.store.writing = some r := by rw [Store.writing, op]
  have noted := noteChange_sets writing differs
  have kept := ((kept_noteChange s before).trans (kept_watchJournal _)).trans (kept_flushJoining _)
  have started : s.advanceStore before = (s.noteChange before).watchJournal.flushJoining :=
    startStore_busy (by rw [kept.op (by rw [op]; nofun), op]; nofun)
  rw [started] at mode ⊢
  exact (changed_watchJournal (s := s.noteChange before) mode).trans noted

/-! ### The entry's item (R49) -/

/-- An item that joined is in the FIFO once the store controller has run, unless the journal is degraded at it. -/
theorem joined_advanceStore {s before : State} {i : DueItem} (joins : i ∈ s.history.joining)
    (mode : (s.advanceStore before).store.mode ≠ .degraded) : i ∈ (s.advanceStore before).history.fifo := by
  rw [State.advanceStore, mode_startStore] at mode
  rw [State.advanceStore, history_startStore]
  obtain ⟨history, _⟩ := noteChange_leaves s before
  have watched : i ∈ (s.noteChange before).watchJournal.history.joining := by
    rw [watchJournal_eq mode]
    exact joining_startWaiting _ (history ▸ joins)
  exact List.mem_append_right _ ((sortBy_perm _ _).mem_iff.mpr watched)

/-- With nothing that waits and nothing that joins the store controller leaves the history table. -/
theorem history_advanceStore_quiet {s before : State} (mode : s.store.mode = .normal) (fifo : s.history.fifo = [])
    (joining : s.history.joining = []) : (s.advanceStore before).history = s.history := by
  obtain ⟨history, mode'⟩ := noteChange_leaves s before
  have waiting : (s.noteChange before).startWaiting = s.noteChange before := by
    refine if_neg fun ⟨_, waits, _⟩ => ?_
    rw [State.itemsWait, history, fifo, joining] at waits
    exact nomatch waits
  have stalled : (s.noteChange before).stalledTest = s.noteChange before := by
    refine if_neg fun ⟨waits, _⟩ => ?_
    rw [mode', mode] at waits
    exact nomatch waits
  have joining' : (s.noteChange before).history.joining = [] := by rw [history, joining]
  have flushed : (s.noteChange before).flushJoining = s.noteChange before := by
    refine updHist_eq_self ?_
    generalize (s.noteChange before).history = h at joining'
    rw [joining']
    show ({ h with fifo := h.fifo ++ [], joining := [] } : History) = h
    rw [List.append_nil, ← joining']
  rw [State.advanceStore, history_startStore, State.watchJournal, waiting, stalled, flushed, history]

/-- An event's end has the history and the store the store controller leaves. -/
theorem endEvent_beside (s before : State) :
    (s.endEvent before).history = (s.advanceStore before).history
      ∧ (s.endEvent before).store = (s.advanceStore before).store := by
  obtain ⟨_, history, store⟩ := arbitrateAll_beside (s.advanceStore before) s.untimed
  rw [State.endEvent, State.publishSince_history, State.publishSince_store, State.advanceWork, history, store]
  exact ⟨rfl, rfl⟩

end Sys2Proof.Machine
end

section
/-! O24: a charge that leaves the feeding bay feeding. -/

namespace Sys2Proof.Machine

/-! ### The volume in the residue (R70, R72 step 1) -/

/-- A volume added to a channel's total and to its residue. -/
def State.withVolume (s : State) (c : ChanId) (v : Nat) : State :=
  s.updChan c fun ch => { ch.addTotal v with residue := ch.residue + v }

theorem SameFeed.withVolume {c : ChanId} {s x : State} (h : SameFeed c s x) (v : Nat) :
    SameFeed c (s.withVolume c v) (x.withVolume c v) :=
  { h with
    chan := by
      simp only [State.withVolume, State.chan_updChan_self]
      exact congrArg (fun ch : Channel => { ch.addTotal v with residue := ch.residue + v }) h.chan
    chans := fun y other => by
      simp only [State.withVolume, State.chan_updChan_other _ c y _ other]
      exact h.chans y other }

section
variable (s : State) (c : ChanId) (v : Nat)

theorem chan_withVolume :
    (s.withVolume c v).chan c = { (s.chan c).addTotal v with residue := (s.chan c).residue + v } :=
  State.chan_updChan_self ..

theorem profile_withVolume (y : ChanId) : ((s.withVolume c v).chan y).profile = (s.chan y).profile := by
  by_cases here : y = c
  · rw [here, chan_withVolume]
    rfl
  · rw [State.withVolume, State.chan_updChan_other _ c y _ here]

theorem eligible_withVolume (b : BayId) : (s.withVolume c v).eligible b = s.eligible b := by
  have merit : SameMerit s (s.withVolume c v) := ⟨rfl, profile_withVolume s c v, fun _ => rfl⟩
  exact merit.eligible b rfl rfl

theorem feedingBay_withVolume : (s.withVolume c v).feedingBay c = s.feedingBay c :=
  feedingBay_congr (by rw [chan_withVolume]; rfl)

end

/-- A channel with a volume in its residue, charged m of the n whole marks it amounts to, the others set aside. -/
theorem Channel.charged_eq {ch : Channel} {v size n m : Nat} (marks : n = (ch.residue + v) / size)
    (total : ch.total + v < top64) (charged : ch.charged + m * size ≤ top64)
    (unbooked : ch.unbooked + (n - m) * size < top64) :
    Channel.addUnbooked
        { ({ ch.addTotal v with residue := ch.residue + v } : Channel) with
          residue := ch.residue + v - n * size, charged := satAdd top64 ch.charged (m * size) } ((n - m) * size)
      = { ch with
          total := ch.total + v, residue := (ch.residue + v) % size, charged := ch.charged + m * size
          unbooked := ch.unbooked + (n - m) * size } := by
  have rest : ch.residue + v - n * size = (ch.residue + v) % size := by rw [marks]; exact Nat.mod_eq_sub_div_mul.symm
  have sum : satAdd top64 ch.charged (m * size) = ch.charged + m * size := min_eq_right charged
  rw [addTotal_of_lt total, rest, sum]
  exact addUnbooked_of_lt unbooked

/-! ### What the volume amounts to at the feeding bay -/

section
variable {s u w : State} {b : BayId} {v n : Nat} {e : Option Nat} {x : State} {k : SlotId} {f : Slot → Slot}
  {g : Channel → Channel} (h : Charges s u w (chanOf b) v e x k f g)
include h

theorem Charges.due (marks : n = ((s.chan (chanOf b)).residue + v) / (s.bay b).markSize) :
    (x.withVolume (chanOf b) v).marksDue (chanOf b) b = n := by
  rw [State.marksDue, chan_withVolume, h.feed.residue, (h.feed.withVolume v).bay b, marks]
  rfl

theorem Charges.applied (marks : n = ((s.chan (chanOf b)).residue + v) / (s.bay b).markSize) :
    (x.withVolume (chanOf b) v).marksApplied (chanOf b) b = min n (s.bay b).book := by
  rw [State.marksApplied, h.due marks, (h.feed.withVolume v).bay b]
  rfl

/-- The channel charged the marks the book can take, those past it set aside (R70, R72). -/
theorem Charges.chan_converted (marks : n = ((s.chan (chanOf b)).residue + v) / (s.bay b).markSize)
    (total : (s.chan (chanOf b)).total + v < top64)
    (charged : (s.chan (chanOf b)).charged + min n (s.bay b).book * (s.bay b).markSize ≤ top64)
    (unbooked : (s.chan (chanOf b)).unbooked + (n - min n (s.bay b).book) * (s.bay b).markSize < top64) :
    ((x.withVolume (chanOf b) v).convert (chanOf b) b).chan (chanOf b)
      = { x.chan (chanOf b) with
          total := (x.chan (chanOf b)).total + v
          residue := ((x.chan (chanOf b)).residue + v) % (s.bay b).markSize
          charged := (x.chan (chanOf b)).charged + min n (s.bay b).book * (s.bay b).markSize
          unbooked := (x.chan (chanOf b)).unbooked + (n - min n (s.bay b).book) * (s.bay b).markSize } := by
  have feed := h.feed
  have mark : ((x.withVolume (chanOf b) v).bay b).markSize = (s.bay b).markSize :=
    congrArg Bay.markSize ((feed.withVolume v).bay b)
  rw [chan_convert, h.applied marks, h.due marks, chan_withVolume, mark]
  exact Channel.charged_eq (feed.residue ▸ marks) (feed.total ▸ total) (feed.charged ▸ charged)
    (feed.unbooked ▸ unbooked)

/-- A charge that the book outlasts, beside a twin that cannot take over, is a conversion. -/
theorem Charges.stays (marks : n = ((s.chan (chanOf b)).residue + v) / (s.bay b).markSize) (left : n < (s.bay b).book)
    (fed : s.feedingBay (chanOf b) = some b) (unfit : s.eligible (twinOf b) = false) :
    x.takeVolume (chanOf b) v = (x.withVolume (chanOf b) v).convert (chanOf b) b := by
  have feed := h.feed.withVolume v
  refine (takeVolume_fed (h.feed.feedingBay.trans fed) v).trans (chargeFeeding_stays ?_ ?_ ?_)
  · show (x.withVolume (chanOf b) v).marksApplied (chanOf b) b < ((x.withVolume (chanOf b) v).bay b).book
    rw [h.applied marks, feed.bay b]
    exact min_lt_of_left_lt left
  · exact feed.feedingBay.trans ((feedingBay_withVolume ..).trans fed)
  · exact (feed.eligible _).trans ((eligible_withVolume ..).trans unfit)

end

/-! ### The entry that follows -/

/-- The entry of a bay whose book has changed: its book follows, it is due below a multiple of 16, and it is as it was
otherwise (R41, R50). -/
theorem entry_followBook {s : State} {b : BayId} {serial : Serial} {e : Entry} (own : (s.bay b).entry = some serial)
    (found : s.entryOf serial = some e) (before : Nat) :
    ∃ x, (s.followBook b before).entryOf serial = some x
      ∧ x.content = Entry.content { e with book := (s.bay b).book }
      ∧ ((s.bay b).book / 16 < before / 16 → s.store.mode ≠ .degraded →
          x.journalDue = true
            ∧ (e.journalDue = false → ⟨serial, false⟩ ∈ (s.followBook b before).history.joining))
      ∧ (¬ (s.bay b).book / 16 < before / 16 → x.journalDue = e.journalDue
          ∧ (s.followBook b before).history.fifo = s.history.fifo
          ∧ (s.followBook b before).history.joining = s.history.joining) := by
  have named : e.serial = serial := (mem_of_entryOf found).2
  have follows : (s.updEntry serial fun e => { e with book := (s.bay b).book }).entryOf serial
      = some { e with book := (s.bay b).book } := by
    rw [entryOf_updEntry s serial serial (fun e => { e with book := (s.bay b).book }) fun _ => rfl, found,
      Option.map_some, if_pos named]
  rw [followBook_entry own]
  split
  · next falls =>
    obtain ⟨x, found', content⟩ := (kept_makeDue _ serial).entryOf follows
    refine ⟨x, found', content, fun _ mode => ?_, fun stays => absurd falls stays⟩
    obtain ⟨y, found'', due⟩ := makeDue_due follows mode
    rw [found'] at found''
    obtain rfl := Option.some.inj found''
    refine ⟨due, fun clear => joins_makeDue (fun y found'' due' => ?_) serial x found' due⟩
    rw [follows] at found''
    rw [← Option.some.inj found''] at due'
    exact nomatch clear.symm.trans due'
  · next stays => exact ⟨_, follows, rfl, fun falls => absurd falls stays, fun _ => ⟨rfl, rfl, rfl⟩⟩

theorem dueKept_endEvent (s before : State) : DueKept s (s.endEvent before) := by
  obtain ⟨history, store⟩ := endEvent_beside s before
  exact (dueKept_advanceStore s before).trans (.of_same (by rw [history]) (by rw [store]))

/-! ### The three parts of the charge -/

theorem Charges.bay {s u w : State} {c : ChanId} {v : Nat} {e : Option Nat} {x : State} {k : SlotId} {f : Slot → Slot}
    {g : Channel → Channel} (h : Charges s u w c v e x k f g) (b : BayId) : u.bay b = s.bay b := by
  rw [h.made]
  exact h.feed.bay b

section
variable {s u w : State} {b : BayId} {v n : Nat} {e : Option Nat} {x : State} {k : SlotId} {f : Slot → Slot}
  {g : Channel → Channel} (h : Charges s u w (chanOf b) v e x k f g)
  (marks : n = ((s.chan (chanOf b)).residue + v) / (s.bay b).markSize) (left : n < (s.bay b).book)
  (fed : s.feedingBay (chanOf b) = some b) (unfit : s.eligible (twinOf b) = false)
include h marks left fed unfit

/-- The channel charged n whole marks (R70, R72). -/
theorem Charges.chan_stays (total : (s.chan (chanOf b)).total + v < top64)
    (charged : (s.chan (chanOf b)).charged + n * (s.bay b).markSize ≤ top64)
    (unbooked : (s.chan (chanOf b)).unbooked < top64) :
    w.chan (chanOf b) = { u.chan (chanOf b) with
      total := (u.chan (chanOf b)).total + v
      residue := ((u.chan (chanOf b)).residue + v) % (s.bay b).markSize
      charged := (u.chan (chanOf b)).charged + n * (s.bay b).markSize, settleEnd := e } := by
  have feed := h.feed
  have same : u.chan (chanOf b) = x.chan (chanOf b) := by rw [h.made]; rfl
  have whole : min n (s.bay b).book = n := min_eq_left left.le
  have none' : (n - n) * (s.bay b).markSize = 0 := by rw [Nat.sub_self, Nat.zero_mul]
  have booked := h.chan_converted marks total (by rw [whole]; exact charged) (by rw [whole, none']; exact unbooked)
  rw [h.chan, h.stays marks left fed unfit, booked, whole, none', same]
  exact h.settles.eq feed.settleEnd

/-- The bay charged n whole marks (R72, R73). -/
theorem Charges.bay_stays (feeding : (s.bay b).state = .feeding) :
    w.bay b = { u.bay b with
      book := (u.bay b).book - n, pending := (u.bay b).pending + n
      wants := { (u.bay b).wants with
        burn := (u.bay b).wants.burn || (decide (0 < n) && (u.bay b).verdict.burns) } } := by
  have bay : (x.withVolume (chanOf b) v).bay b = s.bay b := (h.feed.withVolume v).bay b
  rw [h.bay, State.bay, h.bays, h.stays marks left fed unfit, ← State.bay,
    bay_convert_charged _ _ _ (by rw [bay, feeding]; rfl), h.applied marks, bay, min_eq_left left.le]

theorem Charges.bays_stay (other : BayId) (ne : other ≠ b) : w.bay other = u.bay other := by
  rw [h.bay, State.bay, h.bays, h.stays marks left fed unfit, ← State.bay, bay_convert_other _ _ _ _ ne]
  exact (h.feed.withVolume v).bay other

/-- With no whole mark the history table stands. -/
theorem Charges.history_stands (nothing : n = 0) : w.history = s.history := by
  rw [h.history, h.stays marks left fed unfit, history_convert_none (by rw [h.applied marks, nothing, Nat.zero_min])]
  exact h.feed.history

/-- With whole marks the entry of the bay follows: the history is what a fall of the book makes of a state `z` with the
entries and the store's figures of `s`. -/
theorem Charges.history_follows (some' : 0 < n) :
    ∃ z : State, w.history = (z.followBook b (s.bay b).book).history ∧ z.history = s.history ∧ z.store = s.store
      ∧ (z.bay b).entry = (s.bay b).entry ∧ (z.bay b).book = (s.bay b).book - n := by
  have feed := h.feed.withVolume v
  have applied := (h.applied marks).trans (min_eq_left left.le)
  refine ⟨(x.withVolume (chanOf b) v).chargeMarks (chanOf b) b, ?_, feed.history, feed.store, ?_, ?_⟩
  · rw [h.history, h.stays marks left fed unfit, history_convert (by rw [applied]; exact some'.ne'), feed.bay b]
    rfl
  · rw [bay_chargeMarks, feed.bay b]
    rfl
  · rw [bay_chargeMarks, applied, feed.bay b]
    rfl

/-- The entry of the bay once it is charged (R41, R50). -/
theorem Charges.entry_follows {serial : Serial} {y : Entry} (own : (s.bay b).entry = some serial)
    (found : s.entryOf serial = some y) (some' : 0 < n) :
    ∃ x, w.entryOf serial = some x ∧ x.content = Entry.content { y with book := (s.bay b).book - n }
      ∧ (((s.bay b).book - n) / 16 < (s.bay b).book / 16 → w.store.mode ≠ .degraded →
          x.journalDue = true ∧ (y.journalDue = false → ⟨serial, false⟩ ∈ w.history.joining))
      ∧ (¬ ((s.bay b).book - n) / 16 < (s.bay b).book / 16 → x.journalDue = y.journalDue
          ∧ w.history.fifo = s.history.fifo ∧ w.history.joining = s.history.joining) := by
  obtain ⟨z, history, same, store, entry, book⟩ := h.history_follows marks left fed unfit some'
  have mode : w.store = z.store := by rw [h.touches.store, h.made, store]; exact h.feed.store
  have found' : z.entryOf serial = some y := by rw [State.entryOf, same]; exact found
  obtain ⟨x, now, content, falls, stays⟩ := entry_followBook (entry.trans own) found' (s.bay b).book
  rw [book] at content falls stays
  rw [same] at stays
  rw [State.entryOf, history, mode]
  exact ⟨x, now, content, falls, stays⟩

/-- LEVEL where the charge takes the book across low_marks (R94). -/
theorem Charges.levels {p : Profile} (isSet : (s.chan (chanOf b)).profile = some p) (some' : 0 < n)
    (above : p.lowMarks < (s.bay b).book) (below : (s.bay b).book - n ≤ p.lowMarks) : w.notified .level = true := by
  have feed := h.feed.withVolume v
  have applied := (h.applied marks).trans (min_eq_left left.le)
  have book : ((x.withVolume (chanOf b) v).bay b).book = (s.bay b).book := by rw [feed.bay b]; rfl
  have profile : (x.withVolume (chanOf b) v).profileOf b = some p :=
    (feed.profile _).trans ((profile_withVolume ..).trans isSet)
  have raised := notified_convert (by rw [applied]; exact some'.ne') profile (by rw [book]; exact above)
    (by rw [book, applied]; exact below)
  rw [h.left, h.stays marks left fed unfit]
  exact raised

end

/-- A charge of the installed cartridge changes the content of its entry: what it is owed rises. -/
theorem entryContent_owed {s t : State} {b : BayId} {serial : Serial} {y x : Entry} (seq : Nat)
    (found : s.entryOf serial = some y) (seated : y.installedBay = some b) (now : t.entryOf serial = some x)
    (still : x.installedBay = some b) (rises : (s.bay b).pending ≠ (t.bay b).pending) :
    t.entryContent serial seq ≠ s.entryContent serial seq := by
  rw [State.entryContent, State.entryContent, found, now]
  intro same
  have owed : t.owedNow x = s.owedNow y := congrArg JournalRecord.owed (Option.some.inj same)
  rw [State.owedNow, State.owedNow, still, seated] at owed
  exact rises owed.symm

/-- Settles O24: the charge is a conversion, which changes the bay, the channel and the entry, and the store controller
then finds the entry's item and the change of its content. -/
theorem feedingBayIsCharged : Obligations.FeedingBayIsCharged := by
  intro s u cmd c v e b n brings fed feeding _ marks left unfit total charged unbooked
  obtain rfl := chanOf_feedingBay s c b fed
  obtain ⟨w, x, k, f, g, before, run, h, beside⟩ := exec_brings brings
  have kept := kept_endEvent w before
  obtain ⟨history, store⟩ := endEvent_beside w before
  have bay := h.bay_stays marks left fed unfit feeding
  refine ⟨_, run, .trans (h.touches.keptAtEnd rfl (bays_ext fun y => ?bay) (channels_ext fun y => ?chan) ?live ?counts)
    kept, fun p isSet some' above below => kept.notified (h.levels marks left fed unfit isSet some' above below),
    fun serial y j slot r own found seated some' op named mode => ?changed, fun serial y own found some' => ?entry⟩
  case bay =>
    by_cases here : y = b
    · rw [here]
      refine bay.trans (Eq.symm ?_)
      exact updAt_self u.bays b _
    · refine (h.bays_stay marks left fed unfit y here).trans (Eq.symm ?_)
      exact updAt_other u.bays b y _ here
  case chan =>
    by_cases here : y = chanOf b
    · rw [here]
      refine (h.chan_stays marks left fed unfit total charged unbooked).trans (Eq.symm ?_)
      exact updAt_self u.channels (chanOf b) _
    · refine (h.touches.chans y here).trans (Eq.symm ?_)
      exact updAt_other u.channels (chanOf b) y _ here
  case live =>
    by_cases nothing : n = 0
    · rw [h.history_stands marks left fed unfit nothing, if_pos nothing]
    · obtain ⟨z, follows, same, _, entry, book⟩ :=
        h.history_follows marks left fed unfit (Nat.pos_of_ne_zero nothing)
      rw [follows, live_followBook, same, entry, book, if_neg nothing]
  case counts =>
    obtain ⟨_, useCounter, _, evictions, untracked⟩ := h.touches.counts
    rw [useCounter, evictions, untracked, h.made]
    have same : x.history = s.history := h.feed.history
    show x.history.useCounter = _ ∧ x.history.evictions = _ ∧ x.history.untracked = _
    rw [same]
    split <;> exact ⟨rfl, rfl, rfl⟩
  case changed =>
    obtain ⟨z, now, content, _⟩ := h.entry_follows marks left fed unfit own found some'
    have op' : w.store.op = some (.append j slot r) := by
      rw [h.touches.store, h.made]
      exact (congrArg Store.op h.feed.store).trans op
    rw [store] at mode ⊢
    refine changed_advanceStore op' ?_ mode
    rw [named]
    refine entryContent_owed r.seq (y := y) ?_ seated now ((congrArg Entry.installedBay content :).trans seated) ?_
    · rw [State.entryOf, beside.history]
      exact found
    · rw [beside.bay, bay, h.bay]
      exact (Nat.lt_add_of_pos_right some').ne
  case entry =>
    obtain ⟨z, now, content, falls, stays⟩ := h.entry_follows marks left fed unfit own found some'
    obtain ⟨t, later, same⟩ := kept.entryOf now
    refine ⟨t, later, (congrArg Entry.book (same.trans content) :), fun less mode => ?falls,
      fun equal mode fifo joining => ?stays⟩
    case falls =>
      obtain ⟨mode', follow⟩ := dueKept_endEvent w before mode
      obtain ⟨due, joins⟩ := falls less mode'
      obtain ⟨t', later', follows⟩ := follow serial z now
      rw [later] at later'
      rw [← Option.some.inj later'] at follows
      rw [store] at mode
      exact ⟨follows.due due, fun clear => history ▸ joined_advanceStore (joins clear) mode⟩
    case stays =>
      obtain ⟨due, fifo', joining'⟩ := stays equal.not_lt
      have normal : w.store.mode = .normal := by
        rw [h.touches.store, h.made]
        exact (congrArg Store.mode h.feed.store).trans mode
      have quiet := history_advanceStore_quiet (before := before) normal (fifo'.trans fifo) (joining'.trans joining)
      rw [State.entryOf, history, quiet, ← State.entryOf, now] at later
      rw [history, quiet, ← Option.some.inj later]
      exact ⟨due, fifo'.trans fifo⟩

end Sys2Proof.Machine
end

section
/-! O25: a charge of the whole book. -/

namespace Sys2Proof.Machine

/-! ### A channel that closes -/

theorem bay_closeChannel (s : State) (c : ChanId) (cause : FeedCause) (b : BayId) :
    (s.closeChannel c cause).bay b = s.bay b := rfl

theorem chan_closeChannel (s : State) (c : ChanId) (cause : FeedCause) :
    (s.closeChannel c cause).chan c
      = { s.chan c with feedState := .closed, closedReason := cause.closes, feedCause := cause } :=
  State.chan_updChan_self ..

theorem notified_closeChannel (s : State) (c : ChanId) (cause : FeedCause) (n : Notice) :
    (s.closeChannel c cause).notified n = (s.notified n || decide (n = .channel)) := notified_raise ..

/-! ### A charge that drains the bay -/

theorem pending_drain (s : State) (b : BayId) : ((s.drain b).bay b).pending = (s.bay b).pending := by
  unfold State.drain
  rw [bay_moveBay_self, moved_pending, State.bay_updBay_self]

/-- A bay that enters DRAINED raises LEVEL (R94). -/
theorem notified_moveBay_drained {s : State} {b : BayId} (h : (s.bay b).state ≠ .drained) :
    (s.moveBay b .drained).notified .level = true := by
  have raised (u : State) : (u.raise .level).notified .level = true := by
    rw [notified_raise]
    exact Bool.or_true _
  unfold State.moveBay
  simp only [if_neg h, if_true]
  split
  · exact raised _
  · split <;> exact raised _

/-- A bay that feeds and drains raises BAY and LEVEL (R35, R94). -/
theorem notified_drain {s : State} {b : BayId} (feeding : (s.bay b).state = .feeding) :
    (s.drain b).notified .bay = true ∧ (s.drain b).notified .level = true := by
  have state : ((s.updBay b fun x => { x with barReason := s.barReasonOf b }).bay b).state = .feeding := by
    rw [State.bay_updBay_self]
    exact feeding
  exact ⟨notified_moveBay (by rw [state]; nofun), notified_moveBay_drained (by rw [state]; nofun)⟩

/-- A charge of the whole book beside a twin that cannot take over drains the bay and closes the channel (R102). -/
theorem chargeFeeding_drains {s : State} {b : BayId} (some' : 0 < (s.bay b).book)
    (whole : s.marksApplied (chanOf b) b = (s.bay b).book) (unfit : s.eligible (twinOf b) = false) :
    s.chargeFeeding b = ((s.convert (chanOf b) b).drain b).closeChannel (chanOf b) .drained := by
  obtain ⟨burn, bay⟩ := bay_convert_self s (chanOf b) b
  have empty : ((s.convert (chanOf b) b).bay b).book = 0 := by
    rw [bay, whole]
    exact Nat.sub_self _
  have still := (convert_twin s b).trans unfit
  unfold State.chargeFeeding
  rw [if_neg (by rw [whole]; exact some'.ne')]
  obtain ⟨_, fit, _⟩ | ⟨_, _, after⟩ | ⟨left, _, _⟩ | ⟨left, _⟩ := afterMarks_cases (s.convert (chanOf b) b) b
  · exact nomatch fit.symm.trans still
  · rw [after]
  · exact absurd empty left
  · exact absurd empty left

section
variable {s u w : State} {b : BayId} {v n : Nat} {e : Option Nat} {x : State} {k : SlotId} {f : Slot → Slot}
  {g : Channel → Channel} (h : Charges s u w (chanOf b) v e x k f g)
  (marks : n = ((s.chan (chanOf b)).residue + v) / (s.bay b).markSize) (some' : 0 < (s.bay b).book)
  (whole : (s.bay b).book ≤ n) (fed : s.feedingBay (chanOf b) = some b) (unfit : s.eligible (twinOf b) = false)
include h marks some' whole fed unfit

theorem Charges.drains :
    x.takeVolume (chanOf b) v
      = (((x.withVolume (chanOf b) v).convert (chanOf b) b).drain b).closeChannel (chanOf b) .drained := by
  have feed := h.feed.withVolume v
  have book : ((x.withVolume (chanOf b) v).bay b).book = (s.bay b).book := congrArg Bay.book (feed.bay b)
  have applied := (h.applied marks).trans (min_eq_right whole)
  exact (takeVolume_fed (h.feed.feedingBay.trans fed) v).trans (chargeFeeding_drains (book.symm ▸ some')
    (applied.trans book.symm) ((feed.eligible _).trans ((eligible_withVolume ..).trans unfit)))

/-- The bay drained: its book is spent, its pending grown by it (R72). -/
theorem Charges.bay_drains :
    (w.bay b).state = .drained ∧ (w.bay b).book = 0 ∧ (w.bay b).pending = (s.bay b).pending + (s.bay b).book
      ∧ (w.bay b).tagGauge = (s.bay b).tagGauge := by
  have same : (x.withVolume (chanOf b) v).bay b = s.bay b := (h.feed.withVolume v).bay b
  have applied := (h.applied marks).trans (min_eq_right whole)
  obtain ⟨burn, bay⟩ := bay_convert_self (x.withVolume (chanOf b) v) (chanOf b) b
  rw [applied, same] at bay
  have drained : w.bay b = (((x.withVolume (chanOf b) v).convert (chanOf b) b).drain b).bay b := by
    rw [State.bay, h.bays, h.drains marks some' whole fed unfit, ← State.bay, bay_closeChannel]
  obtain ⟨state, book⟩ := bay_drain_self ((x.withVolume (chanOf b) v).convert (chanOf b) b) b
  obtain ⟨gauge, _⟩ := h.touches.gauge b
  refine ⟨?_, ?_, ?_, gauge.trans (by rw [h.bay])⟩
  · rw [drained, state]
  · rw [drained, book, bay]
    exact Nat.sub_self _
  · rw [drained, pending_drain, bay]

theorem Charges.bays_beside (other : BayId) (ne : other ≠ b) : w.bay other = s.bay other := by
  rw [State.bay, h.bays, h.drains marks some' whole fed unfit, ← State.bay, bay_closeChannel,
    bay_drain_other _ b other ne, bay_convert_other _ _ b other ne]
  exact (h.feed.withVolume v).bay other

/-- The channel closed: the marks the book could take are charged, those past it unbooked (R72, R102). -/
theorem Charges.chan_closes (total : (s.chan (chanOf b)).total + v < top64)
    (charged : (s.chan (chanOf b)).charged + (s.bay b).book * (s.bay b).markSize ≤ top64)
    (unbooked : (s.chan (chanOf b)).unbooked + (n - (s.bay b).book) * (s.bay b).markSize < top64) :
    w.chan (chanOf b) = { x.chan (chanOf b) with
      total := (x.chan (chanOf b)).total + v
      residue := ((x.chan (chanOf b)).residue + v) % (s.bay b).markSize
      charged := (x.chan (chanOf b)).charged + (s.bay b).book * (s.bay b).markSize
      unbooked := (x.chan (chanOf b)).unbooked + (n - (s.bay b).book) * (s.bay b).markSize
      feedState := .closed, closedReason := .drained, feedCause := .drained, settleEnd := e } := by
  have min' : min n (s.bay b).book = (s.bay b).book := min_eq_right whole
  have booked := h.chan_converted marks total (by rw [min']; exact charged) (by rw [min']; exact unbooked)
  rw [h.chan, h.drains marks some' whole fed unfit, chan_closeChannel, chan_drain, booked, min']
  exact h.settles.eq h.feed.settleEnd

theorem Charges.notices_drain (feeding : (s.bay b).state = .feeding) :
    w.notified .level = true ∧ w.notified .bay = true ∧ w.notified .channel = true := by
  have same : (x.withVolume (chanOf b) v).bay b = s.bay b := (h.feed.withVolume v).bay b
  obtain ⟨burn, bay⟩ := bay_convert_self (x.withVolume (chanOf b) v) (chanOf b) b
  obtain ⟨moved, level⟩ := notified_drain (s := (x.withVolume (chanOf b) v).convert (chanOf b) b) (b := b)
    (by rw [bay, same]; exact feeding)
  have raised (m : Notice) : w.notified m
      = ((((x.withVolume (chanOf b) v).convert (chanOf b) b).drain b).notified m || decide (m = .channel)) := by
    rw [← notified_closeChannel _ (chanOf b) .drained, ← h.drains marks some' whole fed unfit, h.left]
    rfl
  rw [raised, raised, raised, level, moved]
  exact ⟨rfl, rfl, Bool.or_true _⟩

end

/-- What a charge leaves of the part (R70 to R73). -/
theorem Charges.beside {s u w : State} {c : ChanId} {v : Nat} {e : Option Nat} {x : State} {k : SlotId}
    {f : Slot → Slot} {g : Channel → Channel} (h : Charges s u w c v e x k f g) :
    w.flash = s.flash ∧ w.latch = s.latch ∧ w.auth = s.auth ∧ ∀ y, y ≠ c → w.chan y = s.chan y := by
  have touched := h.touches
  obtain ⟨feed, made, _, _⟩ := h
  subst made
  exact ⟨touched.flash.trans feed.flash, touched.latch.trans feed.latch, touched.auth.trans feed.auth,
    fun y ne => (touched.chans y ne).trans (feed.chans y ne)⟩

/-- Settles O25: the bay drains at the conversion, and without a twin to feed the channel closes. -/
theorem feedingBayDrains : Obligations.FeedingBayDrains := by
  intro s u cmd c v e b n brings fed feeding _ marks some' whole unfit total charged unbooked
  obtain rfl := chanOf_feedingBay s c b fed
  obtain ⟨w, x, k, f, g, before, run, h, _⟩ := exec_brings brings
  have kept := kept_endEvent w before
  obtain ⟨state, book, pending, gauge⟩ := h.bay_drains marks some' whole fed unfit
  obtain ⟨level, moved, channel⟩ := h.notices_drain marks some' whole fed unfit feeding
  have chan (y : ChanId) : (w.endEvent before).chan y = w.chan y := congrArg (·[y]) kept.channels
  have closes := (chan _).trans (h.chan_closes marks some' whole fed unfit total charged unbooked)
  obtain ⟨flash, latch, auth, chans⟩ := h.beside
  refine ⟨_, run, (kept.bayField Bay.state b fun _ => rfl).trans state,
    (kept.bayField Bay.book b fun _ => rfl).trans book, (kept.bayField Bay.pending b fun _ => rfl).trans pending,
    (kept.bayField Bay.tagGauge b fun _ => rfl).trans gauge, (feedingBay_none_iff _ _).mpr (by rw [closes]),
    by rw [closes], by rw [closes], ?_, ?_, ?_, by rw [closes], kept.notified level, kept.notified moved,
    kept.notified channel, fun y ne => ?_, fun y ne => (chan y).trans (chans y ne), kept.flash.trans flash,
    kept.latch.trans latch, kept.auth.trans auth⟩
  · rw [closes, h.feed.residue]
  · rw [closes, h.feed.charged]
  · rw [closes, h.feed.unbooked]
  · rw [kept.bays, h.bays_beside marks some' whole fed unfit y ne]

end Sys2Proof.Machine
end

section
/-! SUPPORT. What erasing and programming leave of the flash beside them, and the profile switch, field by field (R60,
R112, R116, R156, R174). -/

namespace Sys2Proof.Machine

/-! ### The flash beside an erase and a program -/

theorem Memory.read_erase_outside (m : Memory) (base size : Nat) {a : Nat} (outside : a < base ∨ base + size ≤ a) :
    (m.erase base size).read a = m.read a := by
  induction m with
  | nil => rfl
  | cons cell m ih =>
    obtain ⟨i, v⟩ := cell
    by_cases kept : i < base ∨ base + size ≤ i
    · have head : Memory.erase ((i, v) :: m) base size = (i, v) :: Memory.erase m base size := by
        simp [Memory.erase, kept]
      rw [head, Memory.read, Memory.read, ih]
    · have gone : Memory.erase ((i, v) :: m) base size = Memory.erase m base size := by simp [Memory.erase, kept]
      have other : i ≠ a := fun same => kept (same ▸ outside)
      rw [gone, ih, Memory.read, if_neg other]

theorem Memory.read_writeRun_outside (m : Memory) (base : Nat) (l : List Byte) {a : Nat}
    (outside : a < base ∨ base + l.length ≤ a) : (m.writeRun base l).read a = m.read a := by
  induction l generalizing m base with
  | nil => rfl
  | cons v l ih =>
    rw [List.length_cons] at outside
    rw [Memory.writeRun, ih _ _ (by omega), Memory.read_write_other _ _ _ _ (by omega)]

theorem Memory.read_scatter_outside (m : Memory) (base size : Nat) (l : List (Nat × Byte)) {a : Nat}
    (outside : a < base ∨ base + size ≤ a) : (m.scatter base size l).read a = m.read a := by
  unfold Memory.scatter
  induction l generalizing m with
  | nil => rfl
  | cons cell l ih =>
    rw [List.foldl_cons, ih]
    split
    · exact Memory.read_write_other _ _ _ _ (by omega)
    · rfl

/-- Profile records are programmed within sector 0. -/
theorem read_programProfiles_outside (m : Memory) (l : List (ChanId × Profile)) {a : Nat} (outside : 4096 ≤ a) :
    (programProfiles m l).read a = m.read a := by
  unfold programProfiles
  induction l generalizing m with
  | nil => rfl
  | cons r l ih =>
    rw [List.foldl_cons, ih]
    refine Memory.read_writeRun_outside _ _ _ (.inr ?_)
    rw [Vector.length_toList]
    omega

/-- A rewrite changes sector 0 alone, however it ends (R174). -/
theorem read_rewriteResult_outside (s : State) (c : ChanId) (p : Profile) (result : RewriteEnd) {a : Nat}
    (outside : 4096 ≤ a) : (s.rewriteResult c p result).read a = s.flash.read a := by
  have erased : (s.flash.erase 0 4096).read a = s.flash.read a :=
    Memory.read_erase_outside _ 0 4096 (.inr ((Nat.zero_add 4096).le.trans outside))
  obtain ⟨_, whole⟩ | ⟨step, left, _, _, cut⟩ := rewriteResult_eq s c p result
  · rw [whole, State.wholeRewrite, read_programProfiles_outside _ _ outside, erased]
  · rw [cut, cutRewrite]
    split
    · rw [Memory.read_scatter_outside _ 0 4096 _ (.inr ((Nat.zero_add 4096).le.trans outside)), erased]
    · simp only
      split
      · rw [Memory.read_scatter_outside _ _ _ _ (.inr (by omega)), read_programProfiles_outside _ _ outside, erased]
      · rw [read_programProfiles_outside _ _ outside, erased]

/-! ### The end of a rewrite by its read-back (R156) -/

theorem endRewrite_eq (s : State) (k : SlotId) (c : ChanId) (p : Profile) (result : RewriteEnd) :
    s.endRewrite k c p result
      = if s.rewriteVerifies c p result then
          ({ s with flash := s.rewriteResult c p result }.idleStore).rewriteDone k c p
        else ({ s with flash := s.rewriteResult c p result }.idleStore).rewriteFailed k := rfl

theorem endRewrite_verified (s : State) (k : SlotId) (c : ChanId) (p : Profile) :
    s.endRewrite k c p .verified = ({ s with flash := s.wholeRewrite c p }.idleStore).rewriteDone k c p := rfl

/-- A rewrite whose every step verifies ends as one, whatever step the command names. -/
theorem endRewrite_verifies {s : State} {c : ChanId} {p : Profile} {result : RewriteEnd} (k : SlotId)
    (verifies : s.rewriteVerifies c p result = true) : s.endRewrite k c p result = s.endRewrite k c p .verified := by
  obtain ⟨_, whole⟩ | ⟨_, _, _, fails, _⟩ := rewriteResult_eq s c p result
  · rw [endRewrite_eq, if_pos verifies, whole, endRewrite_verified]
  · exact nomatch verifies.symm.trans fails

/-- An erase that leaves no byte has verified. -/
theorem rewriteVerifies_erased (s : State) (c : ChanId) (p : Profile) : s.rewriteVerifies c p (.failed 0 []) = true :=
  Memory.blank_erase s.flash 0 4096

/-! ### The end of the event -/

theorem KeptAtEnd.resetPending {s t : State} (h : KeptAtEnd s t) : t.port.resetPending = s.port.resetPending :=
  (congrArg Port.resetPending h.port :)

/-- With no reset pending the end of a flash operation leaves what any event's end leaves. -/
theorem kept_endFlash {s : State} (noReset : s.port.resetPending = false) (before : State) :
    KeptAtEnd s (s.endFlash before) := by
  have work := kept_advanceWork s before
  have still : (s.advanceWork before).port.resetPending = false := work.resetPending.trans noReset
  have goesOn : s.endFlash before = (s.advanceWork before).publishSince before :=
    if_neg fun ⟨pending, _⟩ => nomatch still.symm.trans pending
  rw [goesOn]
  exact work.trans (kept_publishSince _ before)

/-- A ticket answered by the operation that ends keeps its answer to the end of the event. -/
theorem slot_answered {s t : State} {k : SlotId} {a : Answer} (taken : (s.slot k).hand = .taken)
    (h : KeptAtEnd (s.writeAnswer k a) t) : t.slot k = (s.slot k).answered a := by
  have answered := State.slot_writeAnswer_self s k a taken
  rw [h.slots k (.inl (by rw [answered]; exact nofun)), answered]

/-! ### The switch of a profile (R60, R112, R116) -/

/-- A channel context with a profile switched to. -/
def Channel.installed (ch : Channel) (p : Profile) : Channel :=
  { ch.switchAccounts p with
    profile := some p
    closedReason := if ch.profile.isNone then .empty else ch.closedReason }

section
variable (s : State) (c : ChanId) (p : Profile)

/-- What neither a notice nor a window shows, the switch changes by the channel's own context. -/
theorem installProfile_keeps {α : Type} (q : State → α) (hr : ∀ u : State, q (u.raise .channel) = q u)
    (hw : ∀ (u : State) (b : BayId), q (u.emptyWindow b) = q u) :
    q (s.installProfile c p) = q (s.updChan c fun ch => ch.installed p) := by
  unfold State.installProfile
  extract_lets old u v
  have own : u = s.updChan c fun ch => ch.installed p := updChan_congr rfl
  have raised : q v = q u := by
    unfold v
    split
    · exact hr u
    · rfl
  rw [← own, ← raised]
  split
  · rw [hw, hw]
  · rfl

theorem chan_installProfile : (s.installProfile c p).chan c = (s.chan c).installed p :=
  (installProfile_keeps s c p (·.chan c) (fun _ => rfl) fun _ _ => rfl).trans (State.chan_updChan_self ..)

theorem chan_installProfile_other (y : ChanId) (ne : y ≠ c) : (s.installProfile c p).chan y = s.chan y :=
  (installProfile_keeps s c p (·.chan y) (fun _ => rfl) fun _ _ => rfl).trans (State.chan_updChan_other s c y _ ne)

theorem slot_installProfile (k : SlotId) : (s.installProfile c p).slot k = s.slot k :=
  installProfile_keeps s c p (·.slot k) (fun _ => rfl) fun _ _ => rfl

theorem flash_installProfile : (s.installProfile c p).flash = s.flash :=
  installProfile_keeps s c p (·.flash) (fun _ => rfl) fun _ _ => rfl

theorem resetPending_installProfile : (s.installProfile c p).port.resetPending = s.port.resetPending :=
  installProfile_keeps s c p (·.port.resetPending) (fun _ => rfl) fun _ _ => rfl

/-- A channel that was unset raises CHANNEL (R60). -/
theorem notified_installProfile (unset : (s.chan c).profile = none) :
    (s.installProfile c p).notified .channel = true := by
  have raised (u : State) : (u.raise .channel).notified .channel = true := by
    rw [notified_raise]
    exact Bool.or_true _
  have old : (s.chan c).profile.isNone = true := by rw [unset]; rfl
  unfold State.installProfile
  simp only [old, if_true]
  split <;> exact raised _

theorem bayA_ne_bayB : ∀ y : ChanId, bayA y ≠ bayB y := by decide

/-- The windows of the channel's bays are emptied where a setting of theirs changes (R116). -/
theorem bay_installProfile (b : BayId) :
    (s.installProfile c p).bay b
      = if chanOf b = c ∧ (s.chan c).profile.map Profile.windowSettings ≠ some p.windowSettings then
          { s.bay b with sense := (s.bay b).sense.emptyWindow }
        else s.bay b := by
  have emptied (u : State) (x : BayId) : (u.emptyWindow x).bay b
      = if b = x then { u.bay b with sense := (u.bay b).sense.emptyWindow } else u.bay b := bay_updBay ..
  have noticed (u : State) (unset : Prop) [Decidable unset] :
      (if unset then u.raise .channel else u).bay b = u.bay b := by split <;> rfl
  unfold State.installProfile
  extract_lets old u v
  have before : v.bay b = s.bay b := noticed u _
  by_cases changes : old.map Profile.windowSettings ≠ some p.windowSettings
  · rw [if_pos changes, emptied, emptied, before]
    by_cases own : chanOf b = c
    · have cond : chanOf b = c ∧ (s.chan c).profile.map Profile.windowSettings ≠ some p.windowSettings := ⟨own, changes⟩
      rw [if_pos cond]
      subst own
      obtain here | here := bayA_or_bayB b
      · rw [if_neg (here.trans_ne (bayA_ne_bayB _)), if_pos here]
      · rw [if_pos here, if_neg (here.trans_ne (bayA_ne_bayB _).symm)]
    · have notA : b ≠ bayA c := fun here => own (here ▸ chanOf_bayA c)
      have notB : b ≠ bayB c := fun here => own (here ▸ chanOf_bayB c)
      rw [if_neg notB, if_neg notA, if_neg fun ⟨same, _⟩ => own same]
  · rw [if_neg changes, before, if_neg fun ⟨_, differs⟩ => changes differs]

end

/-! ### The channel's accounts (R60) -/

section
variable (ch : Channel) (p : Profile)

/-- The switch leaves total and charged, and the feed. -/
theorem installed_keeps : (ch.installed p).total = ch.total ∧ (ch.installed p).charged = ch.charged
    ∧ (ch.installed p).feedState = ch.feedState := by
  unfold Channel.installed Channel.switchAccounts
  simp only
  split <;> split <;> exact ⟨rfl, rfl, rfl⟩

variable {ch p}

theorem installed_sameInk (same : ch.profile.map (·.inkType) = some p.inkType) :
    (ch.installed p).residue = ch.residue ∧ (ch.installed p).unbooked = ch.unbooked := by
  have ink : decide (ch.profile.map (·.inkType) ≠ some p.inkType) = false := decide_eq_false (not_not.mpr same)
  unfold Channel.installed Channel.switchAccounts
  simp only [ink, Bool.false_eq_true, if_false]
  split <;> exact ⟨rfl, rfl⟩

theorem installed_newInk (changes : ch.profile.map (·.inkType) ≠ some p.inkType)
    (room : ch.unbooked + ch.residue < top64) :
    (ch.installed p).residue = 0 ∧ (ch.installed p).unbooked = ch.unbooked + ch.residue := by
  have sum : satAdd top64 ch.unbooked ch.residue = ch.unbooked + ch.residue := min_eq_right room.le
  have ink : decide (ch.profile.map (·.inkType) ≠ some p.inkType) = true := decide_eq_true changes
  unfold Channel.installed Channel.switchAccounts
  simp only [ink, if_true]
  split <;> exact ⟨trivial, sum⟩

theorem installed_seqStarted :
    (ch.installed p).seqStarted
      = if ch.profile.map (·.tallySource) = some p.tallySource then ch.seqStarted else false := by
  by_cases same : ch.profile.map (·.tallySource) = some p.tallySource
  · have source : decide (ch.profile.map (·.tallySource) ≠ some p.tallySource) = false :=
      decide_eq_false (not_not.mpr same)
    unfold Channel.installed Channel.switchAccounts
    simp only [source, Bool.false_eq_true, if_false, if_pos same]
    split <;> rfl
  · have source : decide (ch.profile.map (·.tallySource) ≠ some p.tallySource) = true := decide_eq_true same
    unfold Channel.installed Channel.switchAccounts
    simp only [source, if_true, if_neg same]
    split <;> rfl

end

end Sys2Proof.Machine
end

section
/-! O59: the end of a profile rewrite. -/

namespace Sys2Proof.Machine

/-- A vacant bay is not decided on. -/
theorem not_decided_of_vacant {x : BayState} (h : x.vacant = true) : x.decided = false := by
  cases x with
  | empty | settling => rfl
  | identifying | challenging | reconciling | standby | feeding | barred | drained | fault => exact nomatch h

/-- Beside vacant bays a switch re-evaluates none (R31, R174). -/
theorem switchProfile_vacant {s : State} {c : ChanId} {p : Profile}
    (vacant : (s.chan c).profile.map (·.inkType) ≠ some p.inkType →
      (s.bay (bayA c)).state.vacant = true ∧ (s.bay (bayB c)).state.vacant = true) :
    s.switchProfile c p = s.installProfile c p := by
  rw [switchProfile_eq]
  split
  · next changes =>
    obtain ⟨vacantA, vacantB⟩ := vacant changes
    have bays := (installed_installProfile s c p).bays
    have stands (b : BayId) (h : (s.bay b).state.vacant = true) :
        (s.installProfile c p).reevaluate b = s.installProfile c p := by
      obtain ⟨state, _⟩ := bays b
      exact reevaluate_undecided _ b (by rw [state]; exact not_decided_of_vacant h)
    rw [stands _ vacantA, stands _ vacantB]
  · rfl

section
variable {s t : State} {k : SlotId} {c : ChanId} {p : Profile}

/-- The end of a rewrite whose every step verified, but for the end of the event: profile, profile_state and answer. -/
def State.rewritten (s : State) (k : SlotId) (c : ChanId) (p : Profile) : State :=
  ((({ s with flash := s.wholeRewrite c p }.idleStore).installProfile c p).updStore fun x =>
    { x with profileState := .good }).writeAnswer k (answerOf .done [natByte c.val, ProfileState.good.code])

theorem endRewrite_done
    (vacant : (s.chan c).profile.map (·.inkType) ≠ some p.inkType →
      (s.bay (bayA c)).state.vacant = true ∧ (s.bay (bayB c)).state.vacant = true) :
    s.endRewrite k c p .verified = s.rewritten k c p := by
  rw [endRewrite_verified, State.rewriteDone,
    switchProfile_vacant (s := ({ s with flash := s.wholeRewrite c p } : State).idleStore) vacant]
  rfl

theorem chan_rewritten : (s.rewritten k c p).chan c = (s.chan c).installed p := by
  rw [State.rewritten, State.chan, State.writeAnswer_channels]
  exact chan_installProfile _ c p

theorem chan_rewritten_other (y : ChanId) (ne : y ≠ c) : (s.rewritten k c p).chan y = s.chan y := by
  rw [State.rewritten, State.chan, State.writeAnswer_channels]
  exact chan_installProfile_other _ c p y ne

theorem bay_rewritten (b : BayId) :
    (s.rewritten k c p).bay b
      = if chanOf b = c ∧ (s.chan c).profile.map Profile.windowSettings ≠ some p.windowSettings then
          { s.bay b with sense := (s.bay b).sense.emptyWindow }
        else s.bay b := by
  rw [State.rewritten, State.bay, State.writeAnswer_bays]
  exact bay_installProfile _ c p b

theorem flash_rewritten : (s.rewritten k c p).flash = s.wholeRewrite c p := by
  rw [State.rewritten, State.writeAnswer_flash]
  exact flash_installProfile _ c p

theorem profileState_rewritten : (s.rewritten k c p).store.profileState = .good := by
  rw [State.rewritten, State.writeAnswer_store]
  rfl

theorem resetPending_writeAnswer (s : State) (k : SlotId) (a : Answer) :
    (s.writeAnswer k a).port.resetPending = s.port.resetPending := by
  unfold State.writeAnswer
  split <;> rfl

theorem resetPending_rewritten : (s.rewritten k c p).port.resetPending = s.port.resetPending := by
  rw [State.rewritten, resetPending_writeAnswer]
  exact resetPending_installProfile _ c p

end

/-- The end of a profile rewrite, with the end of its event. -/
theorem exec_profileRewrite {s : State} {k : SlotId} {c : ChanId} {p : Profile}
    (op : s.store.op = some (.profileRewrite k c p)) (result : RewriteEnd) :
    exec (.profileRewrite result) s = .next ((s.endRewrite k c p result).endFlash s) := by
  exact congrArg Host.Outcome.next (by rw [op])

/-- A rewrite that verified, at the end of its event. -/
theorem slot_rewritten {s t : State} {k : SlotId} {c : ChanId} {p : Profile} (taken : (s.slot k).hand = .taken)
    (h : KeptAtEnd (s.rewritten k c p) t) :
    t.slot k = (s.slot k).answered (answerOf .done [natByte c.val, ProfileState.good.code]) := by
  have stands : ((({ s with flash := s.wholeRewrite c p } : State).idleStore.installProfile c p).updStore fun x =>
      { x with profileState := .good }).slot k = s.slot k := slot_installProfile _ c p k
  have answered := slot_answered (stands ▸ taken) h
  rw [stands] at answered
  exact answered

theorem notified_rewritten {s : State} {k : SlotId} {c : ChanId} {p : Profile} (unset : (s.chan c).profile = none) :
    (s.rewritten k c p).notified .channel = true :=
  notified_of_notices (answer_writeAnswer 0 _ k _).notices
    (notified_installProfile ({ s with flash := s.wholeRewrite c p } : State).idleStore c p unset)

/-- The end of a rewrite that stopped at a step, but for its answer: profile_state and STORE (R174). -/
def State.rewriteCut (s : State) (c : ChanId) (p : Profile) (result : RewriteEnd) : State :=
  (({ s with flash := s.rewriteResult c p result }.idleStore).updStore fun x =>
    { x with profileState := .damaged }).raise .store

theorem endRewrite_cut {s : State} {c : ChanId} {p : Profile} {result : RewriteEnd} (k : SlotId)
    (fails : s.rewriteVerifies c p result = false) :
    s.endRewrite k c p result = (s.rewriteCut c p result).writeAnswer k (plainAnswer .storeFault) := by
  rw [endRewrite_eq, if_neg (by rw [fails]; exact Bool.false_ne_true)]
  rfl

theorem notified_rewriteCut (s : State) (c : ChanId) (p : Profile) (result : RewriteEnd) :
    (s.rewriteCut c p result).notified .store = true := by
  rw [State.rewriteCut, notified_raise]
  exact Bool.or_true _

theorem word_done (l : List Byte) : (answerOf .done l).word = 0x0001#16 := by
  show 0#8 ++ Status.done.code = 0x0001#16
  decide

theorem word_storeFault : (plainAnswer .storeFault).word = 0x000D#16 := by
  show 0#8 ++ Status.storeFault.code = 0x000D#16
  decide

/-- Settles O59: a rewrite ends by the read-back of each step; beside vacant bays the switch of the profile re-evaluates
none of them. -/
theorem profileRewritesEnd : Obligations.ProfileRewritesEnd := by
  intro k c p s op noReset _ taken vacant room
  have ends (result : RewriteEnd) (verifies : s.rewriteVerifies c p result = true) :
      exec (.profileRewrite result) s = exec (.profileRewrite .verified) s := by
    rw [exec_profileRewrite op, exec_profileRewrite op, endRewrite_verifies k verifies]
  refine ⟨?verified, ends _ (rewriteVerifies_erased s c p), fun step left => ⟨ends _, fun fails => ?failed⟩⟩
  case verified =>
    have kept := kept_endFlash (s := s.rewritten k c p) (resetPending_rewritten.trans noReset) s
    have run := exec_profileRewrite op .verified
    rw [endRewrite_done vacant] at run
    generalize (s.rewritten k c p).endFlash s = t at kept run
    have chan : t.chan c = (s.chan c).installed p := (congrArg (·[c]) kept.channels).trans chan_rewritten
    have slot := slot_rewritten taken kept
    obtain ⟨total, charged, feed⟩ := installed_keeps (s.chan c) p
    refine ⟨t, run, by rw [chan]; rfl, fun y ne => (congrArg (·[y]) kept.channels).trans (chan_rewritten_other y ne),
      ?store, by rw [slot]; rfl, by rw [slot]; exact word_done _, by rw [slot]; rfl, by rw [chan, total],
      by rw [chan, charged], fun same => ?sameInk, fun changes => ?newInk,
      fun unset => ⟨?reason, kept.notified (notified_rewritten unset)⟩, by rw [chan, feed], fun same => ?source,
      fun changes => ?newSource, fun b => ?state, fun a outside => ?flash, fun b own changes => ?emptied,
      fun b stands => ?stands⟩
    case store => exact (congrArg Store.profileState kept.store :).trans profileState_rewritten
    case sameInk =>
      rw [chan]
      exact installed_sameInk same
    case newInk =>
      rw [chan]
      exact installed_newInk changes room
    case reason =>
      rw [chan, Channel.installed, unset]
      rfl
    case source => rw [chan, installed_seqStarted, if_pos same]
    case newSource => rw [chan, installed_seqStarted, if_neg changes]
    case state =>
      rw [kept.bayField Bay.state b fun _ => rfl, bay_rewritten]
      split <;> rfl
    case flash =>
      rw [kept.flash, flash_rewritten]
      exact read_rewriteResult_outside s c p .verified (by omega)
    case emptied =>
      rw [kept.bays, bay_rewritten, if_pos ⟨own, changes⟩]
      rfl
    case stands => rw [kept.bays, bay_rewritten, if_neg fun ⟨own, changes⟩ => stands.elim (· own) changes]
  case failed =>
    have run := exec_profileRewrite op (.failed step left)
    rw [endRewrite_cut k fails] at run
    have kept := kept_endFlash (s := (s.rewriteCut c p (.failed step left)).writeAnswer k (plainAnswer .storeFault))
      ((resetPending_writeAnswer ..).trans noReset) s
    generalize State.endFlash _ s = t at kept run
    have slot := slot_answered (s := s.rewriteCut c p (.failed step left)) taken kept
    have channels : t.channels = s.channels := kept.channels.trans (State.writeAnswer_channels ..)
    refine ⟨t, run, congrArg (fun l : Vector Channel 12 => (l[c]).profile) channels, ?store,
      kept.notified (notified_of_notices (answer_writeAnswer 0 _ k _).notices (notified_rewriteCut ..)),
      by rw [slot]; rfl, by rw [slot]; exact word_storeFault, channels, fun b => ?bays, fun a outside => ?flash⟩
    case store =>
      refine (congrArg Store.profileState kept.store :).trans ?_
      rw [State.writeAnswer_store]
      rfl
    case bays =>
      rw [kept.bays, State.bay, State.writeAnswer_bays]
      rfl
    case flash =>
      rw [kept.flash, State.writeAnswer_flash]
      exact read_rewriteResult_outside s c p (.failed step left) (by omega)

end Sys2Proof.Machine
end
